-- ==== Sys2Proof/Word.lean ====
section
/-!
DEFINITION. The word types of the SPX-7720/SPX-7718 model.
-/
namespace Sys2Proof

/-- A 32-bit register, memory word or field container (R6, R8). -/
abbrev Word := BitVec 32

/-- One byte of memory or of a frame (R6, R7). -/
abbrev Byte := BitVec 8

/-- A number of one of the general registers g0 to g31 of the Kraura core (R400). -/
abbrev GReg := Fin 32

/-- One of the two demodulators of the receiver. -/
inductive Lane where
  | a
  | b
  deriving DecidableEq, Repr

/-- The two physical channels of the Keyholder engine. -/
inductive KeyChannel where
  | l
  | o
  deriving DecidableEq, Repr

/-- Who sent a command to a unit that serves both sides: firmware on the core, or the host over the chain port. -/
inductive Party where
  | core
  | host
  deriving DecidableEq, Repr

end Sys2Proof
end

