-- ==== Sys2Proof/Syntax.lean ====
section
/-!
DEFINITION. The commands of the SPX-7720/SPX-7718: one constructor per row of spec/opcode_table.json, in the table's order.

A command is an event of the device's surroundings, an access to one of its registers, a step of one of its engines at
the instant the spec gives it, or one instruction of the Kraura core executed at its program counter. Operands carry what the
command brings with it: register numbers and immediates of an instruction, the value and the LCLK cycle (`phase`) of a
write, or what the environment presents (received bytes, signal levels, elapsed ticks).
-/
namespace Sys2Proof

inductive Instr where
  -- Drip, clocks, supply and operating modes
  /-- DRIP_EDGE (R58): Every 8,000 LCLK cycles the drip generator produces a drip edge that closes one drip and opens the next. -/
  | dripEdge
  /-- SLICE_DEADLINE (R87): At LCLK cycle 7,600 the link sequencer applies the staged outputs of its slice, or discards them when the slice has not finished. -/
  | sliceDeadline (finished : Bool)
  /-- LFCAL_RUN_END (R70): At the end of each run of 4,096 LFCLK cycles, the link controller writes the counted LCLK cycles to LK_LFCAL as C. -/
  | lfcalRunEnd (count : Word)
  /-- RESUME_TICK (R74): At the first LFCLK tick at which the crystal and LCLK are stable after a wake or reset, the drip count and phase are computed from e, n and C, and the drip restarts. -/
  | resumeTick (e : Fin 8978) (ticks : Nat)
  /-- SCHEDULED_WAKE (R92): At the LFCLK tick computed for target drip D, the wake from a stopped mode starts so that edge D falls in a running mode. -/
  | scheduledWake (e : Fin 978) (ticks : Nat)
  /-- KCLK_CALIBRATION (R108): Every 16 s while it runs, KCLK is calibrated against LFCLK. -/
  | kclkCalibration
  /-- BROWNOUT_RESET (R102): When VBAT falls below the brownout threshold, the device takes a Cold reset in any mode and stays in reset until VBAT has been above the release for 1 ms. -/
  | brownoutReset
  /-- POWER_ON_RESET (R729): When VBAT rises from below the power-on level, the device takes a Cold reset with cause POWER_ON. -/
  | powerOnReset
  /-- EARLY_WARNING (R105): When VBAT falls below the warning threshold, PW_STAT.BOD_WARN reads 1 and leaf POWER.BOD_WARN is set. -/
  | earlyWarning
  /-- WARNING_RELEASE (R105): When VBAT rises above the warning release, PW_STAT.BOD_WARN returns to 0 and full service resumes. -/
  | warningRelease
  /-- BOD_SAMPLE (R104): In SLEEP and DEEP, Lantern samples the early-warning comparator every 256 LFCLK ticks. -/
  | bodSample (below : Bool)
  /-- BYPASS_ENTRY (R99): While the buck converter is selected and VBAT falls below 2.0 V, the converter enters bypass and PW_STAT.BYPASS reads 1. -/
  | bypassEntry
  /-- BYPASS_EXIT (R99): When VBAT rises above 2.1 V, the buck converter leaves bypass. -/
  | bypassExit
  /-- LFXO_FAIL (R115): When the selected 32.768 kHz crystal stops or fails to start within 1 s, LFCLK switches to the RC without a gap and POWER.LFXO_FAIL is set. -/
  | lfxoFail
  /-- DOZE (R121): A write of 1 to CP_DOZE drains the store buffer and DSP operations and gates the core clock, unless a wake event is already pending. -/
  | doze
  /-- DOZE_WAKE (R122): A delivered edge, an enabled interrupt request or an enabled exception source restarts CCLK on the next cycle and the core leaves DOZE. -/
  | dozeWake
  /-- MODE_REQUEST (R124): A core write of TARGET and GO to PW_MODE requests a mode, delivered at the next transfer. -/
  | modeRequest (target : BitVec 4) (phase : Fin 8000)
  /-- WAKE_TICK (R134): At the LFCLK tick at which the first enabled wake source is seen, the device latches the active sources into PW_WAKESRC and starts the wake. -/
  | wakeTick (csn : Bool)
  /-- LISTEN_WAKE (R141): An enabled leaf entering the core's view or an enabled GPIO wake restarts CCLK 20 µs later, and the device returns to RUN. -/
  | listenWake
  /-- XO_RESTART (R140): When the 32 MHz crystal is not stable 4 ms after the wake tick, the device restarts it once at maximum drive. -/
  | xoRestart
  /-- CLOCK_RESET (R140): When the crystal is still not stable 4 ms after the restart, the device takes a System reset with cause CLOCK. -/
  | clockReset
  /-- PIN_RESET (R148): A low level on NRESET of 5 µs or more causes a System reset with cause PIN. -/
  | pinReset (micros : Nat)
  /-- HIBERNATE_WAKE (R142): A wake from HIBERNATE is a System reset, with the drip count and calendar restored from the always-on timekeeper. -/
  | hibernateWake
  /-- RECOVERY_BEACON (R767): In SUMP, every 40,000 drips the link controller sends a recovery beacon subject to the fence and ledger. -/
  | recoveryBeacon
  -- Radio and link controller
  /-- LANE_DETECTION (R203): A searching lane declares detection when the preamble component and RSSI pass their thresholds, and shifts its NCO by the coarse mean. -/
  | laneDetection (lane : Lane) (f : Vector Int 8) (rssi : BitVec 8) (phase : Fin 8000)
  /-- FINE_ESTIMATE (R204): After the 16 symbols following detection, the lane estimates carrier offset and symbol phase and narrows its filter. -/
  | fineEstimate (lane : Lane) (f : Vector Int 16) (rssi : BitVec 8)
  /-- SYNC_FOUND (R209): At sync detection the lane freezes offset and timing, the gain is held, and the link controller takes a FREE gallery line. -/
  | syncFound (lane : Lane) (decisions : Word) (offsets phases : Vector Int 16) (phase : Fin 8000)
  /-- NO_SYNC (R208): When no sync is found within P + 16 symbols after the fine estimate, the lane abandons the detection and NOSYNC increments. -/
  | noSync (lane : Lane)
  /-- LINE_EXTEND (R256): When the frame record reaches the end of its line, the link controller takes the lowest-numbered FREE line as the next one. -/
  | lineExtend (lane : Lane)
  /-- PHY_HEADER_CHECK (R192): Once the PHY header is decoded, the lane checks it and abandons the frame, freeing its lines, on a rejection. -/
  | phyHeaderCheck (lane : Lane) (soft : List (BitVec 4))
  /-- CRC_VERDICT (R201): Within 3 µs after the frame end, the lane's CRC-32 verdict is final and the frame is stored, acknowledged, relayed or freed. -/
  | crcVerdict (lane : Lane) (soft : List (BitVec 4))
  /-- SECURITY_CHECK (R302): Within 27 µs of the verdict, the link controller runs the key, counter end, MIC and replay checks on a delivered secured frame. -/
  | securityCheck
  /-- ADC_CLIP (R210): When the ADC clips while the gain is held, RF_STAT.CLIP and RADIO.CLIP are set. -/
  | adcClip
  /-- SYNTH_UNLOCK (R228): When the synthesizer loses lock, the PA ramps down or the lanes abandon their frames, and RADIO.SYNTH_UNLOCK is set. -/
  | synthUnlock
  /-- SYNTH_RELOCK (R228): Within 120 µs after a loss of lock the radio relocks and resumes. -/
  | synthRelock
  /-- LANE_START (R215): A lane starts for a receiving job, re-placing the LO when it is the second lane, or ends with LANE_CONFLICT. -/
  | laneStart (slot : Fin 16) (phase : Fin 8000)
  /-- LK_SUBMIT (R233): A core write of 1 to a slot's bit of LK_SUBMIT submits the slot's descriptor at the next transfer. -/
  | lkSubmit (slots : BitVec 16) (phase : Fin 8000)
  /-- LK_JOBFREE (R239): A write of 1 for a DONE slot frees it at the delivering transfer. -/
  | lkJobfree (slots : BitVec 16) (phase : Fin 8000)
  /-- LK_CANCEL (R242): A write of 1 for a slot cancels its job at the delivering transfer according to its state and kind. -/
  | lkCancel (slots : BitVec 16) (phase : Fin 8000)
  /-- TX_ATTEMPT_START (R247): At a TX job's start instant the link controller runs the start checks, draws the frame counter and starts the attempt. -/
  | txAttemptStart (slot : Fin 16) (phase : Fin 8000)
  /-- TX_ATTEMPT_END (R250): At the end of an attempt's ramp-down, a job without ACKREQ reaches DONE and one with ACKREQ awaits its window. -/
  | txAttemptEnd (slot : Fin 16)
  /-- ACK_WINDOW_OPEN (R268): At t1 + 184 µs after an attempt with ACKREQ, the job's lane is tuned to receive the acknowledgement. -/
  | ackWindowOpen (slot : Fin 16)
  /-- ACK_WINDOW_CLOSE (R269): When no sync has been found by the window's close, the attempt fails and a retry is scheduled or the job ends with NO_ACK. -/
  | ackWindowClose (slot : Fin 16)
  /-- RETRY_START (R251): At the backoff drip, the retry of a TX job starts with the same frame. -/
  | retryStart (slot : Fin 16) (phase : Fin 8000)
  /-- RX_WINDOW_END (R255): When an RX job's window length in drips has passed, the job ends at once or at the verdict of the frame in progress. -/
  | rxWindowEnd (slot : Fin 16)
  /-- ACK_TURNAROUND (R217): At t0 + 144 µs after the acknowledged frame end, the radio turns to transmit and both lanes stop, abandoning any frame held. -/
  | ackTurnaround
  /-- ACK_END (R265): At the end of the ACK's ramp-down no ACK is pending, and the lanes restart within 40 µs. -/
  | ackEnd
  /-- RELAY_SLOT (R279): At a candidate's relay slot, the link controller sends the relay, waits for a busy radio, or drops it at the send checks. -/
  | relaySlot (index : Fin 8) (phase : Fin 8000)
  /-- SNAPSHOT_START (R281): A SNAPSHOT job starts taking 256 complex samples from its lane at its start instant. -/
  | snapshotStart (slot : Fin 16) (samples : List Word) (phase : Fin 8000)
  /-- SNAPSHOT_END (R281): After 64 symbol periods the snapshot completes, or a transmission ends it with PREEMPTED. -/
  | snapshotEnd (slot : Fin 16)
  /-- CAL_JOB_START (R282): A CAL job stops both lanes and calibrates at its frequency for at most 300 µs. -/
  | calJobStart (slot : Fin 16) (phase : Fin 8000)
  /-- CAL_JOB_END (R282): At the end of a CAL job the job completes and the lanes restart detection. -/
  | calJobEnd (slot : Fin 16)
  /-- LK_RXQ (R262): A read of LK_RXQ returns and removes the head of the receive queue. -/
  | lkRxq (rt : GReg) (phase : Fin 8000)
  /-- LK_CLAIM (R263): A bit of LK_CLAIMn turns a FREE line into CORE at the delivering transfer. -/
  | lkClaim (group : Fin 4) (lines : Word) (phase : Fin 8000)
  /-- LK_RELEASE (R263): A bit of LK_RELEASEn turns a CORE line into FREE at the delivering transfer. -/
  | lkRelease (group : Fin 4) (lines : Word) (phase : Fin 8000)
  /-- LK_GIVE (R263): A bit of LK_GIVEn turns a CORE line into CHAIN and joins it to the take queue at the delivering transfer. -/
  | lkGive (group : Fin 4) (lines : Word) (phase : Fin 8000)
  /-- LINK_TRIG (R560): A LINK_TRIG pulse arms the lowest-numbered job waiting for a trigger at that LCLK cycle plus OFFSET. -/
  | linkTrig (phase : Fin 8000)
  /-- LEASE_COMMIT (R315): Lantern commits a new lease end to the MONO record and grants it, or refuses the lease. -/
  | leaseCommit (slot : Fin 8)
  -- Keyholder token access
  /-- PRESENCE_POLL (R341): On the LFCLK grid, channel L calibrates, listens and bursts the carrier and compares the amplitude with the baseline. -/
  | presencePoll (listen : List Byte) (amplitude : BitVec 8) (recheck : Option Word)
  /-- CONFIRM_POLL (R343): A poll 10 ms after a changed poll confirms an arrival and keeps the carrier on for the transaction. -/
  | confirmPoll (listen : List Byte) (amplitude : BitVec 8)
  /-- ID_FRAME (R334): For each ID frame received with a good CRC, the engine draws a fresh challenge and sends it, unless channel L is locked. -/
  | idFrame (channel : KeyChannel) (frame : List Byte) (crc : BitVec 16)
  /-- RESPONSE_FRAME (R362): A RESPONSE received with a good CRC is judged against the token table and the result is committed at the next edge. -/
  | responseFrame (channel : KeyChannel) (frame : List Byte) (crc : BitVec 16)
  /-- NO_RESPONSE (R337): When no valid response starts within 2 to 20 ms after the CHALLENGE, the transaction ends with NO_RESPONSE. -/
  | noResponse (channel : KeyChannel)
  /-- NO_TOKEN (R344): When no ID frame starts within 5 ms after the wake, the transaction ends with NO_TOKEN. -/
  | noToken
  /-- NO_TOKEN_RETRY (R345): 500 ms after NO_TOKEN with the loading still changed, one more transaction runs, after which an object level is recorded. -/
  | noTokenRetry (listen : List Byte) (amplitude : BitVec 8)
  /-- LF_FLOOD (R352): When channel L floods, the activity is abandoned, the challenge discarded, TOKEN.LF_FLOOD set and any present token removed. -/
  | lfFlood (listen : List Byte) (departure : Byte) (micros : Nat)
  /-- LF_FLOOD_LISTEN (R352): Every 5 ms while flooded, channel L repeats a carrier-off listen and clears the flood after four clean listens. -/
  | lfFloodListen (listen : List Byte)
  /-- IR_FLOOD (R359): When channel O floods, the activity is abandoned and TOKEN.IR_FLOOD is set. -/
  | irFlood (saturatedMicros : Nat) (carrierMicros : Nat)
  /-- IR_REARM (R359): After 20 ms with neither flood condition, channel O re-arms and O_FLOOD clears. -/
  | irRearm
  /-- IR_MARK (R360): A mark and the space after it are recorded as a pair in the capture buffer. -/
  | irMark (mark : Nat) (space : Nat)
  /-- IR_CODE_END (R360): A space longer than END_SPACE ends the code, sets VALID and TOKEN.IR_CODE, or discards it when the buffer is held. -/
  | irCodeEnd (mark : Nat)
  /-- O_SENSE_WINDOW (R357): In stopped modes with KEY_O enabled, a 2 ms sensing window opens every 1,024 LFCLK ticks and in-band carrier wakes the device. -/
  | oSenseWindow (carrierMicros : Nat)
  /-- LOCKOUT_END (R369): When the lockout time reaches 0, LOCKED clears, L_CONSEC becomes 0 and a present ungranted token is treated as a new arrival. -/
  | lockoutEnd
  /-- LOCK_CHECKPOINT (R371): Every 10 s of a lockout and every hour of running, the engine requests a LOCK record write. -/
  | lockCheckpoint
  /-- DORMANCY (R375): When TK_QUIET reaches DORM_WEEKS weeks, channel L goes dormant and polling stops. -/
  | dormancy
  /-- ENROLL_WINDOW_END (R381): When the enrollment window's seconds run out, the window closes. -/
  | enrollWindowEnd
  /-- RELEASE_HOLD_EXPIRY (R385): When a release hold expires, REL_L or REL_O falls, dropping RELEASE at the next commit or at the tick in SLEEP and DEEP. -/
  | releaseHoldExpiry (channel : KeyChannel)
  /-- KEYHOLDER_READY (R328): Once the token table load and the LOCK record have arrived after reset, the engine restores its state and TK_STAT.READY reads 1. -/
  | keyholderReady
  /-- HIBERNATE_PRESENCE (R350): In HIBERNATE, the always-on sensor polls channel L and wakes the device at the first decided arrival. -/
  | hibernatePresence (first : BitVec 8) (confirm : BitVec 8)
  /-- RESUME (R376): The TK_CMD RESUME command takes channel L out of dormancy. -/
  | resume
  /-- CLEAR_LOCK (R369): The TK_CMD CLEAR_LOCK command ends a channel-L lockout. -/
  | clearLock
  /-- RAW_START (R390): The TK_CMD RAW_START command starts a raw run on the chosen channel or is refused. -/
  | rawStart
  /-- RAW_STOP (R391): The TK_CMD RAW_STOP command ends a raw run early. -/
  | rawStop (samples : List (BitVec 16))
  /-- RAW_DONE (R390): When a raw run's samples are written, or a flood abandons it, TOKEN.RAW_DONE is set and RAW_BUSY clears. -/
  | rawDone (samples : List (BitVec 16))
  /-- IR_ACK (R361): The TK_CMD IR_ACK command releases the capture buffer, clearing VALID and OVERFLOW. -/
  | irAck
  /-- CLOSE_ENROLL (R381): The TK_CMD CLOSE_ENROLL command ends the enrollment window. -/
  | closeEnroll
  /-- TK_VERDICT (R393): A firmware verdict written within 1 s after a raw run is applied at the next commit, or refused with NO_RUN. -/
  | tkVerdict (value : Word)
  -- Kraura core: arithmetic and logic
  /-- ADD (R420): rd = ra + rb. -/
  | add (rd : GReg) (ra : GReg) (rb : GReg)
  /-- SUB (R420): rd = ra − rb. -/
  | sub (rd : GReg) (ra : GReg) (rb : GReg)
  /-- AND (R420): rd = ra AND rb. -/
  | and (rd : GReg) (ra : GReg) (rb : GReg)
  /-- OR (R420): rd = ra OR rb. -/
  | or (rd : GReg) (ra : GReg) (rb : GReg)
  /-- XOR (R420): rd = ra XOR rb. -/
  | xor (rd : GReg) (ra : GReg) (rb : GReg)
  /-- NOR (R420): rd = NOT (ra OR rb). -/
  | nor (rd : GReg) (ra : GReg) (rb : GReg)
  /-- SLT (R420): rd = 1 when ra is signed less than rb, otherwise 0. -/
  | slt (rd : GReg) (ra : GReg) (rb : GReg)
  /-- SLTU (R420): rd = 1 when ra is unsigned less than rb, otherwise 0. -/
  | sltu (rd : GReg) (ra : GReg) (rb : GReg)
  /-- SLL (R420): rd = ra shifted left by sh. -/
  | sll (rd : GReg) (ra : GReg) (sh : BitVec 5)
  /-- SRL (R420): rd = ra shifted right logically by sh. -/
  | srl (rd : GReg) (ra : GReg) (sh : BitVec 5)
  /-- SRA (R420): rd = ra shifted right arithmetically by sh. -/
  | sra (rd : GReg) (ra : GReg) (sh : BitVec 5)
  /-- ROR (R420): rd = ra rotated right by sh. -/
  | ror (rd : GReg) (ra : GReg) (sh : BitVec 5)
  /-- SLLV (R420): rd = ra shifted left by rb[4:0]. -/
  | sllv (rd : GReg) (ra : GReg) (rb : GReg)
  /-- SRLV (R420): rd = ra shifted right logically by rb[4:0]. -/
  | srlv (rd : GReg) (ra : GReg) (rb : GReg)
  /-- SRAV (R420): rd = ra shifted right arithmetically by rb[4:0]. -/
  | srav (rd : GReg) (ra : GReg) (rb : GReg)
  /-- RORV (R420): rd = ra rotated right by rb[4:0]. -/
  | rorv (rd : GReg) (ra : GReg) (rb : GReg)
  /-- ADDSAT (R421): rd = clamped signed ra + rb, setting CP_STATUS.SAT when it clamps. -/
  | addsat (rd : GReg) (ra : GReg) (rb : GReg)
  /-- SUBSAT (R421): rd = clamped signed ra − rb, setting CP_STATUS.SAT when it clamps. -/
  | subsat (rd : GReg) (ra : GReg) (rb : GReg)
  /-- ABS (R421): rd = clamped absolute value of ra, setting SAT when it clamps. -/
  | abs (rd : GReg) (ra : GReg)
  /-- MIN (R420): rd = signed minimum of ra and rb. -/
  | min (rd : GReg) (ra : GReg) (rb : GReg)
  /-- MAX (R420): rd = signed maximum of ra and rb. -/
  | max (rd : GReg) (ra : GReg) (rb : GReg)
  /-- MINU (R420): rd = unsigned minimum of ra and rb. -/
  | minu (rd : GReg) (ra : GReg) (rb : GReg)
  /-- MAXU (R420): rd = unsigned maximum of ra and rb. -/
  | maxu (rd : GReg) (ra : GReg) (rb : GReg)
  /-- CLZ (R420): rd = the number of leading zero bits of ra. -/
  | clz (rd : GReg) (ra : GReg)
  /-- SEXTB (R420): rd = ra[7:0] sign-extended. -/
  | sextb (rd : GReg) (ra : GReg)
  /-- SEXTH (R420): rd = ra[15:0] sign-extended. -/
  | sexth (rd : GReg) (ra : GReg)
  /-- ZEXTH (R420): rd = ra[15:0] zero-extended. -/
  | zexth (rd : GReg) (ra : GReg)
  /-- BSWAP (R420): rd = the bytes of ra in reverse order. -/
  | bswap (rd : GReg) (ra : GReg)
  /-- CMOVZ (R420): rd = ra when rb is 0, otherwise rd is unchanged. -/
  | cmovz (rd : GReg) (ra : GReg) (rb : GReg)
  /-- CMOVNZ (R420): rd = ra when rb is not 0, otherwise rd is unchanged. -/
  | cmovnz (rd : GReg) (ra : GReg) (rb : GReg)
  /-- ADDI (R422): rd = ra + sign-extended imm16. -/
  | addi (rd : GReg) (ra : GReg) (imm : BitVec 16)
  /-- ANDI (R422): rd = ra AND zero-extended imm16. -/
  | andi (rd : GReg) (ra : GReg) (imm : BitVec 16)
  /-- ORI (R422): rd = ra OR zero-extended imm16. -/
  | ori (rd : GReg) (ra : GReg) (imm : BitVec 16)
  /-- XORI (R422): rd = ra XOR zero-extended imm16. -/
  | xori (rd : GReg) (ra : GReg) (imm : BitVec 16)
  /-- SLTI (R422): rd = 1 when ra is signed less than sign-extended imm16. -/
  | slti (rd : GReg) (ra : GReg) (imm : BitVec 16)
  /-- SLTIU (R422): rd = 1 when ra is unsigned less than sign-extended imm16. -/
  | sltiu (rd : GReg) (ra : GReg) (imm : BitVec 16)
  /-- MOVHI (R422): rd = imm16 shifted left by 16. -/
  | movhi (rd : GReg) (imm : BitVec 16)
  /-- MUL (R423): rd = low 32 bits of ra × rb. -/
  | mul (rd : GReg) (ra : GReg) (rb : GReg)
  /-- MULH (R423): rd = high 32 bits of the signed product of ra and rb. -/
  | mulh (rd : GReg) (ra : GReg) (rb : GReg)
  /-- MULHU (R423): rd = high 32 bits of the unsigned product of ra and rb. -/
  | mulhu (rd : GReg) (ra : GReg) (rb : GReg)
  /-- DIV (R424): rd = signed ra / rb rounded toward zero, with the defined result and DZ for division by zero. -/
  | div (rd : GReg) (ra : GReg) (rb : GReg)
  /-- DIVU (R424): rd = unsigned ra / rb, with the defined result and DZ for division by zero. -/
  | divu (rd : GReg) (ra : GReg) (rb : GReg)
  /-- REM (R424): rd = signed remainder of ra / rb with the sign of ra, and ra with DZ for division by zero. -/
  | rem (rd : GReg) (ra : GReg) (rb : GReg)
  /-- REMU (R424): rd = unsigned ra mod rb, and ra with DZ for division by zero. -/
  | remu (rd : GReg) (ra : GReg) (rb : GReg)
  -- Kraura core: memory, control flow, system
  /-- LW (R426): rt = the word at the effective address, after alignment, region and ECC checks. -/
  | lw (rt : GReg) (ra : GReg) (imm : BitVec 16)
  /-- LH (R426): rt = the sign-extended halfword at the effective address. -/
  | lh (rt : GReg) (ra : GReg) (imm : BitVec 16)
  /-- LHU (R426): rt = the zero-extended halfword at the effective address. -/
  | lhu (rt : GReg) (ra : GReg) (imm : BitVec 16)
  /-- LB (R426): rt = the sign-extended byte at the effective address. -/
  | lb (rt : GReg) (ra : GReg) (imm : BitVec 16)
  /-- LBU (R426): rt = the zero-extended byte at the effective address. -/
  | lbu (rt : GReg) (ra : GReg) (imm : BitVec 16)
  /-- SW (R428): The word in rt enters the store buffer for the effective address. -/
  | sw (rt : GReg) (ra : GReg) (imm : BitVec 16)
  /-- SH (R428): The halfword rt[15:0] enters the store buffer for the effective address. -/
  | sh (rt : GReg) (ra : GReg) (imm : BitVec 16)
  /-- SB (R428): The byte rt[7:0] enters the store buffer for the effective address. -/
  | sb (rt : GReg) (ra : GReg) (imm : BitVec 16)
  /-- BEQ (R429): Branch to the target when ra equals rb. -/
  | beq (ra : GReg) (rb : GReg) (imm : BitVec 16)
  /-- BNE (R429): Branch to the target when ra differs from rb. -/
  | bne (ra : GReg) (rb : GReg) (imm : BitVec 16)
  /-- BLT (R429): Branch when ra is signed less than rb. -/
  | blt (ra : GReg) (rb : GReg) (imm : BitVec 16)
  /-- BGE (R429): Branch when ra is signed greater than or equal to rb. -/
  | bge (ra : GReg) (rb : GReg) (imm : BitVec 16)
  /-- BLTU (R429): Branch when ra is unsigned less than rb. -/
  | bltu (ra : GReg) (rb : GReg) (imm : BitVec 16)
  /-- BGEU (R429): Branch when ra is unsigned greater than or equal to rb. -/
  | bgeu (ra : GReg) (rb : GReg) (imm : BitVec 16)
  /-- J (R430): Jump to the PC-relative target. -/
  | jump (off : BitVec 26)
  /-- JAL (R430): Write the return address to g31 and jump to the PC-relative target. -/
  | jal (off : BitVec 26)
  /-- JR (R430): Jump to the address in ra, raising ALIGN for a misaligned target. -/
  | jr (ra : GReg)
  /-- JALR (R431): Write the return address to rd and jump to the old value of ra. -/
  | jalr (rd : GReg) (ra : GReg)
  /-- SYSCALL (R433): Raise SYSCALL with the word in CP_BADINST and CP_EPC after the instruction. -/
  | syscall (code : BitVec 16)
  /-- BREAK (R433): Raise BREAK with the word in CP_BADINST and CP_EPC at the instruction. -/
  | breakOp (code : BitVec 16)
  /-- ERET (R435): Restore IE, IPL and CSD from their saved copies, clear INSVC and jump to CP_EPC. -/
  | eret
  /-- FENCE (R436): Wait until the store buffer is empty and every earlier load and prefetch has completed. -/
  | fence
  /-- IFLUSH (R437): Fence, then invalidate the instruction cache, flash read buffer and fetched instructions. -/
  | iflush
  /-- MFS (R434): Serialising read of a special register into rd. -/
  | mfs (rd : GReg) (sr : BitVec 8)
  /-- MTS (R434): Serialising write of rt into a special register. -/
  | mts (rt : GReg) (sr : BitVec 8)
  /-- DI (R438): Increment CP_STATUS.CSD, holding at 15, so no asynchronous request is taken. -/
  | di
  /-- EI (R439): Decrement CP_STATUS.CSD, holding at 0, taking a pending request when it reaches 0. -/
  | ei
  /-- RESERVED_OP (R409): An instruction with an unassigned or reserved encoding raises RESERVED_OP at decode. -/
  | reservedOp (word : Word)
  -- DSP datapath, gather and custom instructions
  /-- CMAC (R494): acc = acc + z × m, with clamping and ASAT. -/
  | cmac (acc : Fin 4) (z : Fin 8) (ag : Fin 4) (u : Bool)
  /-- CMACJ (R494): acc = acc + z × conj(m), with clamping and ASAT. -/
  | cmacj (acc : Fin 4) (z : Fin 8) (ag : Fin 4) (u : Bool)
  /-- CMSU (R494): acc = acc − z × m, with clamping and ASAT. -/
  | cmsu (acc : Fin 4) (z : Fin 8) (ag : Fin 4) (u : Bool)
  /-- CMUL (R494): acc = z × m. -/
  | cmul (acc : Fin 4) (z : Fin 8) (ag : Fin 4) (u : Bool)
  /-- ZLD (R494): z = the DTCM word at ag.P, with an optional step. -/
  | zld (z : Fin 8) (ag : Fin 4) (u : Bool)
  /-- ZST (R494): The word at ag.P = z, through the store buffer, with an optional step. -/
  | zst (z : Fin 8) (ag : Fin 4) (u : Bool)
  /-- ACLR (R494): acc = 0. -/
  | aclr (acc : Fin 4)
  /-- ZACC (R496): zd = acc rounded and saturated by sh, optionally clearing acc. -/
  | zacc (zd : Fin 8) (acc : Fin 4) (sh : BitVec 5) (c : Bool)
  /-- AGSET (R494): Set a field of an address generator from g. -/
  | agset (ag : Fin 4) (g : GReg) (field : BitVec 2)
  /-- AGGET (R494): Read a field of an address generator into g. -/
  | agget (ag : Fin 4) (g : GReg) (field : BitVec 2)
  /-- ZPUT (R494): z = g split into I and Q. -/
  | zput (z : Fin 8) (g : GReg)
  /-- ZGET (R494): g = z joined from I and Q. -/
  | zget (z : Fin 8) (g : GReg)
  /-- ACCPUT (R494): Write one part of an accumulator from g. -/
  | accput (acc : Fin 4) (g : GReg) (part : BitVec 2)
  /-- ACCGET (R494): Read one part of an accumulator into g. -/
  | accget (acc : Fin 4) (g : GReg) (part : BitVec 2)
  /-- GATHER (R511): Load up to 16 indexed words into DTCM from element CP_GSTART, faulting at the first failing element. -/
  | gather (agD : Fin 4) (agI : Fin 4) (gBase : GReg) (count : Fin 16)
  /-- DSAVE (R521): Write the DSP state to 34 words of DTCM. -/
  | dsave (g : GReg)
  /-- DLOAD (R524): Read 34 words from DTCM and write the whole DSP state in one cycle. -/
  | dload (g : GReg)
  /-- CX (R544): A custom instruction executes the micro-ops of its decode-table entry and applies its staged effects at completion. -/
  | cx (e : Fin 8) (rd : GReg) (ra : GReg) (rb : GReg) (imm8 : Byte)
  /-- CP_DTDATA (R540): An MTS to CP_DTDATA writes the selected table word, empties or validates the entry, and may advance CP_DTADDR. -/
  | cpDtdata (rt : GReg)
  /-- CP_DTLOCK (R541): A write of 1 to CP_DTLOCK.LOCK locks the decode table until a Core-class reset. -/
  | cpDtlock (rt : GReg)
  -- Core events
  /-- INTERRUPT_ENTRY (R477): An asynchronous request that can be taken enters its vector, highest level first, abandoning divisions, run-ahead and slow loads. -/
  | interruptEntry
  /-- EXCEPTION_ENTRY (R906): A synchronous exception is taken when its instruction reaches WB and the core enters its vector. -/
  | exceptionEntry
  /-- RUNAHEAD_ENTRY (R455): When an instruction needing an outstanding slow load's result reaches issue, the core copies its registers and runs ahead. -/
  | runaheadEntry (trigger : Fin 4)
  /-- RUNAHEAD_EXIT (R462): When the triggering load's data arrives, the episode is discarded and execution resumes at the first waiting instruction. -/
  | runaheadExit
  /-- STORE_DRAIN (R465): The oldest store-buffer entry drains to its target in program order. -/
  | storeDrain (phase : Fin 8000)
  /-- LINE_WINDOW_READ (R628): A line-window read of a line's last word verifies the line check and records GOOD, BAD or NOT_OWNED. -/
  | lineWindowRead (rt : GReg) (line : Fin 128)
  -- Conduit and peripherals
  /-- CONDUIT_EVENT (R567): A producer pulse reaches its consumers through fixed links and matrix channels after the stated delay. -/
  | conduitEvent (arriving : BitVec 48)
  /-- GP_SET (R577): Writing 1 to a GP_SET bit sets the GP_OUT bit in the next PCLK cycle. -/
  | gpSet (mask : Word)
  /-- GP_CLR (R577): Writing 1 to a GP_CLR bit clears the GP_OUT bit in the next PCLK cycle. -/
  | gpClr (mask : Word)
  /-- GP_TGL (R577): Writing 1 to a GP_TGL bit inverts the GP_OUT bit in the next PCLK cycle. -/
  | gpTgl (mask : Word)
  /-- GPIO_EDGE (R579): A selected edge on a pin sets its GP_EDGE bit and may set PERIPH.GPIO. -/
  | gpioEdge (pin : Fin 20) (level : Bool)
  /-- GPIO_WAKE (R580): In a stopped mode, an enabled pin edge lasting 1 µs latches in its detector and wakes at the next tick. -/
  | gpioWake (pin : Fin 20) (level : Bool)
  /-- TIMER_TICK (R582): Every 2^PRESC PCLK cycles an enabled timer advances, overflowing at TOP and matching at CMP. -/
  | timerTick (n : Fin 4)
  /-- TM_CAPTURE (R584): A write of 1 to TM_CTRLn.CAP or a conduit capture copies the counter into TM_CAPn. -/
  | tmCapture (n : Fin 4)
  /-- PWM_PERIOD_START (R588): At each PWM period start the pending setting is loaded when AUTO or a load request applies. -/
  | pwmPeriodStart (n : Fin 6)
  /-- PWM_LOAD (R588): A write of 1 to PWM_CTRL.LOAD requests a load at the next period start. -/
  | pwmLoad (mask : BitVec 6)
  /-- PWM_ENABLE (R589): A change of PWM_CTRL.EN starts the channel with its pending setting or stops it at the inactive level. -/
  | pwmEnable (mask : BitVec 6)
  /-- ADC_TRIGGER (R591): A write to AD_START or a conduit trigger starts a conversion, or is lost while busy. -/
  | adcTrigger
  /-- ADC_CONVERSION_END (R592): At the end of a conversion AD_DATA, DONE and the derived sensor registers are written and P26 pulses. -/
  | adcConversionEnd (code : BitVec 12)
  /-- AD_DATA_READ (R592): A read of AD_DATA returns the result and clears NEW. -/
  | adDataRead (rt : GReg)
  /-- TRNG_WORD (R595): Every 8 µs the TRNG delivers a conditioned word into its FIFO. -/
  | trngWord (word : Word)
  /-- GP_TRNG_DATA (R596): A read returns and removes the oldest FIFO word, or 0 with UNDERRUN when empty. -/
  | gpTrngData (rt : GReg)
  /-- TRNG_HEALTH_FAIL (R597): A failed health test discards the FIFO, sets FAIL and restarts, stopping after three failures. -/
  | trngHealthFail
  /-- SHA_START (R598): A write of 1 to GP_SHA_CTRL.START starts a SHA-256 run in the selected mode. -/
  | shaStart
  /-- SHA_RUN_END (R599): A SHA-256 run completes with DONE or ends with ERR and its reason, setting PERIPH.SHA. -/
  | shaRunEnd
  /-- AES_START (R601): A write of 1 to GP_AES_CTRL.START queues one block on the shared AES engine. -/
  | aesStart
  /-- AES_BLOCK_DONE (R601): When the core's block completes, GP_AES_STAT.DONE and PERIPH.AES are set. -/
  | aesBlockDone
  -- Memory maintenance and main flash
  /-- SCRUB_VISIT (R616): Every 6.25 s Lantern scrubs one row, writing back corrections and recording uncorrectable words. -/
  | scrubVisit
  /-- FL_KEY (R642): A write of 0xA5 to FL_KEY opens a command sequence, cancelling any open one. -/
  | flKey (value : Word)
  /-- FLASH_SEQ_TIMEOUT (R643): When the next sequence write does not arrive within 32 CCLK cycles, the sequence is cancelled with SEQERR. -/
  | flashSeqTimeout
  /-- PROGRAM (R646): The start write of a PROGRAM sequence blank-reads, programs and verifies one 16-byte unit. -/
  | program (value : Word)
  /-- ERASE (R646): The start write of an ERASE sequence erases and verifies one 4 KB sector. -/
  | erase (value : Word)
  /-- BLANK_CHECK (R646): The start write of a BLANK_CHECK sequence reads every unit of a sector and reports any not erased. -/
  | blankCheck (value : Word)
  /-- FLASH_OP_END (R647): At the end of an operation BUSY clears, ERR and FL_RESULT are written and FLASH.DONE is set. -/
  | flashOpEnd
  /-- UPDATE_PORT_OP (R639): An update-port program or erase starts in the cycle after the array becomes idle. -/
  | updatePortOp
  -- Flowstone
  /-- FLOWSTONE_RECLAIM (R678): Lantern opens the next sector as head, copies current records from the oldest sector and erases it. -/
  | flowstoneReclaim (ring : Fin 32)
  /-- PATROL_VISIT (R693): Every 1,350 s Lantern reads one sector and refreshes corrected or resolves failed current records. -/
  | patrolVisit
  /-- ORPHAN_ERASE (R694): After the core starts, Lantern erases orphan sectors and assigns them to a ring or the free pool. -/
  | orphanErase
  -- Lantern requests and services
  /-- RESULT_RELEASE (R706): A write of 1 to LT_MBACK.RELEASE frees the result area and its queue position at the delivering transfer. -/
  | resultRelease (value : Word) (phase : Fin 8000)
  /-- IDENTITY (R711): Lantern returns the part code, revision, EUI-64 and versions. -/
  | identity
  /-- CAL_GET (R711): Lantern returns the calendar seconds, STALE and the drip count of the reported edge. -/
  | calGet
  /-- CAL_SET (R720): Lantern sets the calendar, commits a CAL checkpoint and clears STALE. -/
  | calSet
  /-- CAL_ALARM (R721): Lantern arms, replaces or disarms the calendar alarm. -/
  | calAlarm
  /-- WAKE_AT (R722): Lantern arms a scheduled wake for drip D or cancels it. -/
  | wakeAt
  /-- LIFE_GET (R711): Lantern returns one lifetime counter or all of them. -/
  | lifeGet
  /-- LIFE_ADD (R716): Lantern adds an amount to counter 18, saturating with COUNTER_END. -/
  | lifeAdd
  /-- LIFE_SAVE (R728): Lantern writes both LIFE records and then returns its result. -/
  | lifeSave
  /-- BOD_HIST (R711): Lantern returns the brownout count, warning count and history bytes. -/
  | bodHist
  /-- REC_READ (R712): Lantern returns the current record of a key in a ring or pair. -/
  | recRead
  /-- REC_WRITE (R712): Lantern writes a record of a key in the SETTINGS pair or a user ring. -/
  | recWrite
  /-- MONO_INC (R687): Lantern issues a monotonic counter's value and advances it, extending its lease as needed. -/
  | monoInc
  /-- MONO_GET (R711): Lantern returns a counter's next value or persisted lease end and its epoch. -/
  | monoGet
  /-- KEY_INSTALL (R713): Lantern installs a key into a slot under the epoch rules, committing KEYS and MONO records. -/
  | keyInstall
  /-- KEY_RETIRE (R713): Lantern discards a slot's previous key. -/
  | keyRetire
  /-- KEY_REMOVE (R713): Lantern empties a key slot. -/
  | keyRemove
  /-- TOKEN_WRITE (R714): Lantern writes a token record to both mirrors, refusing duplicate IDs. -/
  | tokenWrite
  /-- TOKEN_REVOKE (R714): Lantern rewrites a token record's STATE as REVOKED. -/
  | tokenRevoke
  /-- TOKEN_READ (R714): Lantern returns a token record, with its key zeroed for the host. -/
  | tokenRead
  /-- PROVISION (R715): Lantern programs one provision group once. -/
  | provision
  /-- LOCK_WRITE (R711): Lantern writes the Keyholder engine's LOCK record. -/
  | lockWrite
  /-- CALENDAR_TICK (R718): Every 32,768 LFCLK ticks the calendar increments. -/
  | calendarTick
  /-- CAL_CHECKPOINT (R724): Every 3,600 power-on seconds Lantern writes a CAL checkpoint and then both LIFE records. -/
  | calCheckpoint
  /-- LT_RESETREQ (R730): A write with the key requests a software reset, taken at the delivering transfer. -/
  | ltResetreq (value : Word) (phase : Fin 8000)
  /-- STICK_INSERT (R733): After 512 low ticks of SVC_DET, PRESENT becomes 1, MGMT.STICK_IN is set and the SFDP header is read. -/
  | stickInsert (sfdp : List Byte)
  /-- STICK_REMOVE (R733): After 32 high ticks of SVC_DET, PRESENT and SFDP_OK clear and MGMT.STICK_OUT is set. -/
  | stickRemove
  /-- CONFIRM (R756): A write of 1 to LT_CONFIRM.CONFIRM commits the trial pair as confirmed. -/
  | confirm (value : Word) (phase : Fin 8000)
  /-- CONFIRM_EXPIRED (R757): When LEFT reaches 0 while PENDING, PENDING clears and BOOT.CONFIRM_EXPIRED is set. -/
  | confirmExpired
  -- Update engine
  /-- OPEN (R773): The update engine opens a session, choosing the target slot, and erases it. -/
  | openOp
  /-- SLOT_ERASE_DONE (R773): When every sector of the target slot is erased, the session enters RECEIVING and OPEN completes. -/
  | slotEraseDone
  /-- BLOCK (R781): The engine checks a 256-byte block and programs it, or reports a duplicate or error. -/
  | block
  /-- CLOSE (R783): The engine checks the received blocks and enters VERIFYING, or returns MISSING. -/
  | closeOp
  /-- VERIFY_DONE (R783): When verification passes, the session enters READY and the slot's verdict becomes VALID. -/
  | verifyDone
  /-- ACTIVATE (R784): The engine activates a READY image after its checks, writing settings and the boot record. -/
  | activate
  /-- ABORT (R774): The engine ends the session with ABORTED. -/
  | abortOp
  /-- SESSION_TIMEOUT (R776): After 300 power-on seconds without an accepted command, a core or host session fails with TIMEOUT. -/
  | sessionTimeout
  /-- ACTIVATION_EDGE (R787): At edge U, the core stops for a warm restart and the new route table, data area and confirmation timer apply. -/
  | activationEdge
  /-- CORE_RESTART (R787): At edge U + 6, or after ring formatting, the core starts the new application with g3 = 1. -/
  | coreRestart
  /-- LINK_RELOAD (R790): At the first quiet edge V, the link sequencer stops, loads the new link image and restarts. -/
  | linkReload
  /-- STICK_EVALUATION (R802): Once per insertion, the engine reads the stick directory and installs newer unrejected images. -/
  | stickEvaluation (stick : List Byte)
  -- Chain port
  /-- HELLO (R834): The unit records the host generation and returns its identity. -/
  | hello (addr : BitVec 6) (tag : Byte) (payload : List Byte) (crc : Option (BitVec 16)) (phase : Fin 8000)
  /-- ASSIGN (R822): The addressed unit takes, changes or drops its chain address. -/
  | assign (addr : BitVec 6) (tag : Byte) (payload : List Byte) (crc : Option (BitVec 16)) (phase : Fin 8000)
  /-- ENUM_ENABLE_CHANGE (R821): A change of CH_ENI or the unit's address updates CH_ENO within 1 µs. -/
  | enumEnableChange (level : Bool)
  /-- SUMMARY (R835): The unit returns CS_SUMMARY and every CAUSE_ register in the host view. -/
  | summary (addr : BitVec 6) (tag : Byte) (payload : List Byte) (crc : Option (BitVec 16)) (phase : Fin 8000)
  /-- READ (R836): The unit returns COUNT words of the host window from one transfer's view. -/
  | read (addr : BitVec 6) (tag : Byte) (payload : List Byte) (crc : Option (BitVec 16)) (phase : Fin 8000)
  /-- WRITE (R837): The unit writes COUNT words of the host window at the next transfer. -/
  | write (addr : BitVec 6) (tag : Byte) (payload : List Byte) (crc : Option (BitVec 16)) (phase : Fin 8000)
  /-- CLEAR (R838): The unit clears the masked leaves of one or every group at the next transfer. -/
  | clear (addr : BitVec 6) (tag : Byte) (payload : List Byte) (crc : Option (BitVec 16)) (phase : Fin 8000)
  /-- FETCH (R829): The unit frees the last returned response and returns the oldest completed one, or repeats the last. -/
  | fetch (addr : BitVec 6) (tag : Byte) (payload : List Byte) (crc : Option (BitVec 16)) (phase : Fin 8000)
  /-- UPDATE_OPEN (R839): The host issues OPEN to the update engine. -/
  | updateOpen (addr : BitVec 6) (tag : Byte) (payload : List Byte) (crc : Option (BitVec 16)) (phase : Fin 8000)
  /-- UPDATE_BLOCK (R839): The host issues BLOCK to the update engine after the chain CRC is verified. -/
  | updateBlock (addr : BitVec 6) (tag : Byte) (payload : List Byte) (crc : Option (BitVec 16)) (phase : Fin 8000)
  /-- UPDATE_CLOSE (R839): The host issues CLOSE, or ABORT when its flag is set. -/
  | updateClose (addr : BitVec 6) (tag : Byte) (payload : List Byte) (crc : Option (BitVec 16)) (phase : Fin 8000)
  /-- UPDATE_ACTIVATE (R839): The host issues ACTIVATE to the update engine. -/
  | updateActivate (addr : BitVec 6) (tag : Byte) (payload : List Byte) (crc : Option (BitVec 16)) (phase : Fin 8000)
  /-- FRAME_SEND (R840): The unit writes a frame into free lines and submits a host TX job. -/
  | frameSend (addr : BitVec 6) (tag : Byte) (payload : List Byte) (crc : Option (BitVec 16)) (phase : Fin 8000)
  /-- FRAME_TAKE (R842): The unit frees the last taken frame and returns the head of the take queue, poisoning it on a line-check failure. -/
  | frameTake (addr : BitVec 6) (tag : Byte) (payload : List Byte) (crc : Option (BitVec 16)) (phase : Fin 8000)
  /-- LANTERN_SUBMIT (R843): The unit submits a request through the Lantern host mailbox. -/
  | lanternSubmit (addr : BitVec 6) (tag : Byte) (payload : List Byte) (crc : Option (BitVec 16)) (phase : Fin 8000)
  /-- LANTERN_RESULT (R843): The unit returns the host result area and optionally releases it. -/
  | lanternResult (addr : BitVec 6) (tag : Byte) (payload : List Byte) (crc : Option (BitVec 16)) (phase : Fin 8000)
  /-- MEM_READ (R844): When debug is open, the unit reads COUNT words of core memory. -/
  | memRead (addr : BitVec 6) (tag : Byte) (payload : List Byte) (crc : Option (BitVec 16)) (phase : Fin 8000)
  /-- MEM_WRITE (R844): When debug is open, the unit writes COUNT words of core memory. -/
  | memWrite (addr : BitVec 6) (tag : Byte) (payload : List Byte) (crc : Option (BitVec 16)) (phase : Fin 8000)
  /-- RESET_UNIT (R845): With its key payload, the unit takes a System reset with cause RESET_UNIT. -/
  | resetUnit (addr : BitVec 6) (tag : Byte) (payload : List Byte) (crc : Option (BitVec 16)) (phase : Fin 8000)
  /-- UNSUPPORTED_OP (R832): An unlisted operation is queued and completes with UNSUPPORTED. -/
  | unsupportedOp (op : Byte) (addr : BitVec 6) (tag : Byte) (payload : List Byte) (crc : Option (BitVec 16)) (phase : Fin 8000)
  /-- CH_DBGCTL (R848): A write with the key opens DEBUG, and a write of 0 closes it. -/
  | chDbgctl (value : Word) (phase : Fin 8000)
  -- Cause tree and registers
  /-- CAUSE_CLEAR (R862): A core write of 1 to a CAUSE_ bit clears the leaf at once or at the next transfer. -/
  | causeClear (g : Fin 15) (mask : Word) (phase : Fin 8000)
  /-- CS_CMASK (R860): A write to CS_CMASKg enables leaves to request the group's IRQ level from the next cycle. -/
  | csCmask (g : Fin 15) (value : Word)
  /-- RC_FIELD_READ (R11): A read of a register with an RC field returns it and clears what it returned. -/
  | rcFieldRead (rt : GReg) (addr : Word) (phase : Fin 8000)
  /-- REGISTER_WRITE (R8): A write to a register without its own row stores or acts under its access code. -/
  | registerWrite (addr : Word) (value : Word) (phase : Fin 8000)
  -- Policy start and reset release
  /-- RELAY_POLICY_START (R277): At a RELAY job's start instant the policy becomes ACTIVE for its lane, or the job ends with LANE_CONFLICT or MODE_BLOCKED. -/
  | relayPolicyStart (slot : Fin 16) (phase : Fin 8000)
  /-- NRESET_RELEASE (R148): When NRESET returns high after a pin reset, the device leaves reset and runs the boot sequence. -/
  | nresetRelease
  /-- BROWNOUT_RELEASE (R102): Once VBAT has been above the brownout release for 1 ms, the device leaves the brownout reset and boots. -/
  | brownoutRelease
  deriving DecidableEq, Repr

end Sys2Proof
end

