-- ==== Sys2Proof/Decode.lean ====
section
/-!
DEFINITION. Commands as words. No row of spec/opcode_table.json gives bits: the commands are events and accesses, and an instruction of the
core comes as its row with its operands (09_kraura_isa.md 3 gives the words, which Machine/Kraura.lean decodes).
-/
namespace Sys2Proof

/-- The command that a word spells by the table's bits: none, since the table gives no row bits. -/
def decodeTableWord (_nbits _w : Nat) : Option Instr := none

end Sys2Proof
end

