-- ==== Sys2Proof/Machine/Bits.lean ====
section
/-!
DEFINITION. Bit-field, byte-order and list helpers used by every block.
-/
namespace Sys2Proof.Machine

/-- The value `x` placed as a field whose lowest bit is bit `lo` of a register. -/
def fld {w : Nat} (lo : Nat) (x : BitVec w) : Word := (x.setWidth 32) <<< lo

/-- A one-bit field at bit `lo`. -/
def flag (lo : Nat) (b : Bool) : Word := if b then (1#32) <<< lo else 0#32

/-- A number placed as a field whose lowest bit is bit `lo`; the caller bounds the number. -/
def nfld (lo : Nat) (n : Nat) : Word := (BitVec.ofNat 32 n) <<< lo

/-- Bits [lo+len-1:lo] of a register. -/
def bits (w : Word) (lo len : Nat) : BitVec len := w.extractLsb' lo len

/-- Bit `i` of a register. -/
def bitAt (w : Word) (i : Nat) : Bool := w.getLsbD i

/-- The four bytes of a word, lowest address first (R7). -/
def wordBytes (w : Word) : List Byte :=
  [w.extractLsb' 0 8, w.extractLsb' 8 8, w.extractLsb' 16 8, w.extractLsb' 24 8]

/-- The little-endian number held in a list of bytes (R7). -/
def leNat : List Byte → Nat
  | [] => 0
  | b :: bs => b.toNat + 256 * leNat bs

/-- `n` bytes of a number, lowest byte first (R7). -/
def leBytes : (n : Nat) → Nat → List Byte
  | 0, _ => []
  | n + 1, x => BitVec.ofNat 8 x :: leBytes n (x / 256)

/-- The big-endian number held in a list of bytes. -/
def beNat (bs : List Byte) : Nat := leNat bs.reverse

/-- `n` bytes of a number, highest byte first. -/
def beBytes (n x : Nat) : List Byte := (leBytes n x).reverse

/-- The little-endian word at byte offset `off` of a list of bytes; bytes past the end count as 0. -/
def wordAt (bs : List Byte) (off : Nat) : Word := BitVec.ofNat 32 (leNat ((bs.drop off).take 4))

/-- The little-endian number of `n` bytes at byte offset `off`. -/
def natAt (bs : List Byte) (off n : Nat) : Nat := leNat ((bs.drop off).take n)

/-- The byte at offset `off`, 0 past the end. -/
def byteAt (bs : List Byte) (off : Nat) : Byte := bs.getD off 0

/-- A list of bytes as little-endian words, `n` of them. -/
def bytesToWords : (n : Nat) → List Byte → List Word
  | 0, _ => []
  | n + 1, bs => wordAt bs 0 :: bytesToWords n (bs.drop 4)

/-- Words as bytes, lowest address first. -/
def wordsToBytes (ws : List Word) : List Byte := ws.flatMap wordBytes

/-- Replace element `i` of a list, extending nothing. -/
def setAt {α : Type} (l : List α) (i : Nat) (x : α) : List α := l.set i x

/-- Exactly `n` bytes: the list cut, or filled with zeros. -/
def padTo (n : Nat) (bs : List Byte) : List Byte := (bs ++ List.replicate n 0#8).take n

/-- A number held at its upper bound instead of wrapping. -/
def satAdd (bound a b : Nat) : Nat := min bound (a + b)

/-- A register-wide count that holds at its greatest value. -/
def satInc {w : Nat} (x : BitVec w) : BitVec w := if x = BitVec.allOnes w then x else x + 1

/-- Bits of `v` under `mask`, the other bits of `old` kept. -/
def mergeMask (mask old v : Word) : Word := (old &&& ~~~mask) ||| (v &&& mask)

/-- The indices below `n` whose bit is set in a word, ascending. -/
def setBits (n : Nat) (w : Word) : List Nat := (List.range n).filter fun i => w.getLsbD i

/-- The word whose bit `i` says whether `p i` holds, for `i < n` (`n ≤ 32`). -/
def bitmap (n : Nat) (p : Nat → Bool) : Word :=
  (List.range n).foldl (fun w i => w ||| flag i (p i)) 0#32

end Sys2Proof.Machine
end

