-- ==== Sys2Proof/Machine/Crc.lean ====
section
/-!
DEFINITION. The cyclic checks of the device: header check, frame CRC-32, line check, record and chain CRC-16, record CRC-8.
-/
namespace Sys2Proof.Machine

/-- One step of a CRC register that shifts left: `poly` is XORed in when the top bit and the input bit differ. -/
def crcStepLeft {w : Nat} (poly : BitVec w) (c : BitVec w) (b : Bool) : BitVec w :=
  let fb := b != c.msb
  let c' := c <<< 1
  if fb then c' ^^^ poly else c'

/-- The bits of a byte, most significant first. -/
def bitsMsb (b : Byte) : List Bool := (List.range 8).map fun i => b.getLsbD (7 - i)

/-- The bits of a byte, least significant first (R193). -/
def bitsLsb (b : Byte) : List Bool := (List.range 8).map fun i => b.getLsbD i

/-- HCHK over bits 4 to 15 of a PHY header (R189). -/
def hchk (hdr : BitVec 16) : BitVec 4 :=
  (List.range 12).foldl (fun c i => crcStepLeft 3#4 c (hdr.getLsbD (i + 4))) 0#4

/-- One bit of a reflected CRC register. -/
def crcStepRight {w : Nat} (poly : BitVec w) (c : BitVec w) (b : Bool) : BitVec w :=
  let fb := b != c.getLsbD 0
  let c' := c >>> 1
  if fb then c' ^^^ poly else c'

/-- The CRC-32 of a list of bytes, least significant bit first, inverted at the end (R194). -/
def crc32 (bs : List Byte) : Word :=
  ~~~ (bs.foldl (fun c b => (bitsLsb b).foldl (crcStepRight 0xEDB88320#32) c) 0xFFFFFFFF#32)

/-- The CRC-16 of polynomial 0x8BB7, register 0: the line check and the store check (R623, R630). -/
def lineCrc (bs : List Byte) : BitVec 16 :=
  bs.foldl (fun c b => (bitsMsb b).foldl (crcStepLeft 0x8BB7#16) c) 0#16

/-- CRC-16 of polynomial 0x1021 with the register initialised to 0xFFFF, most significant bit first. -/
def crc16 (bs : List Byte) : BitVec 16 :=
  bs.foldl (fun c b => (bitsMsb b).foldl (crcStepLeft 0x1021#16) c) 0xFFFF#16

/-- CRC-8 of polynomial 0x07 with the register initialised to 0, most significant bit first. -/
def crc8 (bs : List Byte) : Byte :=
  bs.foldl (fun c b => (bitsMsb b).foldl (crcStepLeft 0x07#8) c) 0#8

/-- The bits of a number, most significant of `n` first. -/
def natBitsMsb (n x : Nat) : List Bool := (List.range n).map fun i => x.testBit (n - 1 - i)

end Sys2Proof.Machine
end

