-- ==== Sys2Proof/Machine/Crypto.lean ====
section
/-!
DEFINITION. The cryptographic functions that the device computes: AES-128 and CCM (R296), SHA-256 (R598, R740), ECDSA over P-256 (R740).
-/
namespace Sys2Proof.Machine

/-- The AES S-box of FIPS 197 as one number, entry i in bits [8i+7:8i]. -/
def aesSboxNat : Nat :=
  0x16bb54b00f2d99416842e6bf0d89a18cdf2855cee9871e9b948ed9691198f8e19e1dc186b95735610ef6034866b53e708a8bbd4b1f74dde8c6b4a61c2e2578ba08ae7a65eaf4566ca94ed58d6d37c8e779e4959162acd3c25c2406490a3a32e0db0b5ede14b8ee4688902a22dc4f816073195d643d7ea7c41744975fec130ccdd2f3ff1021dab6bcf5389d928f40a351a89f3c507f02f94585334d43fbaaefd0cf584c4a39becb6a5bb1fc20ed00d153842fe329b3d63b52a05a6e1b1a2c830975b227ebe28012079a059618c323c7041531d871f1e5a534ccf73f362693fdb7c072a49cafa2d4adf04759fa7dc982ca76abd7fe2b670130c56f6bf27b777c63

def aesSub (b : Byte) : Byte := BitVec.ofNat 8 (aesSboxNat >>> (8 * b.toNat))

/-- Multiplication by x in the field of FIPS 197. -/
def aesXtime (b : Byte) : Byte := if b.msb then (b <<< 1) ^^^ 0x1B#8 else b <<< 1

def xorBytes (a b : List Byte) : List Byte := List.zipWith (· ^^^ ·) a b

/-- Round constants 1 to 10 of the key schedule. -/
def aesRcon : List Byte := [0x01, 0x02, 0x04, 0x08, 0x10, 0x20, 0x40, 0x80, 0x1B, 0x36]

/-- One round key from the one before it. -/
def aesNextKey (k : List Byte) (rc : Byte) : List Byte :=
  let w i := (k.drop (4 * i)).take 4
  let t := (w 3).drop 1 ++ (w 3).take 1
  let t := match t.map aesSub with
    | b :: bs => (b ^^^ rc) :: bs
    | [] => []
  let w0 := xorBytes (w 0) t
  let w1 := xorBytes (w 1) w0
  let w2 := xorBytes (w 2) w1
  w0 ++ w1 ++ w2 ++ xorBytes (w 3) w2

/-- ShiftRows on a column-major 16-byte state. -/
def aesShiftRows (s : List Byte) : List Byte :=
  (List.range 16).map fun i => s.getD ((i + 4 * (i % 4)) % 16) 0

def aesMixColumn (c : List Byte) : List Byte :=
  let g i := c.getD (i % 4) 0
  (List.range 4).map fun i =>
    aesXtime (g i) ^^^ (aesXtime (g (i + 1)) ^^^ g (i + 1)) ^^^ g (i + 2) ^^^ g (i + 3)

def aesMixColumns (s : List Byte) : List Byte :=
  (List.range 4).flatMap fun c => aesMixColumn ((s.drop (4 * c)).take 4)

/-- The rounds after the first key addition, one per remaining round constant. -/
def aesRounds : List Byte → List Byte → List Byte → List Byte
  | [], _, s => s
  | [rc], k, s => xorBytes (aesShiftRows (s.map aesSub)) (aesNextKey k rc)
  | rc :: rcs, k, s =>
    let k' := aesNextKey k rc
    aesRounds rcs k' (xorBytes (aesMixColumns (aesShiftRows (s.map aesSub))) k')

/-- AES-128 encryption of one 16-byte block under a 16-byte key, FIPS 197. -/
def aes128 (key block : List Byte) : List Byte := aesRounds aesRcon key (xorBytes block key)

/-- The bytes of a 128-bit key or block, byte 0 in bits [7:0]. -/
def bytes16 (k : BitVec 128) : List Byte := leBytes 16 k.toNat

/-- CBC-MAC over whole 16-byte blocks; `n` bounds the number of blocks. -/
def cbcMac (key : List Byte) : (n : Nat) → List Byte → List Byte → List Byte
  | 0, x, _ => x
  | n + 1, x, bs =>
    if bs.isEmpty then x
    else cbcMac key n (aes128 key (xorBytes x (padTo 16 bs))) (bs.drop 16)

/-- Counter-mode key stream from counter block `i` on, `n` blocks (SP 800-38C). -/
def ctrStream (key nonce : List Byte) : (n : Nat) → Nat → List Byte
  | 0, _ => []
  | n + 1, i => aes128 key (0x01#8 :: nonce ++ beBytes 2 i) ++ ctrStream key nonce n (i + 1)

/-- The full CBC-MAC value of CCM before truncation (R296). -/
def ccmMac (key nonce aad payload : List Byte) (t : Nat) : List Byte :=
  let flags : Byte := BitVec.ofNat 8 (0x40 + 8 * ((t - 2) / 2) + 1)
  let b0 := flags :: nonce ++ beBytes 2 payload.length
  let a := beBytes 2 aad.length ++ aad
  let ap := padTo (16 * ((a.length + 15) / 16)) a
  let pp := padTo (16 * ((payload.length + 15) / 16)) payload
  let all := b0 ++ ap ++ pp
  cbcMac key (all.length / 16) (List.replicate 16 0#8) all

/-- CCM encryption: ciphertext and the tag of `t` bytes (R296). -/
def ccmSeal (key nonce aad payload : List Byte) (t : Nat) : List Byte × List Byte :=
  let ks := ctrStream key nonce (payload.length / 16 + 2) 0
  let tag := (xorBytes (ccmMac key nonce aad payload t) ks).take t
  (xorBytes payload (ks.drop 16), tag)

/-- CCM decryption: the plaintext when the tag matches (R296, R302 step 3). -/
def ccmOpen (key nonce aad cipher tag : List Byte) : Option (List Byte) :=
  let ks := ctrStream key nonce (cipher.length / 16 + 2) 0
  let plain := xorBytes cipher (ks.drop 16)
  let t := (xorBytes (ccmMac key nonce aad plain tag.length) ks).take tag.length
  if t = tag then some plain else none

/-- Round constants of SHA-256, FIPS 180-4. -/
def shaK0 : List Word := [
   0x428A2F98#32, 0x71374491#32, 0xB5C0FBCF#32, 0xE9B5DBA5#32, 0x3956C25B#32, 0x59F111F1#32, 0x923F82A4#32, 0xAB1C5ED5#32,
   0xD807AA98#32, 0x12835B01#32, 0x243185BE#32, 0x550C7DC3#32, 0x72BE5D74#32, 0x80DEB1FE#32, 0x9BDC06A7#32, 0xC19BF174#32,
   0xE49B69C1#32, 0xEFBE4786#32, 0x0FC19DC6#32, 0x240CA1CC#32, 0x2DE92C6F#32, 0x4A7484AA#32, 0x5CB0A9DC#32, 0x76F988DA#32,
   0x983E5152#32, 0xA831C66D#32, 0xB00327C8#32, 0xBF597FC7#32, 0xC6E00BF3#32, 0xD5A79147#32, 0x06CA6351#32, 0x14292967#32]

def shaK1 : List Word := [
   0x27B70A85#32, 0x2E1B2138#32, 0x4D2C6DFC#32, 0x53380D13#32, 0x650A7354#32, 0x766A0ABB#32, 0x81C2C92E#32, 0x92722C85#32,
   0xA2BFE8A1#32, 0xA81A664B#32, 0xC24B8B70#32, 0xC76C51A3#32, 0xD192E819#32, 0xD6990624#32, 0xF40E3585#32, 0x106AA070#32,
   0x19A4C116#32, 0x1E376C08#32, 0x2748774C#32, 0x34B0BCB5#32, 0x391C0CB3#32, 0x4ED8AA4A#32, 0x5B9CCA4F#32, 0x682E6FF3#32,
   0x748F82EE#32, 0x78A5636F#32, 0x84C87814#32, 0x8CC70208#32, 0x90BEFFFA#32, 0xA4506CEB#32, 0xBEF9A3F7#32, 0xC67178F2#32]

/-- Initial hash value of SHA-256. -/
def shaInit : List Word := [
   0x6A09E667#32, 0xBB67AE85#32, 0x3C6EF372#32, 0xA54FF53A#32, 0x510E527F#32, 0x9B05688C#32, 0x1F83D9AB#32, 0x5BE0CD19#32]

/-- The 64-word message schedule, held newest word first. -/
def shaSchedule : (n : Nat) → List Word → List Word
  | 0, w => w
  | n + 1, w =>
    let g i := w.getD i 0
    let s0 := (g 14).rotateRight 7 ^^^ (g 14).rotateRight 18 ^^^ ((g 14) >>> 3)
    let s1 := (g 1).rotateRight 17 ^^^ (g 1).rotateRight 19 ^^^ ((g 1) >>> 10)
    shaSchedule n ((g 15 + s0 + g 6 + s1) :: w)

def shaRound (v : List Word) (kw : Word) : List Word :=
  let g i := v.getD i 0
  let s1 := (g 4).rotateRight 6 ^^^ (g 4).rotateRight 11 ^^^ (g 4).rotateRight 25
  let ch := (g 4 &&& g 5) ^^^ (~~~(g 4) &&& g 6)
  let t1 := g 7 + s1 + ch + kw
  let s0 := (g 0).rotateRight 2 ^^^ (g 0).rotateRight 13 ^^^ (g 0).rotateRight 22
  let maj := (g 0 &&& g 1) ^^^ (g 0 &&& g 2) ^^^ (g 1 &&& g 2)
  [t1 + s0 + maj, g 0, g 1, g 2, g 3 + t1, g 4, g 5, g 6]

/-- Big-endian words of a byte list, `n` of them. -/
def beWords : (n : Nat) → List Byte → List Word
  | 0, _ => []
  | n + 1, bs => BitVec.ofNat 32 (beNat (bs.take 4)) :: beWords n (bs.drop 4)

/-- The compression function on one 64-byte block. -/
def shaBlock (h : List Word) (block : List Byte) : List Word :=
  let w := (shaSchedule 48 (beWords 16 block).reverse).reverse
  let kw := List.zipWith (· + ·) (shaK0 ++ shaK1) w
  List.zipWith (· + ·) h (kw.foldl shaRound h)

/-- Hash `n` whole blocks. -/
def shaBlocks : (n : Nat) → List Word → List Byte → List Word
  | 0, h, _ => h
  | n + 1, h, bs => shaBlocks n (shaBlock h (bs.take 64)) (bs.drop 64)

/-- The padding after a message of `len` bytes in all. -/
def shaPadding (len : Nat) : List Byte :=
  0x80#8 :: List.replicate ((119 - len % 64) % 64) 0#8 ++ beBytes 8 (8 * len)

def shaDigestBytes (h : List Word) : List Byte := h.flatMap fun w => beBytes 4 w.toNat

/-- SHA-256 of a byte string. -/
def sha256 (msg : List Byte) : List Byte :=
  let m := msg ++ shaPadding msg.length
  shaDigestBytes (shaBlocks (m.length / 64) shaInit m)

/-- The prime, order and base point of P-256 (FIPS 186-5). -/
def p256P : Nat := 0xffffffff00000001000000000000000000000000ffffffffffffffffffffffff
def p256N : Nat := 0xffffffff00000000ffffffffffffffffbce6faada7179e84f3b9cac2fc632551
def p256B : Nat := 0x5ac635d8aa3a93e7b3ebbd55769886bc651d06b0cc53b0f63bce3c3e27d2604b
def p256G : Nat × Nat :=
  (0x6b17d1f2e12c4247f8bce6e563a440f277037d812deb33a0f4a13945d898c296,
   0x4fe342e2fe1a7f9b8ee7eb4a7c0f9e162bce33576b315ececbb6406837bf51f5)

/-- `b ^ e mod m` over the low `n` bits of the exponent, most significant first. -/
def powMod (m b e : Nat) : (n : Nat) → Nat
  | 0 => 1 % m
  | n + 1 =>
    let r := powMod m b (e / 2) n
    let r2 := r * r % m
    if e % 2 = 1 then r2 * b % m else r2

/-- The inverse modulo a prime of 256 bits. -/
def invMod (m a : Nat) : Nat := powMod m a (m - 2) 256

/-- Point addition on P-256; `none` is the point at infinity. -/
def p256Add (p q : Option (Nat × Nat)) : Option (Nat × Nat) :=
  match p, q with
  | none, q => q
  | p, none => p
  | some (x1, y1), some (x2, y2) =>
    if x1 = x2 ∧ (y1 + y2) % p256P = 0 then none
    else
      let l :=
        if x1 = x2 then ((3 * x1 * x1 + (p256P - 3)) * invMod p256P (2 * y1 % p256P)) % p256P
        else ((y2 + p256P - y1) * invMod p256P ((x2 + p256P - x1) % p256P)) % p256P
      let x3 := (l * l + 2 * p256P - x1 - x2) % p256P
      some (x3, (l * (x1 + p256P - x3) + p256P - y1) % p256P)

/-- Scalar multiplication over the low `n` bits of `k`. -/
def p256Mul (p : Option (Nat × Nat)) (k : Nat) : (n : Nat) → Option (Nat × Nat)
  | 0 => none
  | n + 1 =>
    let h := p256Mul p (k / 2) n
    let d := p256Add h h
    if k % 2 = 1 then p256Add d p else d

def p256OnCurve (x y : Nat) : Bool :=
  decide (x < p256P) && decide (y < p256P) &&
  (y * y) % p256P == (x * x * x + (p256P - 3) * x + p256B) % p256P

/-- ECDSA verification over P-256 with a 32-byte digest (R740, R742). -/
def ecdsaVerify (x y r s : Nat) (digest : List Byte) : Bool :=
  if !p256OnCurve x y || r == 0 || s == 0 || decide (p256N ≤ r) || decide (p256N ≤ s) then false
  else
    let z := beNat digest
    let w := invMod p256N s
    let pt := p256Add (p256Mul (some p256G) (z * w % p256N) 256) (p256Mul (some (x, y)) (r * w % p256N) 256)
    match pt with
    | none => false
    | some (px, _) => px % p256N == r

end Sys2Proof.Machine
end

