-- ==== Sys2Proof/Machine/Blocks/Boot.lean ====
section
/-!
DEFINITION. State of boot and of the update engine (19_boot_pairing.md, 20_update.md).
-/
namespace Sys2Proof.Machine

/-- What boot found and chose (R769). -/
structure BootBlock where
  verdict : Vector Byte 4 := Vector.replicate 4 0
  version : Vector Word 4 := Vector.replicate 4 0
  ifgen : Vector (BitVec 16) 4 := Vector.replicate 4 0
  rejected : Vector Bool 4 := Vector.replicate 4 false
  paired : Vector Bool 4 := Vector.replicate 4 false
  sumpWhy : Byte := 0
  pairIdx : Nat := 0
  /-- Slot B is chosen. -/
  linkB : Bool := false
  appB : Bool := false
  trial : Bool := false
  rollback : Bool := false
  fallback : Bool := false
  sump : Bool := false
  deriving DecidableEq, Repr

/-- The states of a session (R774). -/
inductive UpState where
  | idle
  | erasing
  | receiving
  | verifying
  | ready
  | activating
  deriving DecidableEq, Repr

/-- The owner of a session (R770). -/
inductive UpOwner where
  | none
  | core
  | host
  | stick
  deriving DecidableEq, Repr

/-- A command accepted by the engine and not carried out yet (R779). -/
structure UpCommand where
  owner : UpOwner
  /-- 1 OPEN, 2 BLOCK, 3 CLOSE, 4 ACTIVATE, 5 ABORT. -/
  cmd : BitVec 4
  kind : BitVec 2 := 0
  slot : BitVec 2 := 0
  service : Bool := false
  offset : Word := 0
  crc : Word := 0
  data : List Byte := []
  /-- Tag of the chain command, for a host command. -/
  tag : Nat := 0
  deriving DecidableEq, Repr

/-- What an ACTIVATE still has to do at its edge (R786, R789). -/
inductive Activation where
  | none
  /-- The application goes live at edge U, of this drip count (R786, R787). -/
  | atEdge (drip : BitVec 48)
  /-- The core is stopped; it restarts at edge U + 6 or after the formatting of rings (R787). -/
  | restart (drip : BitVec 48)
  /-- The link image waits for a quiet edge (R789). -/
  | link
  deriving DecidableEq, Repr

/-- A host command's result that its response has not taken (R779, R838). -/
structure UpDone where
  tag : Nat
  cmd : BitVec 4
  status : Byte
  deriving DecidableEq, Repr

/-- The update engine. -/
structure UpdateBlock where
  state : UpState := .idle
  owner : UpOwner := .none
  /-- Target slot n. -/
  target : Fin 4 := 0
  service : Bool := false
  /-- The device enters or leaves SERVICE for the session at the next transfer (R773). -/
  enterService : Bool := false
  tested : Bool := false
  status : Byte := 0
  lastCmd : BitVec 4 := 0
  verdict : Byte := 0
  miss : Word := 0
  /-- OFFSET / 256 of the blocks received, one bit each (R782). -/
  bitmap : BitVec 1792 := 0
  dups : Nat := 0
  /-- Power-on seconds since the owner's last accepted command (R776). -/
  quiet : Nat := 0
  queue : List UpCommand := []
  /-- The BLOCK being programmed: its OFFSET and its units still to program, and the command (R782). -/
  block : Option (UpCommand × Nat) := none
  /-- Sectors of the target slot that an OPEN has still to erase, and whether one is with the flash controller (R773). -/
  sectorsLeft : Nat := 0
  /-- An OPEN, CLOSE or ACTIVATE that has not completed. -/
  open_ : Option UpCommand := none
  /-- An ABORT that takes effect at the end of the erase or digest step (R774). -/
  aborting : Option UpCommand := none
  /-- Results of host commands whose response has not been completed (R779). -/
  hostDone : List UpDone := []
  activation : Activation := .none
  -- LT_UP registers
  cmdReg : Word := 0
  offReg : Word := 0
  crcReg : Word := 0
  buf : Vector Word 64 := Vector.replicate 64 0
  go : Bool := false
  stickAuto : Bool := false
  -- LT_UPSTICK
  stickLink : Byte := 0
  stickApp : Byte := 0
  stickResult : BitVec 2 := 0
  /-- The stick present has been evaluated (R801). -/
  evaluated : Bool := false
  deriving DecidableEq, Repr

end Sys2Proof.Machine
end

