-- ==== Sys2Proof/Machine/Blocks/Chain.lean ====
section
/-!
DEFINITION. State of the chain port (21_chain_port.md).
-/
namespace Sys2Proof.Machine

/-- What a finished host job reports to the response of its FRAME_SEND (R286, R840). -/
structure HostDone where
  tag : Nat
  result : BitVec 4
  attempts : Nat
  late : Bool
  stamp : BitVec 64
  deriving DecidableEq, Repr

/-- How far a queued command has come (R828). -/
inductive ChainStage where
  /-- Accepted; it waits for the transfer that carries it out, or for its turn in its stream. -/
  | accepted
  /-- Carried out; its result is not known yet. -/
  | running
  deriving DecidableEq, Repr

/-- A queued command between its acceptance and its response (R827). -/
structure ChainCommand where
  op : Byte
  tag : Byte
  payload : List Byte
  /-- A broadcast: it is never outstanding and has no response (R827). -/
  broadcast : Bool
  /-- Its status when a check that comes before the operation has decided it (R818). -/
  early : Option Byte
  /-- Gallery lines that a FRAME_SEND took at its header (R840). -/
  lines : List Nat := []
  stage : ChainStage := .accepted
  /-- It reached the chain port after cycle 7,967 and waits one edge more (R63). -/
  late : Bool := false
  deriving DecidableEq, Repr

/-- A response (R816). -/
structure ChainResp where
  tag : Byte
  op : Byte
  status : Byte
  payload : List Byte
  deriving DecidableEq, Repr

/-- The chain port. -/
structure ChainBlock where
  /-- Level of CH_ENI, and the level driven on CH_ENO (R821). -/
  eni : Bool := false
  eno : Bool := false
  /-- The unit's address; 0 is unassigned (R820). -/
  addr : BitVec 6 := 0
  /-- The recorded generation (R830). -/
  hostMajor : Byte := 1
  hostMinor : Byte := 0
  -- CH_HERR
  errCrc : Byte := 0
  errQfull : Byte := 0
  errDup : Byte := 0
  errOther : Byte := 0
  /-- Accepted commands without a response yet, in order of acceptance (R827, R828). -/
  waiting : List ChainCommand := []
  /-- Completed responses, in order of completion (R829). -/
  ready : List ChainResp := []
  /-- The response last returned by FETCH (R829). -/
  last : Option ChainResp := none
  /-- First lines of frames owned by CHAIN, oldest first (R841). -/
  takeQueue : List Nat := []
  /-- Lines of the frame last taken, empty once freed, and its length in bytes (R842). -/
  taken : List Nat := []
  takenLen : Nat := 0
  /-- CH_DBGCTL.OPEN. -/
  dbgOpen : Bool := false
  /-- Host jobs that have reached DONE and whose response is not complete yet (R286). -/
  hostDone : List HostDone := []
  /-- The bytes driven on CH_SDO in the last transaction, from the status byte on; empty when the unit drove none (R809, R813 to R816). -/
  answer : List Byte := []
  deriving DecidableEq, Repr

/-- What survives a reset of the chain port: the level at its pin. -/
def ChainBlock.kept (c : ChainBlock) : ChainBlock := { eni := c.eni }

end Sys2Proof.Machine
end

