-- ==== Sys2Proof/Machine/Blocks/Core.lean ====
section
/-!
DEFINITION. State of the Kraura core, its DSP datapath and its decode table (09, 10, 11, 12).
-/
namespace Sys2Proof.Machine

/-- A store waiting in the store buffer (R465). -/
structure StoreEntry where
  addr : Nat
  /-- Width in bytes: 1, 2 or 4. -/
  size : Nat
  value : Word
  deriving DecidableEq, Repr

/-- A run-ahead episode (R457). -/
structure Episode where
  /-- Shadow registers. -/
  g : Vector Word 32
  /-- Poisoned registers, one bit each. -/
  poison : BitVec 32 := 0
  /-- The run-ahead program counter. -/
  pc : Word
  /-- Instructions executed in the episode (R460). -/
  count : Nat := 0
  /-- Cycles until the triggering load and every older one have written (R462, R905). -/
  left : Nat
  /-- Cycles until each outstanding miss completes, the loads of R905 included (R459). -/
  misses : List Nat
  /-- Shadow registers that are not readable yet, with the cycles left (R440). -/
  late : List (GReg × Nat) := []
  /-- The episode has stopped and waits for the triggering load (R458). -/
  stopped : Bool := false
  deriving DecidableEq, Repr

/-- One entry of the branch predictor (R453). -/
structure Prediction where
  tag : BitVec 6
  target : Word
  counter : BitVec 2
  deriving DecidableEq, Repr

/-- A flash line or Flowstone group held by a read buffer (R449, R459, R608). -/
structure BufferLine where
  /-- First byte. -/
  unit : Nat
  /-- It was corrected as it filled, and no use outside run-ahead has reported that yet. -/
  corrected : Bool
  /-- Cycles until its data has arrived, counted as the latency of a load that issues now (R455). -/
  left : Nat := 0
  deriving DecidableEq, Repr

/-- The effect of a DSP instruction on a z register or an accumulator when its latency has passed (R501 to R503). -/
inductive DspEffect where
  | z (n : Fin 8) (value : Word) (clamped : Bool)
  /-- Add the components of a product, clamping (R495). -/
  | accAdd (a : Fin 4) (i q : Int)
  | accSet (a : Fin 4) (i q : BitVec 40)
  /-- ACCPUT of one part (R494). -/
  | accPart (a : Fin 4) (part : BitVec 2) (value : Word)
  deriving DecidableEq, Repr

/-- A DSP write in flight, and the cycles until it is readable (R501). -/
structure DspWrite where
  effect : DspEffect
  left : Nat
  deriving DecidableEq, Repr

/-- An address generator (R490). -/
structure AddrGen where
  p : Word := 0
  s : BitVec 16 := 0
  b : Word := 0
  l : BitVec 16 := 0
  deriving DecidableEq, Repr

/-- DSP state (R490). -/
structure DspBlock where
  z : Vector Word 8 := Vector.replicate 8 0
  accI : Vector (BitVec 40) 4 := Vector.replicate 4 0
  accQ : Vector (BitVec 40) 4 := Vector.replicate 4 0
  ag : Vector AddrGen 4 := Vector.replicate 4 {}
  /-- CP_GSTART.START. -/
  gstart : BitVec 5 := 0
  asat : Bool := false
  zsat : Bool := false
  /-- DSP writes whose latency has not passed, in issue order. -/
  inFlight : List DspWrite := []
  /-- CP_GFIDX. -/
  gfReason : BitVec 3 := 0
  gfK : BitVec 5 := 0
  /-- CP_GFADDR. -/
  gfAddr : Word := 0
  deriving DecidableEq, Repr

/-- What the core would hold had everything older completed, and nothing younger begun. -/
structure Checkpoint where
  g : Vector Word 32
  sat : Bool
  dz : Bool
  dsp : DspBlock
  deriving DecidableEq, Repr

/-- A slow load or a division in progress (R425, R447, R455). -/
structure Outstanding where
  pc : Word
  rt : GReg
  /-- First byte of the flash line or Flowstone group that a load awaits; none for a division. -/
  unit : Option Nat
  /-- Cycles until its result is available. -/
  left : Nat
  /-- What an asynchronous entry that abandons it returns to (R463, R478). -/
  back : Checkpoint
  /-- Entries of the store buffer that are younger (R472). -/
  younger : Nat := 0
  deriving DecidableEq, Repr

/-- One entry of the decode table: header fields and the micro-op words (R536). -/
structure CxEntry where
  n : BitVec 5 := 0
  valid : Bool := false
  bad : Bool := false
  badIdx : BitVec 5 := 0
  ops : Vector Word 16 := Vector.replicate 16 0
  deriving DecidableEq, Repr

/-- The decode table and its special registers (R536, R552). -/
structure CxBlock where
  table : Vector CxEntry 8 := Vector.replicate 8 {}
  /-- CP_DTADDR: INC, ENTRY, WORD. -/
  inc : Bool := false
  entry : Fin 8 := 0
  word : BitVec 5 := 0
  denied : Bool := false
  lock : Bool := false
  deriving DecidableEq, Repr

/-- The Kraura core. Every field is of the Core reset class (R12, R401). -/
structure CoreBlock where
  /-- g0 to g31; element 0 is never read (R395). -/
  g : Vector Word 32 := Vector.replicate 32 0
  pc : Word := 0
  -- CP_STATUS
  pcsd : BitVec 4 := 0
  csd : BitVec 4 := 0
  dz : Bool := false
  sat : Bool := false
  pipl : BitVec 3 := 0
  ipl : BitVec 3 := 0
  insvc : Bool := false
  pie : Bool := false
  ie : Bool := false
  epc : Word := 0
  cause : Word := 0
  vbase : Word := 0x7C00
  badInst : Word := 0
  badAddr : Word := 0
  scratch0 : Word := 0
  scratch1 : Word := 0
  /-- The cycle count (R405). -/
  cycle : BitVec 64 := 0
  /-- CP_CYCLE_HI as captured. -/
  cycleHi : Word := 0
  /-- CP_DRIP_HI as captured. -/
  dripHi : BitVec 16 := 0
  -- CP_DRIPCTL, CP_DRIPMISS
  dripPend : Bool := false
  dripBusy : Bool := false
  dripDiv : BitVec 8 := 0
  dripEn : Bool := false
  dripMiss : Word := 0
  /-- The core's clock is gated by DOZE (R121). -/
  doze : Bool := false
  /-- An event of R122 has come since the core entered DOZE. -/
  dozeEvent : Bool := false
  /-- The next exception entry ends DOZE (CP_CAUSE.DOZE). -/
  wokeDoze : Bool := false
  /-- The core is stopped: a warm restart is in progress (R488). -/
  stopped : Bool := false
  /-- Registers whose last write is not readable yet, with the cycles left (R440). -/
  late : List (GReg × Nat) := []
  /-- Cycles for which the divider is still held (R425, R444). -/
  divider : Nat := 0
  stores : List StoreEntry := []
  /-- Slow loads and divisions in progress, oldest first. The registers hold their results already; `late` keeps readers waiting. -/
  outs : List Outstanding := []
  episode : Option Episode := none
  /-- Lines of the instruction cache (first bytes), most recently used first (R448). -/
  icache : List Nat := []
  /-- Lines of the instruction cache that hold a parity error (R448). -/
  icacheParity : List Nat := []
  /-- The flash read buffer, most recently used first (R449). -/
  flashBuf : List BufferLine := []
  /-- The Flowstone window's group buffer, most recently used first (R459). -/
  groupBuf : List BufferLine := []
  /-- Cycles until the flash array can start another line read (R450). -/
  flashNext : Nat := 0
  predictor : Vector (Option Prediction) 64 := Vector.replicate 64 none
  dsp : DspBlock := {}
  cx : CxBlock := {}
  deriving DecidableEq, Repr

end Sys2Proof.Machine
end

