-- ==== Sys2Proof/Machine/Blocks/Drip.lean ====
section
/-!
DEFINITION. State of the drip generator, of the supply, clock and mode logic, and of the cause tree (02, 03, 22).
-/
namespace Sys2Proof.Machine

/-- The drip generator and its timekeeping (02_drip.md). -/
structure DripBlock where
  /-- The drip count (R64, R65), 48 bits. -/
  count : BitVec 48 := 0
  /-- The drip phase in LCLK cycles, 0 to 7,999, at the last event that fixed it (R59). -/
  phase : Nat := 0
  /-- The drip generator runs (R32, R74); boot starts it (R77, R79). -/
  running : Bool := false
  /-- Bits [47:32] captured by the last read of LK_DRIP_LO (R95). -/
  hiLatch : BitVec 16 := 0
  /-- LK_DRIP_STAT.SEQ_OVR_COUNT (R88). -/
  seqOvrCount : BitVec 16 := 0
  /-- LK_DRIP_STAT.CAL_VALID (R71). -/
  calValid : Bool := false
  /-- LK_DRIP_STAT.RESUMED (R95). -/
  resumed : Bool := false
  /-- LK_DRIP_STAT.GAP (R79). -/
  gap : Bool := false
  /-- LK_LFCAL.C (R70). -/
  lfcal : Word := 4000000#32
  /-- LK_LASTSLEEP.N (R73). -/
  lastSleep : Word := 0
  /-- E: the last edge before the drip stopped, held by the always-on timekeeper (R72, R902). -/
  stopEdge : BitVec 48 := 0
  /-- e: LCLK cycles from edge E to the LFCLK tick that follows (R72, R902); none until a command of the stopped interval tells which tick
  that was (DESIGN CHOICE, assumption 49). -/
  stopCycles : Option Nat := none
  /-- C as the always-on timekeeper holds it: the last measured since the last Cold reset, 4,000,000 before the first (R71, R902, R702). -/
  keptC : Word := 4000000#32
  /-- The drip stopped because a reset began while it ran, so e may reach 8,977 (R902). -/
  stopRan : Bool := false
  deriving DecidableEq, Repr

/-- The operating modes with an encoding in PW_MODE (R119); DOZE belongs to the core alone and is `CoreBlock.doze`. -/
inductive Mode where
  | run
  | listen
  | sleep
  | deep
  | hibernate
  | service
  | sump
  deriving DecidableEq, Repr

/-- Why the whole device is held in reset with nothing running. -/
inductive ResetHold where
  /-- Not held in reset. -/
  | none
  /-- VBAT is below the brownout release, or has not been above it for 1 ms (R102). -/
  | brownout
  /-- NRESET is low (R148). -/
  | pin
  /-- The reset is over but the 32 MHz crystal is not stable yet: boot follows at the resume tick (R73, R736). -/
  | crystal
  deriving DecidableEq, Repr

/-- The progress of a wake from a stopped mode (R134, R139, R140). -/
inductive WakePhase where
  /-- No wake in progress. -/
  | none
  /-- The wake tick has come; the crystal is starting (R134). -/
  | starting
  /-- The crystal was restarted once at maximum drive (R140). -/
  | restarted
  /-- The resume tick has come; the core's clock waits for the first edge 20 µs later (R139). -/
  | resumed
  /-- As `resumed`, but the first edge falls less than 20 µs after the resume tick, so the clock waits for the second (R139). -/
  | resumedLate
  deriving DecidableEq, Repr

/-- Supply, clock domains and operating modes (03_power_clocks_modes.md). -/
structure PowerBlock where
  /-- The mode in force (R119), PW_MODE.CURRENT. -/
  mode : Mode := .run
  /-- PW_MODE.TARGET. -/
  target : BitVec 4 := 0
  /-- PW_MODE.GO: a request not yet resolved (R124). -/
  go : Bool := false
  /-- A request has been delivered at an edge X and is resolved at the next transfer (R124). -/
  requested : Bool := false
  /-- The TARGET delivered with the request. -/
  requestTarget : BitVec 4 := 0
  /-- An enabled wake source or core interrupt was latched after edge X (R125 row 5). -/
  wakeLatched : Bool := false
  /-- PW_STAT.LAST_ENTRY. -/
  lastEntry : BitVec 4 := 0
  /-- PW_STAT.BYPASS (R99). -/
  bypass : Bool := false
  /-- PW_STAT.BOD_WARN (R105). -/
  bodWarn : Bool := false
  /-- PW_WAKEEN. -/
  wakeEn : BitVec 6 := 0x20
  /-- PW_WAKESRC, Cold class. -/
  wakeSrc : BitVec 7 := 0
  /-- Wake sources active in the stopped mode and not yet latched at a wake tick, in the bit order of PW_WAKESRC (R134). -/
  wakeActive : BitVec 7 := 0
  /-- PW_CFG: [2] HIB_KEY, [1] PA_VBAT, [0] REG. -/
  cfg : BitVec 3 := 0
  /-- VPA is below 1.6 V at its pin now. -/
  vpaPinLow : Bool := true
  /-- VPA was below 1.6 V when sampled at the last System reset (R157). -/
  vpaLow : Bool := true
  /-- CK_CCLK.FREQ. -/
  cclkFreq : BitVec 3 := 3
  /-- CK_CCLK.CUR. -/
  cclkCur : BitVec 3 := 3
  /-- CK_LF.SRC, 1 is the RC; Cold class. -/
  lfSrcRc : Bool := true
  /-- CK_LF.ACTIVE, 1 is the RC. -/
  lfActiveRc : Bool := true
  /-- CK_LF.XO_RUN. -/
  lfXoRun : Bool := false
  /-- The selected crystal has failed, and SRC has not been written since it started again (R115). -/
  lfFailed : Bool := false
  /-- CK_STAT.XO_OK. -/
  xoOk : Bool := false
  /-- CK_STAT.PLL_LOCK. -/
  pllLock : Bool := false
  /-- The device is held in reset. -/
  hold : ResetHold := .none
  /-- NRESET is low at its pin, since a low level long enough to reset the device (R148). -/
  nresetLow : Bool := false
  /-- A wake in progress (R134). -/
  wake : WakePhase := .none
  deriving DecidableEq, Repr

/-- The groups, leaves and masks of the cause tree (22_cause_tree.md). -/
structure CauseBlock where
  /-- CAUSE_g, each group's leaves as they stand in their plane (R849, R853). -/
  leaf : Vector Word 15 := Vector.replicate 15 0
  /-- The leaves set since the last transfer: a clear that acts on the view of that transfer leaves them (R44). -/
  fresh : Vector Word 15 := Vector.replicate 15 0
  /-- Of these, the leaves set outside the LCLK domain after cycle 7,967: the coming transfer does not carry them (R63). -/
  late : Vector Word 15 := Vector.replicate 15 0
  /-- The host's view, taken at the last transfer (R855). -/
  view : Vector Word 15 := Vector.replicate 15 0
  /-- Leaves of other planes that the core has cleared and whose clear awaits its transfer (R862). -/
  coreClear : Vector Word 15 := Vector.replicate 15 0
  /-- Such clears made in cycles 7,968 to 7,999, which wait one edge more (R63). -/
  coreClearLate : Vector Word 15 := Vector.replicate 15 0
  /-- Host clears that the coming transfer carries out on the host's view (R838, R863). -/
  hostClear : Vector Word 15 := Vector.replicate 15 0
  /-- Host clears carried out in cycles 7,968 to 7,999 (R63). -/
  hostClearLate : Vector Word 15 := Vector.replicate 15 0
  /-- CS_HOSTMASK as delivered. -/
  hostMask : Word := 0
  /-- CS_CMASKg. -/
  cmask : Vector Word 15 := Vector.replicate 15 0
  /-- ATTN is driven low (R858). -/
  attnLow : Bool := false
  deriving DecidableEq, Repr

end Sys2Proof.Machine
end

