-- ==== Sys2Proof/Machine/Blocks/Integrity.lean ====
section
/-!
DEFINITION. State of memory integrity: error marks, line checks, scrub and row repair (15_memory_integrity.md).
-/
namespace Sys2Proof.Machine

/-- A spare row of an SRAM block (R622). -/
inductive Spare where
  | free
  | serves (row : Nat)
  | retired
  deriving DecidableEq, Repr

/-- Row repair of one SRAM block (R617 to R622). -/
structure Repair where
  corr : BitVec 16 := 0
  unsaved : Bool := false
  /-- Its record waits for the end of a supply warning (R731). -/
  waiting : Bool := false
  spares : Vector Spare 8 := Vector.replicate 8 .free
  deriving DecidableEq, Repr

/-- Error correction, line window and scrub state. -/
structure IntegrityBlock where
  /-- Stored line check of each gallery line (R623). -/
  lineCheck : Vector (BitVec 16) 128 := Vector.replicate 128 0
  /-- Addresses of SRAM and DTCM words that hold a correctable error, ascending (R605). -/
  corrWords : List Nat := []
  /-- Addresses of SRAM and DTCM words that read as uncorrectable, ascending (R607). -/
  uncorrWords : List Nat := []
  /-- First bytes of flash units, and of Flowstone groups, that hold a correctable error (R608, R609). -/
  corrUnits : List Nat := []
  corrGroups : List Nat := []
  /-- First bytes of flash units, and of Flowstone groups, that read as uncorrectable. -/
  uncorrUnits : List Nat := []
  uncorrGroups : List Nat := []
  /-- First bytes of flash units, and of Flowstone groups, that were programmed with 0xFF bytes and so are not erased (R646, R663). -/
  onesUnits : List Nat := []
  onesGroups : List Nat := []
  /-- Cells that no longer take a program or an erase: flash units and Flowstone groups whose read-back fails, and flash and Flowstone
  sectors (first bytes) whose erase verify fails (R647, R673, R691). No command changes them. -/
  deadUnits : List Nat := []
  /-- SRAM and DTCM words whose cells read as uncorrectable even when cleared (R762). -/
  deadWords : List Nat := []
  deadGroups : List Nat := []
  deadSectors : List Nat := []
  /-- CS_ECCSTAT.CORR. -/
  corr : BitVec 16 := 0
  /-- CS_ECCADDR. -/
  eccAddr : Word := 0
  /-- CS_ECCREG.REGION. -/
  eccReg : BitVec 2 := 0
  /-- CS_LWSTAT fields. -/
  lwBad : BitVec 8 := 0
  lwWrLine : BitVec 7 := 0
  lwWrDisc : Bool := false
  lwResult : BitVec 2 := 0
  lwLine : BitVec 7 := 0
  /-- LT_SCRUB: next row in the order of R614, and complete passes. -/
  scrubRow : Nat := 0
  scrubPasses : BitVec 16 := 0
  /-- LT_SCRUBERR. -/
  scrubErr : Word := 0
  /-- LT_REPAIRn. -/
  repair : Vector Repair 4 := Vector.replicate 4 {}
  deriving DecidableEq, Repr

end Sys2Proof.Machine
end

