-- ==== Sys2Proof/Machine/Blocks/Key.lean ====
section
/-!
DEFINITION. State of the Keyholder engine (08_keyholder.md).
-/
namespace Sys2Proof.Machine

/-- The two orderables (R1). -/
inductive Orderable where
  | spx7720
  | spx7718
  deriving DecidableEq, Repr

/-- A token record as the engine holds it (R377). -/
structure TokenRec where
  id : Word := 0
  key : BitVec 128 := 0
  rights : BitVec 16 := 0
  channels : Byte := 0
  /-- 0 EMPTY, 1 ACTIVE, 2 REVOKED, 3 PENDING; any other acts as EMPTY (R378). -/
  state : Byte := 0
  expiry : BitVec 40 := 0
  deriving DecidableEq, Repr

/-- What a channel is doing (R327, R343 to R345, R347, R390). -/
inductive KeyActivity where
  | idle
  /-- A poll found a change; the confirming poll follows (R343). -/
  | confirming
  /-- A transaction waits for the token's ID frame; `again` is the one repeat of R345. -/
  | waitId (again : Bool)
  /-- The challenge sent to a token is outstanding (R334, R336). -/
  | challenged (id : Word) (challenge : BitVec 64)
  /-- NO_TOKEN was found; the repeat comes 500 ms later (R345). -/
  | retryWait
  /-- A raw run (R390). -/
  | raw
  deriving DecidableEq, Repr

/-- The present channel-L token (R346). -/
structure PresentToken where
  /-- Its ID, when one was received. -/
  id : Option Word := none
  slot : Option (Fin 64) := none
  granted : Bool := false
  /-- Granted through raw mode (R348). -/
  raw : Bool := false
  deriving DecidableEq, Repr

/-- A result that waits for the commit phase (R363). -/
structure KeyResult where
  channel : KeyChannel
  code : Byte
  id : Option Word
  slot : Option (Fin 64)
  raw : Bool
  deriving DecidableEq, Repr

/-- A result register pair (R363, R394). -/
structure KeyResultReg where
  seq : BitVec 16 := 0
  raw : Bool := false
  slotValid : Bool := false
  slot : BitVec 6 := 0
  result : Byte := 0
  id : Word := 0
  deriving DecidableEq, Repr

/-- A request of the engine that waits for a position of the Lantern core mailbox (R24, R371, R382). -/
inductive KeyRequest where
  | lock (record : List Byte)
  | promote (slot : Fin 64)
  deriving DecidableEq, Repr

/-- What the always-on presence sensor holds in HIBERNATE (R350). -/
structure PresenceSensor where
  /-- None until its first poll when the engine had none to hand over (R342). -/
  baseline : Option (BitVec 8)
  delta : BitVec 8
  period : Nat
  seconds : Nat
  deriving DecidableEq, Repr

/-- The Keyholder engine. -/
structure KeyBlock where
  orderable : Orderable := .spx7720
  -- TK_CFG
  enrollWin : BitVec 6 := 30
  masterEnroll : Bool := false
  staleAccept : Bool := false
  calTrust : Bool := false
  oEn : Bool := false
  lEn : Bool := false
  -- TK_LFCFG
  noise : BitVec 8 := 16
  delta : BitVec 8 := 8
  recheck : BitVec 4 := 0
  period : BitVec 11 := 250
  -- TK_LOCKCFG
  dormWeeks : BitVec 5 := 6
  minutes : BitVec 6 := 5
  thresh : BitVec 4 := 5
  -- TK_RELCFG
  force : BitVec 2 := 0
  holdO : BitVec 6 := 0
  holdL : BitVec 6 := 0
  -- TK_OCFG
  endSpace : BitVec 4 := 5
  maxMark : BitVec 8 := 141
  led : BitVec 4 := 5
  band : BitVec 6 := 38
  oMode : BitVec 2 := 0
  /-- TK_STAT.READY (R328). -/
  ready : Bool := false
  /-- The token table load has arrived since reset (R328). -/
  tableLoaded : Bool := false
  /-- The LOCK record that Lantern returned since reset; an empty list when the ring holds none (R328, R372). -/
  lockRecord : Option (List Byte) := none
  table : Vector TokenRec 64 := Vector.replicate 64 {}
  lAct : KeyActivity := .idle
  oAct : KeyActivity := .idle
  /-- Amplitudes of the last quiet polls, newest first, at most 16 (R342). -/
  history : List (BitVec 8) := []
  /-- The baseline while no quiet poll has been made: from the LOCK record or the first poll (R342). -/
  lockBase : Option (BitVec 8) := none
  /-- TK_LFAMP.REF and LAST. -/
  ref : BitVec 8 := 0
  last : BitVec 8 := 0
  /-- An object level is held (R345). -/
  object : Bool := false
  present : Option PresentToken := none
  /-- Consecutive polls within DELTA / 2 of the baseline (R347). -/
  streak : Nat := 0
  /-- Polls since the last recheck (R347). -/
  polls : Nat := 0
  /-- An arrival whose transaction waits, for the wake from a stopped mode or for the end of a raw run; `true` is the one repeat of R345
  (R327, R349). -/
  keptArrival : Option Bool := none
  /-- What each channel sent last: the pauses of the carrier on channel L (R339), the marks on channel O (R354), each as its start from the
  beginning of the frame and its length in µs. -/
  lSent : List (Nat × Nat) := []
  oSent : List (Nat × Nat) := []
  /-- REL_L and REL_O of the release state, and the seconds left of a running hold (R385). -/
  relL : Bool := false
  relO : Bool := false
  holdLeftL : Option Nat := none
  holdLeftO : Option Nat := none
  /-- Slots whose grants keep REL_L and REL_O (R384). -/
  relSlotL : Option (Fin 64) := none
  relSlotO : Option (Fin 64) := none
  /-- The release state as of the last commit, for TOKEN.LOSS (R389). -/
  relCommitted : Bool := false
  /-- The RELEASE pin (R386). -/
  release : Bool := false
  locked : Bool := false
  lockSecs : Nat := 0
  lConsec : BitVec 4 := 0
  oCount : BitVec 16 := 0
  /-- TK_QUIET (R374). -/
  quiet : Nat := 0
  dormant : Bool := false
  lFlood : Bool := false
  cleanListens : Nat := 0
  oFlood : Bool := false
  /-- Seconds left of the open enrollment window (R381). -/
  enrollLeft : Option Nat := none
  /-- Slots promoted whose rewritten record has not arrived (R382). -/
  promoting : List (Fin 64) := []
  /-- Results that wait for the commit phase, oldest first. -/
  results : List KeyResult := []
  lResult : KeyResultReg := {}
  oResult : KeyResultReg := {}
  /-- Requests that wait for a mailbox position, oldest first. -/
  requests : List KeyRequest := []
  ckptFail : Bool := false
  /-- A LOCK checkpoint falls due, and the seconds of running time since the last hour's (R371). -/
  ckptDue : Bool := false
  runSecs : Nat := 0
  cmdStatus : BitVec 4 := 0
  cmdCode : BitVec 4 := 0
  -- infrared capture
  irPairs : List (BitVec 16 × BitVec 16) := []
  irValid : Bool := false
  irOverflow : Bool := false
  irLost : BitVec 16 := 0
  /-- Pairs of the code being received, oldest first, and how many it has in all (R360, R361). -/
  irRun : List (BitVec 16 × BitVec 16) := []
  irCount : Nat := 0
  -- raw mode
  rawCh : KeyChannel := .l
  rawLen : BitVec 13 := 0
  rawAddr : BitVec 13 := 0
  rawTx : Vector Word 4 := Vector.replicate 4 0
  rawTxN : Byte := 0
  /-- The channel of the active raw run. -/
  rawRun : Option KeyChannel := none
  /-- Its samples and their word offset in DTCM, as configured at RAW_START (R390). -/
  rawRunLen : Nat := 0
  rawRunAddr : Nat := 0
  /-- The repeat of R345 comes after the run. -/
  rawRetry : Bool := false
  /-- A run has ended on the channel: the last LCLK cycle at which its verdict may be posted (R393). -/
  verdictL : Option Nat := none
  verdictO : Option Nat := none
  /-- The calendar value of the last transfer (R36, R362). -/
  calendar : BitVec 40 := 0
  /-- The drip record: token grants and RELEASE assertions of the ending drip (R36). -/
  evGrants : Nat := 0
  evReleases : Nat := 0
  sensor : Option PresenceSensor := none
  /-- The wake from HIBERNATE was a GPIO wake: channel L leaves the dormancy that the LOCK record restores (R376). -/
  wakeResumes : Bool := false
  deriving DecidableEq, Repr

end Sys2Proof.Machine
end

