-- ==== Sys2Proof/Machine/Blocks/Periph.lean ====
section
/-!
DEFINITION. State of the conduit and of the peripherals (13_conduit.md, 14_peripherals.md).
-/
namespace Sys2Proof.Machine

/-- The conduit: the applied route table, its latches, and the pulses on their way (13_conduit.md). -/
structure ConduitBlock where
  /-- The 56 words of the applied table; empty while every route is disabled (R568, R570). -/
  table : List Word := []
  /-- Levels of LATCH channels (R561). -/
  latch : BitVec 16 := 0
  /-- Producers that have pulsed and whose pulse has not reached its consumers (R565). -/
  pulses : BitVec 48 := 0
  -- CS_ROUTE
  tableId : BitVec 16 := 0
  reason : BitVec 4 := 0
  applied : BitVec 2 := 0
  deriving DecidableEq, Repr

/-- GPIO (R576 to R581). Bit n of a word serves GPIOn. -/
structure GpioBlock where
  func : Word := 0
  dir : Word := 0
  out : Word := 0
  pull : Vector (BitVec 2) 20 := Vector.replicate 20 0
  edgeCfg : Vector (BitVec 2) 20 := Vector.replicate 20 0
  filt : Word := 0
  irqEn : Word := 0
  edge : Word := 0
  waken : Word := 0
  /-- GP_WAKEPIN, Cold class. -/
  wakePin : Word := 0
  /-- Levels of the inputs after the synchroniser and filter, analog pins included (R578). -/
  level : Word := 0
  /-- Detectors that have latched in a stopped mode and await the wake (R580, R581). -/
  latched : Word := 0
  /-- Pins to record in GP_EDGE once PCLK runs (R581). -/
  edgeOnWake : Word := 0
  /-- The settings of GPIO0 to GPIO3 that the always-on detectors hold in HIBERNATE (R580). -/
  hibEdge : Vector (BitVec 2) 4 := Vector.replicate 4 0
  hibWaken : BitVec 4 := 0
  hibPull : Vector (BitVec 2) 4 := Vector.replicate 4 0
  deriving DecidableEq, Repr

/-- A timer (R582 to R586). -/
structure TimerBlock where
  ieCap : Bool := false
  ieOvf : Bool := false
  ieCmp : Bool := false
  presc : BitVec 4 := 0
  oneshot : Bool := false
  en : Bool := false
  cnt : Word := 0
  top : Word := 0xFFFFFFFF
  cmp : Word := 0xFFFFFFFF
  cap : Word := 0
  capLost : Bool := false
  capFlag : Bool := false
  ovf : Bool := false
  cmpFlag : Bool := false
  deriving DecidableEq, Repr

/-- A PWM channel (R587 to R589). -/
structure PwmBlock where
  auto : Bool := false
  pol : Bool := false
  presc : BitVec 4 := 0
  /-- PRESC in force since the last period start. -/
  prescCur : BitVec 4 := 0
  per : BitVec 16 := 0xFFFF
  duty : BitVec 16 := 0
  perCur : BitVec 16 := 0xFFFF
  dutyCur : BitVec 16 := 0
  load : Bool := false
  en : Bool := false
  deriving DecidableEq, Repr

/-- A conversion in progress: the fields of AD_CFG as they stood when it started (R591). -/
structure AdcRun where
  ch : BitVec 4
  winEn : Bool
  ieWin : Bool
  ieDone : Bool
  deriving DecidableEq, Repr

/-- The ADC (R590 to R594). -/
structure AdcBlock where
  ieWin : Bool := false
  ieDone : Bool := false
  winEn : Bool := false
  en : Bool := false
  sample : BitVec 2 := 0
  ref : Bool := false
  ch : BitVec 4 := 0
  /-- The conversion in progress. -/
  busy : Option AdcRun := none
  new : Bool := false
  /-- NEW was set after the last transfer (R44, R900). -/
  newFresh : Bool := false
  dataCh : BitVec 4 := 0
  result : BitVec 12 := 0
  trigLost : Bool := false
  overwrite : Bool := false
  win : Bool := false
  done : Bool := false
  hi : BitVec 12 := 0xFFF
  lo : BitVec 12 := 0
  temp : BitVec 16 := 0
  vbat : BitVec 13 := 0
  deriving DecidableEq, Repr

/-- The TRNG (R595 to R597). -/
structure TrngBlock where
  en : Bool := false
  fifo : List Word := []
  underrun : Bool := false
  fail : Bool := false
  stopped : Bool := false
  /-- Failures since the FIFO was last full. -/
  failures : Nat := 0
  deriving DecidableEq, Repr

/-- A run of the SHA-256 accelerator. -/
structure ShaRun where
  mode : BitVec 2
  addr : Nat
  len : Nat
  /-- The source bytes as they stood at START (R600). -/
  bytes : List Byte
  /-- The reason for which the run ends, when the source was bad at START; else 0. -/
  reason : Byte
  deriving DecidableEq, Repr

/-- The SHA-256 accelerator (R598 to R600). -/
structure ShaBlock where
  mode : BitVec 2 := 0
  addr : Word := 0
  len : Word := 0
  reason : BitVec 8 := 0
  err : Bool := false
  done : Bool := false
  /-- The run in progress. -/
  run : Option ShaRun := none
  h : Vector Word 8 := Vector.replicate 8 0
  /-- Bytes hashed since the last NEW. -/
  total : Nat := 0
  /-- The state is unusable until the next NEW (R599). -/
  broken : Bool := false
  deriving DecidableEq, Repr

/-- The core's port of the AES engine (R601, R602). -/
structure AesBlock where
  key : Vector Word 4 := Vector.replicate 4 0
  input : Vector Word 4 := Vector.replicate 4 0
  output : Vector Word 4 := Vector.replicate 4 0
  werr : Bool := false
  done : Bool := false
  busy : Bool := false
  deriving DecidableEq, Repr

/-- The control-plane peripherals (14_peripherals.md). -/
structure PeriphBlock where
  gpio : GpioBlock := {}
  timer : Vector TimerBlock 4 := Vector.replicate 4 {}
  pwm : Vector PwmBlock 6 := Vector.replicate 6 {}
  adc : AdcBlock := {}
  trng : TrngBlock := {}
  sha : ShaBlock := {}
  aes : AesBlock := {}
  deriving DecidableEq, Repr

end Sys2Proof.Machine
end

