-- ==== Sys2Proof/Machine/Blocks/Radio.lean ====
section
/-!
DEFINITION. State of the data plane: radio and lanes, link controller, mesh keys and replay table (05, 06, 07).
-/
namespace Sys2Proof.Machine

/-- The four PHY modes (R180), numbered as the descriptor's MODE field (R236). -/
inductive PhyMode where
  | s1
  | s2
  | s3
  | s4
  deriving DecidableEq, Repr

/-- How far a lane's acquisition has come (R202 to R209). -/
inductive LaneStage where
  /-- The lane does not receive. -/
  | off
  /-- The lane searches for a preamble (R202). -/
  | searching
  /-- Detection declared, the 16 symbols of the fine estimate run (R203, R204). -/
  | detected
  /-- The fine estimate is complete, the lane searches for its sync word (R207). -/
  | estimated
  /-- The lane holds a frame: from sync to frame end (R209). -/
  | frame
  deriving DecidableEq, Repr

/-- What a lane holds of a frame between its sync and its verdict. -/
structure RxFrame where
  /-- Gallery lines taken, first line first (R256). -/
  lines : List Nat := []
  /-- Drip count and LCLK offset of the sync instant (R179, R222). -/
  syncDrip : BitVec 48 := 0
  syncPhase : Nat := 0
  /-- The soft decisions of the coded bits received so far, in the order on air (R200). -/
  soft : List (BitVec 4) := []
  /-- The PHY header once it has passed its check (R192). -/
  header : Option (BitVec 16) := none
  /-- MIC8 of a secured frame's MAC header, decoded with the header (R190). -/
  mic8 : Bool := false
  /-- Every coded bit has been received, and the verdict waits for lane A's of the same cycle (R219, R325). -/
  ended : Bool := false
  deriving DecidableEq, Repr

/-- One demodulator lane. -/
structure LaneBlock where
  /-- The RX or LISTEN job the lane serves (R254). -/
  job : Option (Fin 16) := none
  /-- The RELAY job that is ACTIVE for the lane (R277). -/
  policy : Option (Fin 16) := none
  stage : LaneStage := .off
  /-- Mode and channel the lane is tuned to. -/
  mode : PhyMode := .s1
  channel : Nat := 0
  /-- RF_BASE as it was when the job or transmission that the lane receives for started (R230). -/
  base : Word := 0
  /-- S3_WIDE, sync word and tolerance in force since the lane started or last detected a preamble (R230). -/
  wide : Bool := false
  sync : Word := 0
  syncTol : Nat := 1
  /-- The coarse mean m of the detection, in units of 4 MHz / 2^16 (R203). -/
  coarse : Int := 0
  /-- NCO shift in force: the coarse mean, then with it Δf, first of the fine estimate and at last as refined up to the sync (R203, R204, R206,
  R209). -/
  nco : Int := 0
  /-- Symbol phase τ that places the sampling instants, in 1/2^16 of a symbol period (R204, R206, R209). -/
  tau : Int := 0
  /-- Carrier offset of the fine estimate (R222). -/
  offset : BitVec 16 := 0
  /-- Live RSSI of the lane, signed dBm (R220). -/
  rssi : BitVec 8 := 0x80
  /-- The RSSI over the 16 symbols of the frame's fine estimate (R220). -/
  frameRssi : BitVec 8 := 0x80
  frame : Option RxFrame := none
  /-- The lane was receiving when a use of the radio stopped it (R218). -/
  resume : Bool := false
  /-- The job ends at the verdict of the frame in progress (R242, R255), with this result code. -/
  ending : Option (BitVec 4) := none
  /-- RF_LANEx_CNT. -/
  cntSync : BitVec 16 := 0
  cntHdrBad : BitVec 8 := 0
  cntNoSync : BitVec 8 := 0
  deriving DecidableEq, Repr

/-- What the transmitter sends. -/
inductive TxKind where
  | job (slot : Fin 16)
  | ack
  | relay
  | beacon
  deriving DecidableEq, Repr

/-- What a lane or a transmission is tuned to: mode, channel, the RF_BASE that places the channel, and S3_WIDE (R173, R182, R230). -/
structure Tuning where
  mode : PhyMode
  channel : Nat
  base : Word
  wide : Bool
  deriving DecidableEq, Repr

/-- A transmission on the antenna, from its turnaround to the end of its ramp-down. -/
structure OnAir where
  kind : TxKind
  mode : PhyMode
  channel : Nat
  /-- RF_BASE and S3_WIDE that apply to it (R182, R230). -/
  base : Word
  wide : Bool
  /-- Sync word sent (R186). -/
  sync : Word
  /-- Transmit power in dBm (R224). -/
  level : Int
  /-- PHY header, body and CRC-32 as sent (R184); a poisoned frame carries the complemented CRC (R631). -/
  header : BitVec 16
  body : List Byte
  crc : Word
  /-- The coded section on air, after whitening, coding, puncturing, padding and interleaving (R195 to R198). -/
  coded : List Bool
  poisoned : Bool
  /-- Linear time (R68) of the first preamble symbol. -/
  start : Nat
  deriving DecidableEq, Repr

/-- Who holds the radio. -/
inductive RadioUse where
  | receive
  | transmit (t : OnAir)
  /-- A CAL job (R282). -/
  | cal (slot : Fin 16)
  /-- Lock lost: the radio relocks (R228). -/
  | relocking
  /-- A link-image reload (R284). -/
  | reload
  deriving DecidableEq, Repr

/-- The radio front end (05_radio_phy.md). -/
structure RadioBlock where
  base : Word := 863000000#32
  syncA : Word := 0xB4E17A23
  syncB : Word := 0x2C7DD14B
  detRssi : BitVec 8 := 0x80
  s3Wide : Bool := false
  syncTol : BitVec 2 := 1
  txLevel : BitVec 6 := 0x0A
  fenceLo : Word := 770000000#32
  fenceHi : Word := 960000000#32
  /-- RF_STAT.CLIP (R210). -/
  clip : Bool := false
  /-- CLIP was set after the last transfer, so a clear delivered at the next one leaves it (R44). -/
  clipFresh : Bool := false
  /-- The synthesizer is on and locked (R111, RF_STAT.LOCK). -/
  synthOn : Bool := false
  /-- LO frequency in force in Hz (R176), 0 while the synthesizer is off. -/
  lo : Nat := 0
  /-- The LO placement of reception, to which the radio returns after a transmission (R218). -/
  loRx : Nat := 0
  /-- R176 calls for a new placement, which a held frame still delays (R215, R268). -/
  loStale : Bool := false
  /-- Linear time at which the synthesizer was turned on, which settles the lead of a start armed then (R244). -/
  synthFrom : Nat := 0
  /-- Linear time of the end of the turnaround after the last ACK, before which no other transmission starts (R246). -/
  quietUntil : Nat := 0
  /-- Linear time until which ANT_SEL is high, 4 µs after the ramp-down of an RF_HP transmission (R156). -/
  antUntil : Nat := 0
  use : RadioUse := .receive
  /-- The transmission that last ended or was cut, as it left the antenna. -/
  lastTx : Option OnAir := none
  laneA : LaneBlock := {}
  laneB : LaneBlock := {}
  deriving DecidableEq, Repr

/-- The states of a job-table slot, in the encoding order of LK_JOBSTATn.STATE (R231, R288). -/
inductive JobState where
  | free
  | queued
  | armed
  | active
  | done
  deriving DecidableEq, Repr

/-- What an ACTIVE TX job with ACKREQ does between attempts. -/
inductive TxPhase where
  /-- No attempt made yet. -/
  | idle
  /-- An attempt is on air. -/
  | onAir
  /-- The attempt has ended; its window has not opened yet (R268). -/
  | awaitWindow
  /-- The ACK window is open (R268). -/
  | window
  /-- Waiting for the backoff drip of the next retry (R251). -/
  | backoff
  /-- The first attempt waits for a frame-counter grant (R317). -/
  | waitGrant
  deriving DecidableEq, Repr

/-- One slot of the link job table (R231). -/
structure Job where
  state : JobState := .free
  /-- The eight descriptor words (R236). -/
  desc : Vector Word 8 := Vector.replicate 8 0
  result : BitVec 4 := 0
  attempts : Nat := 0
  late : Bool := false
  /-- The job belongs to the host path (R286). -/
  host : Bool := false
  /-- Tag of the chain command that submitted it (R840). -/
  hostTag : Nat := 0
  frames : Nat := 0
  /-- Start drip and offset fixed at arming (R243). -/
  startDrip : BitVec 48 := 0
  startOffset : Nat := 0
  /-- RF_BASE as it was when the job's radio work, or its latest attempt, started (R230). -/
  base : Word := 0
  /-- Drips left of an RX window are counted from here (R255). -/
  endDrip : BitVec 48 := 0
  phase : TxPhase := .idle
  /-- Drip of the next retry (R251). -/
  retryDrip : BitVec 48 := 0
  /-- The frame drawn at the first attempt: body with counter and MIC (R252), its counter's presence. -/
  counter : Option Word := none
  /-- Epoch the counter was drawn under (R312). -/
  epoch : BitVec 16 := 0
  key : BitVec 128 := 0
  /-- A line check failed at an attempt, so every later attempt is poisoned (R252, R631). -/
  poisoned : Bool := false
  /-- Sequence byte and CRC of the last attempt (R270). -/
  seq : Byte := 0
  crc : Word := 0
  /-- Cancel delivered while ACTIVE (R242). -/
  cancelled : Bool := false
  /-- Timestamp of the frame end of the last transmission, the STAMP of words 6 and 7 (R236). -/
  stamp : BitVec 64 := 0
  /-- The samples that a running snapshot's lane delivers, and the linear time sampling began (R281). -/
  samples : List Word := []
  sampleStart : Nat := 0
  deriving DecidableEq, Repr

/-- The owners of a gallery line (R38), in the encoding order of LK_LINEOWNn. -/
inductive Owner where
  | free
  | link
  | core
  | chain
  deriving DecidableEq, Repr

/-- The one pending acknowledgement (R265). -/
structure PendingAck where
  lane : Lane
  mode : PhyMode
  channel : Nat
  /-- Sync word and S3_WIDE of the lane that received the frame (R186, R230, R266). -/
  sync : Word
  wide : Bool
  seq : Byte
  crc16 : BitVec 16
  /-- Linear time of the received frame end, t0 of R267. -/
  frameEnd : Nat
  deriving DecidableEq, Repr

/-- A relay candidate in the relay store (R279). -/
structure Candidate where
  src : BitVec 16
  seq : Byte
  lane : Lane
  header : BitVec 16
  body : List Byte
  /-- Drip of the verdict, for the 64-drip limit of step 7. -/
  verdictDrip : BitVec 48
  /-- Drip of the relay slot drawn in steps 4 and 6. -/
  slotDrip : BitVec 48
  /-- Offset of the slot in that drip. -/
  slotOffset : Nat
  heard : Nat
  /-- The candidate met a busy radio and has not drawn again (step 6). -/
  waiting : Bool
  deriving DecidableEq, Repr

/-- One sub-band of the duty ledger (R271, R272). -/
structure SubBand where
  lo : Word := 0
  hi : Word := 0
  limit : Word := 0xFFFFFFFF
  buckets : Vector Nat 60 := Vector.replicate 60 0
  deriving DecidableEq, Repr

/-- A delivered frame whose security checks have not completed (R261, R301). -/
structure CheckFrame where
  lane : Lane
  /-- The receiving job that counts the frame at its delivery (R288). -/
  job : Option (Fin 16) := none
  lines : List Nat
  body : List Byte
  dup : Bool
  /-- The two keys and epochs of the slot as they stood at the verdict (R301). -/
  cur : Option (BitVec 128 × BitVec 16)
  prev : Option (BitVec 128 × BitVec 16)
  deriving DecidableEq, Repr

/-- An open ACK window: its job, and whether a sync was found in it (R268, R269); its lane, mode and channel are the job's. -/
structure AckWindow where
  slot : Fin 16
  sync : Bool
  deriving DecidableEq, Repr

/-- The link controller (06_link_controller.md). -/
structure LinkBlock where
  ucodeVersion : BitVec 16 := 0
  ucodeGen : BitVec 16 := 0
  jobs : Vector Job 16 := Vector.replicate 16 {}
  /-- LK_SUBRES, the submissions delivered at the most recent transfer (R234). -/
  subAccepted : BitVec 16 := 0
  subQfull : BitVec 16 := 0
  /-- The receive queue, head first (R262). -/
  rxq : List Nat := []
  /-- Frames delivered since the last transfer, which join the queue at the next one (R261). -/
  rxqNext : List Nat := []
  rxfiltAll : Bool := false
  rxfiltDropDup : Bool := true
  hslots : BitVec 4 := 0
  txEn : Bool := false
  rxAuto : Bool := false
  relaySuppressed : BitVec 16 := 0
  relaySent : BitVec 16 := 0
  dropAckStray : BitVec 8 := 0
  dropGallery : BitVec 8 := 0
  dropRelay : BitVec 16 := 0
  /-- Owner of each line, as the data plane holds it (R38). -/
  owner : Vector Owner 128 := Vector.replicate 128 .free
  /-- Lines that pass to CORE at the next transfer (R40). -/
  toCore : List Nat := []
  pendingAck : Option PendingAck := none
  /-- The open ACK windows, oldest first (R268). -/
  windows : List AckWindow := []
  subBands : Vector SubBand 8 := Vector.replicate 8 {}
  /-- Minute of the last charge or roll of the ledger (R272). -/
  ledgerMinute : Nat := 0
  /-- Duplicate cache, oldest key first (R278). -/
  dupCache : List (BitVec 16 × Byte) := []
  /-- Relay store, oldest candidate first (R279). -/
  relays : List Candidate := []
  /-- Frames whose security checks run, oldest first (R301). -/
  checking : List CheckFrame := []
  /-- The drip record being filled: frames sent, good frames received, ACKs sent, relays sent (R36, R901). -/
  evSent : Nat := 0
  evGood : Nat := 0
  evAcks : Nat := 0
  evRelays : Nat := 0
  /-- SUMP recovery beacon sequence and drip of the next beacon (R767, R768). -/
  beaconSeq : Byte := 0
  beaconDrip : BitVec 48 := 0
  /-- A link-image reload runs: the edge at which the lanes restart (R284, R790). -/
  reloadEdge : Option (BitVec 48) := none
  deriving DecidableEq, Repr

/-- One network key slot of the data plane (R306, R313). -/
structure KeySlot where
  cur : Option (BitVec 128 × BitVec 16) := none
  prev : Option (BitVec 128 × BitVec 16) := none
  /-- MS_FCn.NEXT. -/
  next : Word := 0
  /-- MS_LEASEn.END. -/
  lease : Word := 0
  leaseReq : Bool := false
  leaseFail : Bool := false
  deriving DecidableEq, Repr

/-- One entry of the replay table (R322). -/
structure ReplayEntry where
  src : BitVec 16
  slot : Nat
  epoch : BitVec 16
  hc : Word
  window : Word
  drip : BitVec 48
  deriving DecidableEq, Repr

/-- Mesh identity, keys, counters and replay table (07_istiyn_security.md). -/
structure MeshBlock where
  netid : BitVec 16 := 0
  addr : BitVec 16 := 0
  slots : Vector KeySlot 8 := Vector.replicate 8 {}
  /-- Replay table, entry 0 first (R322). -/
  replay : List ReplayEntry := []
  evicts : BitVec 16 := 0
  deriving DecidableEq, Repr

end Sys2Proof.Machine
end

