-- ==== Sys2Proof/Machine/Blocks/Store.lean ====
section
/-!
DEFINITION. State of main flash, of Flowstone and of Lantern (16_flash.md, 17_flowstone.md, 18_lantern.md).
-/
namespace Sys2Proof.Machine

/-- Which port an operation of the flash array came from (R637, R639). -/
inductive FlashPort where
  | core
  | update
  deriving DecidableEq, Repr

/-- An operation of the flash array. -/
structure FlashOp where
  port : FlashPort
  /-- Command code of R646. -/
  cmd : BitVec 4
  addr : Nat
  /-- The 16 bytes of a PROGRAM. -/
  data : List Byte
  deriving DecidableEq, Repr

/-- What the next write of an open command sequence must be (R642). -/
inductive FlashSeq where
  | closed
  | key2
  | cmd
  | addr
  /-- FL_DATAn. -/
  | data (n : Fin 4)
  deriving DecidableEq, Repr

/-- The main flash controller (16_flash.md). -/
structure FlashBlock where
  seq : FlashSeq := .closed
  cmd : BitVec 4 := 0
  addr : Word := 0
  data : Vector Word 4 := Vector.replicate 4 0
  refwhy : BitVec 2 := 0
  seqErr : Bool := false
  refused : Bool := false
  done : Bool := false
  op : BitVec 4 := 0
  err : BitVec 4 := 0
  result : Word := 0
  areaFirst : BitVec 8 := 0
  areaCount : BitVec 8 := 0
  /-- FL_LAST, Cold class. -/
  last : Word := 0
  /-- The operation in progress. -/
  run : Option FlashOp := none
  /-- TOGGLE of the status word (R648). -/
  toggle : Bool := false
  /-- Update-port requests that wait for the array, oldest first (R639). -/
  waiting : List FlashOp := []
  deriving DecidableEq, Repr

/-- A Flowstone ring as Lantern knows it (R676). -/
structure Ring where
  id : Nat
  /-- Its live sectors, in the order of the cycle. -/
  sectors : List Nat
  /-- S / 8. -/
  s8 : Nat
  /-- N, as the ring was formatted. -/
  n : Nat
  /-- K. -/
  keys : Nat
  /-- Copy A of a mirrored pair. -/
  mirror : Bool
  ro : Bool := false
  /-- The running plan holds the ring; system rings always (R698). -/
  shown : Bool := true
  /-- The head sector (R678). -/
  head : Option Nat := none
  deriving DecidableEq, Repr

/-- Lantern's state of the store (17_flowstone.md). -/
structure FlowBlock where
  rings : List Ring := []
  /-- Sectors of the free pool. -/
  pool : List Nat := []
  /-- Retired sectors (R691). -/
  retired : List Nat := []
  /-- Orphan sectors whose erase waits until the core has started; those given to a ring are among its sectors (R694). -/
  orphans : List Nat := []
  /-- The sector of each record write that failed, once per failure since its erase (R673, R691). -/
  worn : List Nat := []
  /-- Header groups of the failed records that have been counted, each once until its sector is erased (R674). -/
  noted : List Nat := []
  /-- The next sector the patrol visits (R693). -/
  patrol : Nat := 0
  /-- FS_STAT.PLAN_REASON and PLAN (R698). -/
  planReason : BitVec 4 := 0
  plan : BitVec 2 := 0
  torn : Nat := 0
  refresh : Nat := 0
  uncorr : Nat := 0
  diverge : Nat := 0
  divergeValid : Bool := false
  divergeRing : Nat := 0
  divergeKey : Nat := 0
  /-- FS_WEAR and FS_PROV as the last transfer made them visible. -/
  wear : Word := 0
  prov : Word := 0
  deriving DecidableEq, Repr

/-- Who submitted a Lantern request (R711). -/
inductive Requester where
  | core
  | host
  | key
  deriving DecidableEq, Repr

/-- A result (R709, section 2.2). -/
structure LtResult where
  tag : Byte := 0
  req : Byte := 0
  status : Byte := 0
  rv : Vector Word 4 := Vector.replicate 4 0
  out : List Byte := []
  deriving DecidableEq, Repr

/-- A position of the request queue (R703). -/
structure LtRequest where
  by_ : Requester
  tag : Byte
  req : Byte
  arg : Vector Word 4
  input : List Byte
  /-- The result, once the request has been carried out. -/
  result : Option LtResult := none
  /-- The result is to be discarded: the core's image was replaced (R708). -/
  orphaned : Bool := false
  /-- The result has entered its result area and the position waits for the release (R703). -/
  delivered : Bool := false
  /-- It was carried out too late for the coming transfer (R63, R80). -/
  late : Bool := false
  deriving DecidableEq, Repr

/-- The request side of a mailbox (section 2.2). -/
structure Mailbox where
  tag : Byte := 0
  req : Byte := 0
  arg : Vector Word 4 := Vector.replicate 4 0
  input : Vector Word 64 := Vector.replicate 64 0
  /-- A submission, and a release, delivered at this transfer. -/
  go : Bool := false
  release : Bool := false
  /-- A release read too late for the coming transfer, which waits one edge more (R63, R843). -/
  releaseLate : Bool := false
  /-- LT_MBSUB. -/
  subTag : Byte := 0
  outcome : BitVec 2 := 0
  /-- The result area. -/
  area : Option LtResult := none
  deriving DecidableEq, Repr

/-- Key and epoch load for a slot that the next transfer delivers to the data plane (R310, R36). -/
structure KeyLoad where
  slot : Fin 8
  cur : Option (BitVec 128 × BitVec 16)
  prev : Option (BitVec 128 × BitVec 16)
  /-- NEXT and lease end, when the load starts a new epoch or a boot. -/
  counter : Option (Word × Word)
  deriving DecidableEq, Repr

/-- The reset causes of R729, in the order of the table. -/
inductive ResetCause where
  | powerOn
  | brownout
  | clock
  | vector
  | pin
  | resetUnit
  | software
  | hibernate
  deriving DecidableEq, Repr

/-- Lantern (18_lantern.md). -/
structure LanternBlock where
  /-- Occupied queue positions, oldest first (R703). -/
  queue : List LtRequest := []
  core : Mailbox := {}
  host : Mailbox := {}
  /-- The calendar (R717). -/
  calendar : BitVec 40 := 0
  stale : Bool := true
  /-- LT_CAL_HI as captured by a read of LT_CAL_LO. -/
  calHi : BitVec 8 := 0
  alarm : BitVec 40 := 0
  alarmArmed : Bool := false
  wake : Option (BitVec 48) := none
  life : Vector Nat 19 := Vector.replicate 19 0
  /-- The 8 bytes of brownout history (R732). -/
  bodHist : List Byte := List.replicate 8 0xFF#8
  /-- Rises of BOD_WARN since the last System reset (R732). -/
  warnings : Nat := 0
  /-- Power-on seconds since the last 3,600-second checkpoint (R724). -/
  sinceCkpt : Nat := 0
  /-- The LIFE records of this boot wait for the end of a supply warning (R728, R731). -/
  lifeDue : Bool := false
  cause : ResetCause := .powerOn
  /-- A software reset is due at this transfer (R730). -/
  resetReq : Bool := false
  stickDet : Bool := false
  stickPresent : Bool := false
  sfdpOk : Bool := false
  confirmLeft : Nat := 0
  confirmPending : Bool := false
  /-- Next values and lease ends of counters 8 to 15 (R687). -/
  mono : Vector (Nat × Nat) 8 := Vector.replicate 8 (0, 0)
  /-- A confirmation has been committed; PENDING and LEFT become 0 at the next transfer (R756). -/
  confirmDone : Bool := false
  /-- A confirmation waits for the end of the supply warning (R731, R756). -/
  confirmWaits : Bool := false
  /-- Slots whose lease request has reached Lantern, oldest first, and the grants (new lease end) or refusals the next transfer delivers (R314, R315). -/
  leaseAsked : List (Fin 8) := []
  leaseAnswers : List (Fin 8 × Option Word) := []
  /-- Loads that the next transfer delivers. -/
  keyLoads : List KeyLoad := []
  tokenLoad : Bool := false
  /-- The LOCK record that boot returns to the Keyholder engine at the next transfer; an empty list for none (R328). -/
  lockLoad : Option (List Byte) := none
  /-- The result of the engine's last LOCK_WRITE, which the next transfer hands to it: it was committed (R371, R373). -/
  lockResult : Option Bool := none
  /-- A CAL_SET took effect at the transfer in progress (R720). -/
  calSet : Bool := false
  flow : FlowBlock := {}
  deriving DecidableEq, Repr

end Sys2Proof.Machine
end

