-- ==== Sys2Proof/Machine/State.lean ====
section
/-!
DEFINITION. The state of the device, its reset value, and the reasons a step can stop.
-/
namespace Sys2Proof.Machine

/-- No command stops the device with a fault: every access the spec forbids takes the exception, status or leaf it names. -/
inductive Fault where
  deriving DecidableEq, Repr

/-- Why a command has no meaning. -/
inductive Refusal where
  /-- The command of this mnemonic has no meaning in the model; raised by Dispatch only; safe. -/
  | notModelled (mnemonic : String)
  deriving DecidableEq, Repr

/-- The blocks whose registers a reader in another plane sees as of the last transfer (R25 to R31). -/
structure Blocks where
  drip : DripBlock := {}
  power : PowerBlock := {}
  cause : CauseBlock := {}
  radio : RadioBlock := {}
  link : LinkBlock := {}
  mesh : MeshBlock := {}
  integ : IntegrityBlock := {}
  chain : ChainBlock := {}
  key : KeyBlock := {}
  conduit : ConduitBlock := {}
  periph : PeriphBlock := {}
  flash : FlashBlock := {}
  lantern : LanternBlock := {}
  boot : BootBlock := {}
  update : UpdateBlock := {}
  deriving DecidableEq, Repr

/-- A register write on its way to the owner of the register (R30, R31). -/
structure PendingWrite where
  addr : Nat
  value : Word
  deriving DecidableEq, Repr

/-- The whole device. -/
structure State extends Blocks where
  /-- Everything as it was made visible at the most recent transfer (R25, R28). -/
  seen : Blocks := {}
  /-- DS_STAT as a reader through the chain port sees it, that of the last transfer (R30, R526). -/
  seenDsStat : Word := 0
  /-- What cycle 7,968 of the drip found in every block, once an event has fixed the phase there or later: of the planes outside the LCLK
  domain, the coming transfer makes no more than this visible (R62, R63). -/
  crossing : Option Blocks := none
  core : CoreBlock := {}
  /-- RAM, flash and gallery bytes (R46), in canonical form. -/
  mem : List Host.Cell := []
  /-- Core writes to the link controller and Lantern regions that the next transfer delivers, oldest first (R31). -/
  coreWrites : List PendingWrite := []
  /-- Such writes made in cycles 7,968 to 7,999, which wait one edge more (R63). -/
  coreWritesLate : List PendingWrite := []
  /-- Host writes that the next transfer delivers (R30). -/
  hostWrites : List PendingWrite := []
  hostWritesLate : List PendingWrite := []
  /-- Counts and queue entries that the core, and DEBUG, have read and whose removal the next transfer delivers (R900). -/
  coreRemovals : List PendingWrite := []
  coreRemovalsLate : List PendingWrite := []
  hostRemovals : List PendingWrite := []
  hostRemovalsLate : List PendingWrite := []
  /-- The model's own counter of free values used (DESIGN CHOICE, assumption 2). -/
  free : Nat := 0
  /-- The commands that wait, first in first out. -/
  pending : List Instr := []
  deriving DecidableEq, Repr

/-- The device right after a Cold reset: every field at its reset value, memory cleared (R12, R610), and still held until the supply has
been above the brownout release for 1 ms (R102); boot follows at BROWNOUT_RELEASE. -/
def State.reset : State := { power := { hold := .brownout } }

end Sys2Proof.Machine
end

