-- ==== Sys2Proof/Machine/Leaves.lean ====
section
/-!
DEFINITION. The leaves of the cause tree, setting and clearing them, and what the core and the host see (22_cause_tree.md).
-/
namespace Sys2Proof.Machine

/-- The leaves of R853, named group then leaf. -/
inductive Leaf where
  | radioClip
  | radioAckFenced
  | radioSynthUnlock
  | linkRxFrame
  | linkJobDone
  | linkGalleryFull
  | linkAckBusy
  | linkLanePreempt
  | linkDuty
  | linkSeqOverrun
  | linkTxPoison
  | meshMicFail
  | meshKeyMiss
  | meshRxReject
  | meshReplayEvict
  | meshLeaseFail
  | meshFcEnd
  | tokenGrant
  | tokenDeny
  | tokenLoss
  | tokenFail
  | tokenLocked
  | tokenLfFlood
  | tokenIrFlood
  | tokenDormant
  | tokenEnrolled
  | tokenIrCode
  | tokenRawDone
  | coreDripOverrun
  | coreEccCorr
  | coreStoreEcc
  | coreLineCheck
  | coreLineOwner
  | coreCxReject
  | dspAsat
  | dspZsat
  | flashDone
  | flashError
  | flashRefused
  | nvstoreDiverge
  | nvstoreUncorr
  | nvstoreSectorRetired
  | nvstoreRingRo
  | nvstoreCounterEnd
  | nvstorePlanReject
  | mgmtMbResult
  | mgmtHostMb
  | mgmtCalAlarm
  | mgmtStickIn
  | mgmtStickOut
  | mgmtRamRemap
  | mgmtRamUncorr
  | mgmtRamSparesOut
  | mgmtDtcmWeak
  | powerBodWarn
  | powerBodReset
  | powerEntryRefused
  | powerSleepSkipped
  | powerLfxoFail
  | chainFrameReady
  | chainRespReady
  | chainCmdErr
  | chainAssigned
  | chainPoisonSent
  | updateCmdDone
  | updateFailed
  | updateActivated
  | updateStickDone
  | updateSettingsReset
  | updateSettingsFail
  | bootSump
  | bootFallback
  | bootRollback
  | bootUntestedPair
  | bootImageBad
  | bootSiliconMinor
  | bootRecordFail
  | bootConfirmExpired
  | periphGpio
  | periphTmr0
  | periphTmr1
  | periphTmr2
  | periphTmr3
  | periphAdcDone
  | periphAdcWin
  | periphAdcLost
  | periphTrngFail
  | periphSha
  | periphAes
  | conduitTableReject
  deriving DecidableEq, Repr

/-- Group and bit of a leaf (R849, R853). -/
def Leaf.place : Leaf → Fin 15 × Nat
  | .radioClip => (0, 0)
  | .radioAckFenced => (0, 1)
  | .radioSynthUnlock => (0, 2)
  | .linkRxFrame => (1, 0)
  | .linkJobDone => (1, 1)
  | .linkGalleryFull => (1, 2)
  | .linkAckBusy => (1, 3)
  | .linkLanePreempt => (1, 4)
  | .linkDuty => (1, 5)
  | .linkSeqOverrun => (1, 6)
  | .linkTxPoison => (1, 7)
  | .meshMicFail => (2, 0)
  | .meshKeyMiss => (2, 1)
  | .meshRxReject => (2, 2)
  | .meshReplayEvict => (2, 3)
  | .meshLeaseFail => (2, 4)
  | .meshFcEnd => (2, 5)
  | .tokenGrant => (3, 0)
  | .tokenDeny => (3, 1)
  | .tokenLoss => (3, 2)
  | .tokenFail => (3, 3)
  | .tokenLocked => (3, 4)
  | .tokenLfFlood => (3, 5)
  | .tokenIrFlood => (3, 6)
  | .tokenDormant => (3, 7)
  | .tokenEnrolled => (3, 8)
  | .tokenIrCode => (3, 9)
  | .tokenRawDone => (3, 10)
  | .coreDripOverrun => (4, 0)
  | .coreEccCorr => (4, 1)
  | .coreStoreEcc => (4, 2)
  | .coreLineCheck => (4, 3)
  | .coreLineOwner => (4, 4)
  | .coreCxReject => (4, 5)
  | .dspAsat => (5, 0)
  | .dspZsat => (5, 1)
  | .flashDone => (6, 0)
  | .flashError => (6, 1)
  | .flashRefused => (6, 2)
  | .nvstoreDiverge => (7, 0)
  | .nvstoreUncorr => (7, 1)
  | .nvstoreSectorRetired => (7, 2)
  | .nvstoreRingRo => (7, 3)
  | .nvstoreCounterEnd => (7, 4)
  | .nvstorePlanReject => (7, 5)
  | .mgmtMbResult => (8, 0)
  | .mgmtHostMb => (8, 1)
  | .mgmtCalAlarm => (8, 2)
  | .mgmtStickIn => (8, 3)
  | .mgmtStickOut => (8, 4)
  | .mgmtRamRemap => (8, 5)
  | .mgmtRamUncorr => (8, 6)
  | .mgmtRamSparesOut => (8, 7)
  | .mgmtDtcmWeak => (8, 8)
  | .powerBodWarn => (9, 0)
  | .powerBodReset => (9, 1)
  | .powerEntryRefused => (9, 2)
  | .powerSleepSkipped => (9, 3)
  | .powerLfxoFail => (9, 4)
  | .chainFrameReady => (10, 0)
  | .chainRespReady => (10, 1)
  | .chainCmdErr => (10, 2)
  | .chainAssigned => (10, 3)
  | .chainPoisonSent => (10, 4)
  | .updateCmdDone => (11, 0)
  | .updateFailed => (11, 1)
  | .updateActivated => (11, 2)
  | .updateStickDone => (11, 3)
  | .updateSettingsReset => (11, 4)
  | .updateSettingsFail => (11, 5)
  | .bootSump => (12, 0)
  | .bootFallback => (12, 1)
  | .bootRollback => (12, 2)
  | .bootUntestedPair => (12, 3)
  | .bootImageBad => (12, 4)
  | .bootSiliconMinor => (12, 5)
  | .bootRecordFail => (12, 6)
  | .bootConfirmExpired => (12, 7)
  | .periphGpio => (13, 0)
  | .periphTmr0 => (13, 1)
  | .periphTmr1 => (13, 2)
  | .periphTmr2 => (13, 3)
  | .periphTmr3 => (13, 4)
  | .periphAdcDone => (13, 5)
  | .periphAdcWin => (13, 6)
  | .periphAdcLost => (13, 7)
  | .periphTrngFail => (13, 8)
  | .periphSha => (13, 9)
  | .periphAes => (13, 10)
  | .conduitTableReject => (14, 0)

/-- The bit of a leaf in its group's word. -/
def Leaf.mask (l : Leaf) : Word := (1#32) <<< l.place.2

/-- The leaves that exist in each group; every other bit of a CAUSE_ or CS_CMASK register is reserved (R853, R867). -/
def leafMask : Fin 15 → Word := fun g =>
  [0x7, 0xFF, 0x3F, 0x7FF, 0x3F, 0x3, 0x7, 0x3F, 0x1FF, 0x1F, 0x1F, 0x3F, 0xFF, 0x7FF, 0x1].getD g.val 0#32

/-- Groups held in the control plane, whose live state the core sees (R849, R855). -/
def groupIsControl (g : Fin 15) : Bool := [3, 4, 5, 6, 13, 14].contains g.val

/-- The IRQ level of a group (R849). -/
def groupLevel (g : Fin 15) : Nat := [3, 3, 2, 3, 4, 2, 2, 1, 2, 4, 2, 2, 1, 3, 1].getD g.val 0

/-- An event sets its leaf, masked or not (R850, R851); the setting is younger than the last transferred view (R44). -/
def CauseBlock.set (c : CauseBlock) (l : Leaf) : CauseBlock :=
  { c with
    leaf := c.leaf.set l.place.1 (c.leaf[l.place.1] ||| l.mask)
    fresh := c.fresh.set l.place.1 (c.fresh[l.place.1] ||| l.mask) }

/-- Groups whose leaves are set in the LCLK domain: RADIO, LINK and MESH (R60, R849). -/
def groupIsLclk (g : Fin 15) : Bool := decide (g.val < 3)

/-- The mark of a leaf set outside the LCLK domain, too late for the coming transfer (R63). -/
def CauseBlock.markLate (c : CauseBlock) (late : Bool) (l : Leaf) : CauseBlock :=
  { c with late := if late && !groupIsLclk l.place.1 then c.late.set l.place.1 (c.late[l.place.1] ||| l.mask) else c.late }

/-- Set a leaf of the device; outside the LCLK domain the setting misses this drip's transfer from cycle 7,968 on (R63). -/
def State.setLeaf (s : State) (l : Leaf) : State :=
  { s with cause := (s.cause.set l).markLate (decide (7968 ≤ s.drip.phase)) l }

/-- Set a leaf when its condition holds. -/
def State.setLeafIf (s : State) (b : Bool) (l : Leaf) : State := if b then s.setLeaf l else s

/-- The core's view of a group: live for control-plane groups, else that of the last transfer (R42, R855). -/
def CauseBlock.coreView (c : CauseBlock) (g : Fin 15) : Word := if groupIsControl g then c.leaf[g] else c.view[g]

/-- The leaves of a group that drive the core's requests: set in its view, enabled, and not under a clear of its own that awaits its transfer (R860, R862). -/
def CauseBlock.requests (c : CauseBlock) (g : Fin 15) : Word :=
  c.coreView g &&& c.cmask[g] &&& ~~~(c.coreClear[g] ||| c.coreClearLate[g])

/-- IRQ level p is requested (R860, CS_PEND R861). -/
def CauseBlock.levelRequested (c : CauseBlock) (p : Nat) : Bool :=
  (List.finRange 15).any fun g => groupLevel g == p && c.requests g != 0

/-- CS_PEND (R861). -/
def CauseBlock.pend (c : CauseBlock) : Word := bitmap 4 fun i => c.levelRequested (i + 1)

/-- CS_SUMMARY in the core's view (R856). -/
def CauseBlock.coreSummary (c : CauseBlock) : Word :=
  bitmap 15 fun i => if h : i < 15 then c.coreView ⟨i, h⟩ != 0 else false

/-- CS_SUMMARY in the host's view (R856). -/
def CauseBlock.hostSummary (c : CauseBlock) : Word :=
  bitmap 15 fun i => if h : i < 15 then c.view[i] != 0 else false

/-- Clear the leaves `mask` of a group at once, a condition leaf excepted while `hold` says its condition holds (R850, R862). -/
def CauseBlock.clearNow (c : CauseBlock) (g : Fin 15) (mask hold : Word) : CauseBlock :=
  { c with
    leaf := c.leaf.set g ((c.leaf[g] &&& ~~~mask) ||| hold)
    fresh := c.fresh.set g ((c.fresh[g] &&& ~~~mask) ||| hold) }

/-- Apply delivered clears to one group: a leaf set since the clearer's view survives (R44, R857 step 1). -/
def applyClear (leaf view fresh clear : Word) : Word := (leaf &&& ~~~(clear &&& view)) ||| (leaf &&& fresh)

/-- The order of R857 at a transfer: clears, host view, then ATTN from the view and the mask. `hold` are condition leaves that hold (R850).
Leaves set too late for this transfer are younger than its view (R44, R63). -/
def CauseBlock.transfer (c : CauseBlock) (hold : Fin 15 → Word) : CauseBlock :=
  let leaf := Vector.ofFn fun (g : Fin 15) =>
    applyClear c.leaf[g] c.view[g] c.fresh[g] (c.coreClear[g] ||| c.hostClear[g]) ||| hold g
  let sum := bitmap 15 fun i => if h : i < 15 then leaf[i] != 0 else false
  { c with
    leaf := leaf
    fresh := c.late
    late := Vector.replicate 15 0
    view := leaf
    coreClear := c.coreClearLate
    coreClearLate := Vector.replicate 15 0
    hostClear := c.hostClearLate
    hostClearLate := Vector.replicate 15 0
    attnLow := (sum &&& c.hostMask) != 0 }

end Sys2Proof.Machine
end

