-- ==== Sys2Proof/Config.lean ====
section
/-!
DEFINITION. What the spec leaves open: uninterpreted constants, of which no value can be proved.
-/
namespace Sys2Proof

/-- The n-th free value of the model: what a draw, an unsettled result or an undefined content is, is left open.
A state holds the counter `n`, which every use advances (DESIGN CHOICE, assumption 2). -/
opaque Config.free : Nat → Nat

/-- The bytes of the boot ROM, whose content the spec does not give (R46; DESIGN CHOICE, assumption 3). -/
opaque Config.romByte : Nat → Byte

/-- The numbers that identify the boot ROM, Lantern and the silicon of one device: versions, revision, factory words (R711; DESIGN CHOICE, assumption 4). -/
opaque Config.identity : Nat → Word

/-- Which of two equal paths a trellis decoder keeps (R200; DESIGN CHOICE, assumption 51). -/
opaque Config.viterbiTie : Nat → Bool

/-- VERSION and GEN that air microcode of these bytes reports in LK_UCODE, VERSION in bits [31:16]; the spec does not say where the
code declares them (R283, R758; DESIGN CHOICE, assumption 10). -/
opaque Config.ucode : List Byte → Word

end Sys2Proof
end

