-- ==== Sys2Proof/Machine/Memory.lean ====
section
/-!
DEFINITION. Addressed memory: one list of (address, byte) pairs in canonical form over the core's address space (R46).
-/
namespace Sys2Proof.Machine

/-- What a byte reads as that no entry lists: the boot ROM's content, an erased flash or Flowstone byte, or a cleared RAM or gallery byte (R610) (DESIGN CHOICE, assumption 16). -/
def memDefault (a : Nat) : Byte :=
  if a < 0x8000 then Config.romByte a
  else if 0x08000000 ≤ a ∧ a < 0x08100000 then 0xFF#8
  else if 0x38000000 ≤ a ∧ a < 0x38008000 then 0xFF#8
  else 0#8

/-- One byte as the list holds it. -/
def memGet : List Host.Cell → Nat → Byte
  | [], a => memDefault a
  | (k, v) :: m, a => if k = a then v else memGet m a

/-- The list with one byte written; writing the value an unlisted byte reads as removes its entry. -/
def memPut : List Host.Cell → Nat → Byte → List Host.Cell
  | [], a, v => if v = memDefault a then [] else [(a, v)]
  | (k, x) :: m, a, v =>
    if a < k then (if v = memDefault a then (k, x) :: m else (a, v) :: (k, x) :: m)
    else if a = k then (if v = memDefault a then m else (a, v) :: m)
    else (k, x) :: memPut m a v

/-- The canonical form from address `lo` on: addresses strictly rising, no entry equal to what an unlisted byte reads as. -/
def memWfFrom : Nat → List Host.Cell → Bool
  | _, [] => true
  | lo, (k, v) :: m => decide (lo ≤ k) && decide (v ≠ memDefault k) && memWfFrom (k + 1) m

/-- The canonical form of memory. -/
def Memory.wf (m : List Host.Cell) : Bool := memWfFrom 0 m

/-- `n` bytes from address `a`. -/
def memBytes (m : List Host.Cell) (a n : Nat) : List Byte := (List.range n).map fun i => memGet m (a + i)

/-- Bytes written from address `a` on, lowest first. -/
def memPutBytes : List Host.Cell → Nat → List Byte → List Host.Cell
  | m, _, [] => m
  | m, a, b :: bs => memPutBytes (memPut m a b) (a + 1) bs

/-- The little-endian word at an address (R7). -/
def memWord (m : List Host.Cell) (a : Nat) : Word := wordAt (memBytes m a 4) 0

/-- Remove every entry of an address range, so that it reads as cleared. -/
def memClear (m : List Host.Cell) (lo hi : Nat) : List Host.Cell := m.filter fun c => decide (c.1 < lo) || decide (hi ≤ c.1)

end Sys2Proof.Machine
end

