-- ==== Sys2Proof/Machine/Ops.lean ====
section
/-!
DEFINITION. Named operations that every block shares: outcomes, time, free values, gallery lines and their owners.
-/
namespace Sys2Proof.Machine

/-- The outcome of a command that has its effect. -/
abbrev Out := Host.Outcome State Fault Refusal

/-- A command whose effect leaves `s`. -/
abbrev ok (s : State) : Out := .next s

/-- A command whose precondition `c` does not hold is an event that does not occur: it changes nothing (DESIGN CHOICE, assumption 5). -/
def whenDo (c : Bool) (s : State) (t : State) : State := if c then t else s

/-- The instant of a command within its drip: the phase never runs back (R59; DESIGN CHOICE, assumption 6). An instant that reaches cycle
7,968 finds the capture of the coming transfer made (R62, R63). -/
def State.atPhase (s : State) (p : Nat) : State :=
  { s with
    drip.phase := max s.drip.phase p
    crossing := if s.drip.phase < 7968 ∧ 7968 ≤ p then some s.toBlocks else s.crossing }

/-- Lantern, the Keyholder engine and the cause tree as the coming transfer finds them: as captured, else as they are now (R63). -/
def State.inTime (s : State) : Blocks := s.crossing.getD s.toBlocks

/-- A commit from outside the LCLK domain now misses this drip's transfer (R63). -/
def State.isLate (s : State) : Bool := decide (7968 ≤ s.drip.phase)

/-- A free value below `bound`, and the state with the counter advanced (DESIGN CHOICE, assumption 2). -/
def State.draw (s : State) (bound : Nat) : Nat × State :=
  (Config.free s.free % bound, { s with free := s.free + 1 })

/-- A timestamp: drip count and LCLK offset (R67). -/
def timestamp (count : BitVec 48) (phase : Nat) : BitVec 64 :=
  (count.setWidth 64 <<< 16) ||| BitVec.ofNat 64 (phase % 8192)

/-- The instant now, as a timestamp. -/
def State.now (s : State) : BitVec 64 := timestamp s.drip.count s.drip.phase

/-- Linear time in LCLK cycles (R68). -/
def linear (count : BitVec 48) (phase : Nat) : Nat := count.toNat * 8000 + phase

/-- The current instant in LCLK cycles (R68). -/
def State.linearNow (s : State) : Nat := linear s.drip.count s.drip.phase

/-- The conduit carries events in RUN, DOZE, LISTEN and SERVICE only (R553). -/
def State.carriesEvents (s : State) : Bool :=
  match s.power.mode with
  | .run | .listen | .service => s.power.hold == .none
  | _ => false

/-- Producer `p` pulses (R555); the pulse reaches its consumers at a CONDUIT_EVENT (R565, R567) (DESIGN CHOICE, assumption 25). -/
def State.pulse (s : State) (p : Nat) : State :=
  if s.carriesEvents then { s with conduit.pulses := s.conduit.pulses ||| ((1#48) <<< p) } else s

/-- A producer pulses when its condition holds. -/
def State.pulseIf (s : State) (b : Bool) (p : Nat) : State := if b then s.pulse p else s

/-- First byte of a gallery line in the direct view (R46). -/
def lineBase (n : Nat) : Nat := 0x30000000 + 128 * n

/-- The 128 bytes of a line. -/
def State.lineBytes (s : State) (n : Nat) : List Byte := memBytes s.mem (lineBase n) 128

/-- The stored line check of a line. -/
def State.storedCheck (s : State) (n : Nat) : BitVec 16 := s.integ.lineCheck.getD n 0

/-- A line's stored check agrees with its bytes (R623). -/
def State.lineGood (s : State) (n : Nat) : Bool := s.storedCheck n == lineCrc (s.lineBytes n)

/-- Replace line `n`'s stored check. -/
def State.setCheck (s : State) (n : Nat) (c : BitVec 16) : State :=
  { s with integ.lineCheck := s.integ.lineCheck.setIfInBounds n c }

/-- Write bytes into a line and update its check from the XOR of old and new, as every writer does (R625). -/
def State.writeLine (s : State) (n off : Nat) (bs : List Byte) : State :=
  let old := s.lineBytes n
  let s1 := { s with mem := memPutBytes s.mem (lineBase n + off) (bs.take (128 - off)) }
  s1.setCheck n (s.storedCheck n ^^^ lineCrc old ^^^ lineCrc (s1.lineBytes n))

/-- A line that leaves FREE is written 0 with check 0 (R624). -/
def State.clearLine (s : State) (n : Nat) : State :=
  { s with mem := memClear s.mem (lineBase n) (lineBase n + 128) }.setCheck n 0

/-- The owner of a line in the data plane (R38). -/
def LinkBlock.ownerOf (l : LinkBlock) (n : Nat) : Owner := l.owner.getD n .free

/-- Give a line an owner. -/
def State.setOwner (s : State) (n : Nat) (o : Owner) : State :=
  { s with link.owner := s.link.owner.setIfInBounds n o }

/-- Give each line of a list an owner. -/
def State.setOwners (s : State) (ns : List Nat) (o : Owner) : State := ns.foldl (fun s n => s.setOwner n o) s

/-- The lowest-numbered FREE line visible to the link controller (R256, R41). -/
def LinkBlock.lowestFree (l : LinkBlock) : Option Nat := (List.range 128).find? fun n => l.ownerOf n == .free

/-- A line leaves FREE for a new owner, cleared (R624). -/
def State.takeLine (s : State) (n : Nat) (o : Owner) : State := (s.setOwner n o).clearLine n

/-- Bytes written across the lines of a frame: `off` counts from byte 0 of the first line (R258). -/
def State.writeLines (s : State) : List Nat → Nat → List Byte → State
  | [], _, _ => s
  | n :: ns, off, bs =>
    if off ≥ 128 then s.writeLines ns (off - 128) bs
    else (s.writeLine n off bs).writeLines ns 0 (bs.drop (128 - off))

/-- Bytes read across the lines of a frame. -/
def State.readLines (s : State) (ns : List Nat) (off n : Nat) : List Byte :=
  ((ns.flatMap s.lineBytes).drop off).take n

/-- The device is in SLEEP, DEEP or HIBERNATE (R119). -/
def State.stoppedMode (s : State) : Bool :=
  match s.power.mode with
  | .sleep | .deep | .hibernate => true
  | _ => false

/-- Wake sources, in the bit order of PW_WAKESRC, become active: during a wake they are latched as they appear (R134), in a stopped mode they
await the wake tick (R133), in LISTEN an enabled GPIO wake ends the mode (R137), and after edge X of a request they abort it (R125 row 5). -/
def State.noteWake (s : State) (src : BitVec 7) : State :=
  let on := src &&& s.power.wakeEn.setWidth 7
  if on = 0 then s
  else if s.power.wake != .none then { s with power.wakeSrc := s.power.wakeSrc ||| on }
  else if s.stoppedMode then { s with power.wakeActive := s.power.wakeActive ||| on }
  else if s.power.mode == .listen then { s with power.wakeActive := s.power.wakeActive ||| (on &&& 1#7) }
  else if s.power.requested then { s with power.wakeLatched := true }
  else s

/-- `noteWake` when its condition holds. -/
def State.noteWakeIf (s : State) (b : Bool) (src : BitVec 7) : State := if b then s.noteWake src else s

end Sys2Proof.Machine
end

