-- ==== Sys2Proof/Machine/Gpio.lean ====
section
/-!
DEFINITION. GPIO, timers, PWM, ADC, TRNG and the core's AES port (14_peripherals.md, 1 to 6 and 8).
-/
namespace Sys2Proof.Machine

/-- PCLK runs: not in the stopped modes, nor while the device is held in reset (R119, R575). -/
def State.pclkRuns (s : State) : Bool :=
  s.power.hold == .none &&
    (match s.power.mode with
    | .run | .listen | .service | .sump => true
    | _ => false)

/-- Bits that exist in the GPIO registers (R604). -/
def gpioMask : Word := 0xFFFFF

/-- Pins with an alternate function (R576). -/
def gpioFuncMask : Word := 0xFF3F0

/-- Pins whose alternate function is analog (R576). -/
def gpioAnalog (g : GpioBlock) : Word := g.func &&& 0xFF000

/-- GP_IN: an analog pin reads 0 (R576, R578) (DEDUCED, assumption 41). -/
def GpioBlock.input (g : GpioBlock) : Word := g.level &&& ~~~gpioAnalog g &&& gpioMask

/-- An edge configuration selects a change to `level`: 1 rising, 2 falling, 3 both (R579). -/
def edgeSelects (cfg : BitVec 2) (level : Bool) : Bool := if level then cfg.getLsbD 0 else cfg.getLsbD 1

/-- PERIPH.GPIO is a condition leaf: set while an enabled GP_EDGE bit is set (R579, R850). -/
def GpioBlock.condition (g : GpioBlock) : Bool := (g.edge &&& g.irqEn) != 0

/-- Store GPIO registers and set the leaf that their edges drive (R579). -/
def State.setGpio (s : State) (g : GpioBlock) : State :=
  { s with periph.gpio := g }.setLeafIf g.condition .periphGpio

/-- The level of bit `i` of a word replaced. -/
def putBit (w : Word) (i : Nat) (b : Bool) : Word := if b then w ||| (1#32 <<< i) else w &&& ~~~(1#32 <<< i)

/-- GP_SET, GP_CLR and GP_TGL (R577). -/
def State.gpSet (s : State) (m : Word) : State := { s with periph.gpio.out := s.periph.gpio.out ||| (m &&& gpioMask) }
def State.gpClr (s : State) (m : Word) : State := { s with periph.gpio.out := s.periph.gpio.out &&& ~~~m }
def State.gpTgl (s : State) (m : Word) : State := { s with periph.gpio.out := s.periph.gpio.out ^^^ (m &&& gpioMask) }

def execGpSet (mask : Word) (s : State) : Out := ok (whenDo s.pclkRuns s (s.gpSet mask))
def execGpClr (mask : Word) (s : State) : Out := ok (whenDo s.pclkRuns s (s.gpClr mask))
def execGpTgl (mask : Word) (s : State) : Out := ok (whenDo s.pclkRuns s (s.gpTgl mask))

/-- Producers EDGE0 to EDGE15 that the route table assigns to a change of `pin` (R555, R568). -/
def ConduitBlock.edgeProducers (c : ConduitBlock) (pin : Nat) (level : Bool) : List Nat :=
  ((List.range 16).filter fun k =>
    let b := bits (c.table.getD (4 + k / 4) 0) (8 * (k % 4)) 8
    (b.extractLsb' 0 5).toNat == pin && edgeSelects (b.extractLsb' 5 2) level).map (· + 32)

/-- The input of a pin, after synchroniser and filter, changes to `level` and its pin detects edges. -/
def State.pinChanges (s : State) (pin : Fin 20) (level : Bool) : Bool :=
  s.periph.gpio.level.getLsbD pin != level && !(gpioAnalog s.periph.gpio).getLsbD pin

/-- The change is an edge that GP_EDGECFG selects (R579). -/
def State.pinEdge (s : State) (pin : Fin 20) (level : Bool) : Bool :=
  s.pinChanges pin level && edgeSelects s.periph.gpio.edgeCfg[pin] level

/-- Registers, leaf and conduit producers at a change of an input (R578, R579, R555). -/
def State.gpioEdge (s : State) (pin : Fin 20) (level : Bool) : State :=
  let g := s.periph.gpio
  let g1 := { g with level := putBit g.level pin level }
  let g2 := if s.pinEdge pin level then { g1 with edge := putBit g1.edge pin true } else g1
  (s.conduit.edgeProducers pin level).foldl (fun t p => t.pulseIf (s.pinChanges pin level) p) (s.setGpio g2)

/-- A pin's detector is armed in the stopped mode for a change to `level`; an analog pin detects no edge (R576, R580). -/
def State.wakeArmed (s : State) (pin : Fin 20) (level : Bool) : Bool :=
  let g := s.periph.gpio
  s.power.wakeEn.getLsbD 0 &&
    (if s.power.mode == .hibernate then
      (if h : pin.val < 4 then g.hibWaken.getLsbD pin && edgeSelects g.hibEdge[pin.val] level else false)
    else g.waken.getLsbD pin && edgeSelects g.edgeCfg[pin] level && !(gpioAnalog g).getLsbD pin)

/-- Change a timer. -/
def State.setTimer (s : State) (n : Fin 4) (t : TimerBlock) : State := { s with periph.timer := s.periph.timer.set n t }

/-- The leaf of a timer (R603). -/
def timerLeaf (n : Fin 4) : Leaf :=
  match n with
  | 0 => .periphTmr0
  | 1 => .periphTmr1
  | 2 => .periphTmr2
  | 3 => .periphTmr3

/-- Enabled flags of a timer (R586). -/
def TimerBlock.raises (t : TimerBlock) (ovf cmp cap lost : Bool) : Bool :=
  (ovf && t.ieOvf) || (cmp && t.ieCmp) || ((cap || lost) && t.ieCap)

/-- One advance of a running timer (R583). -/
def TimerBlock.advance (t : TimerBlock) : TimerBlock × Bool × Bool :=
  let ovf := t.cnt == t.top
  let cnt := if ovf then 0 else t.cnt + 1
  let cmp := cnt == t.cmp && decide (t.cmp.toNat ≤ t.top.toNat)
  ({ t with cnt := cnt, en := t.en && !(ovf && t.oneshot), ovf := t.ovf || ovf, cmpFlag := t.cmpFlag || cmp }, ovf, cmp)

/-- TIMER_TICK (R582, R583, R586). -/
def execTimerTick (n : Fin 4) (s : State) : Out :=
  let t := s.periph.timer[n]
  let (t1, ovf, cmp) := t.advance
  ok (whenDo (s.pclkRuns && t.en) s
    ((((s.setTimer n t1).setLeafIf (t.raises ovf cmp false false) (timerLeaf n)).pulseIf cmp n.val).pulseIf ovf (4 + n.val)))

/-- A capture (R584, R586). -/
def State.capture (s : State) (n : Fin 4) : State :=
  let t := s.periph.timer[n]
  (s.setTimer n { t with cap := t.cnt, capLost := t.capLost || t.capFlag, capFlag := true }).setLeafIf
    (t.raises false false true t.capFlag) (timerLeaf n)

def execTmCapture (n : Fin 4) (s : State) : Out := ok (whenDo s.pclkRuns s (s.capture n))

/-- Change a PWM channel. -/
def State.setPwm (s : State) (n : Fin 6) (p : PwmBlock) : State := { s with periph.pwm := s.periph.pwm.set n p }

/-- A period start (R588); channel 0 pulses P30 (R589). -/
def State.periodStart (s : State) (n : Fin 6) (force : Bool) : State :=
  let p := s.periph.pwm[n]
  let p1 := if force || p.auto || p.load then { p with perCur := p.per, dutyCur := p.duty, load := false } else p
  (s.setPwm n { p1 with prescCur := p.presc }).pulseIf (n == 0) 30

/-- PWM_PERIOD_START (R588) (DESIGN CHOICE, assumption 26). -/
def execPwmPeriodStart (n : Fin 6) (s : State) : Out :=
  ok (whenDo (s.pclkRuns && (s.periph.pwm[n]).en) s (s.periodStart n false))

/-- Load requests for the channels of a mask (R588); a stopped channel holds none (R589). -/
def State.pwmLoad (s : State) (m : BitVec 6) : State :=
  (List.finRange 6).foldl (fun s (n : Fin 6) =>
    let p := s.periph.pwm[n]
    if m.getLsbD n then s.setPwm n { p with load := p.load || p.en } else s) s

def execPwmLoad (mask : BitVec 6) (s : State) : Out := ok (whenDo s.pclkRuns s (s.pwmLoad mask))

/-- A write of PWM_CTRL.EN (R589). -/
def State.pwmEnable (s : State) (m : BitVec 6) : State :=
  (List.finRange 6).foldl (fun s (n : Fin 6) =>
    let p := s.periph.pwm[n]
    if m.getLsbD n == p.en then s
    else if m.getLsbD n then (s.setPwm n { p with en := true }).periodStart n true
    else s.setPwm n { p with en := false, load := false }) s

def execPwmEnable (mask : BitVec 6) (s : State) : Out := ok (whenDo s.pclkRuns s (s.pwmEnable mask))

/-- The conversion that a trigger starts. -/
def AdcBlock.toRun (a : AdcBlock) : AdcRun := { ch := a.ch, winEn := a.winEn, ieWin := a.ieWin, ieDone := a.ieDone }

/-- An ADC trigger (R591). -/
def State.adcTrigger (s : State) : State :=
  let a := s.periph.adc
  if !a.en then s
  else if a.busy.isSome then ({ s with periph.adc.trigLost := true }).setLeaf .periphAdcLost
  else { s with periph.adc.busy := some a.toRun }

def execAdcTrigger (s : State) : Out := ok (whenDo s.pclkRuns s s.adcTrigger)

/-- The silicon trim group as programmed, or the nominal trims when it fails its CRC-8 (R668, R670, R877). -/
def State.trimGroup (s : State) : List Byte :=
  let g := memBytes s.mem (0x38000000 + 8) 8
  if crc8 (g.take 7) == byteAt g 7 && !s.integ.uncorrGroups.contains (0x38000000 + 8) then g
  else [0x64#8] ++ leBytes 2 2048 ++ leBytes 2 600 ++ [0x80#8, 0x80#8]

/-- AD_TEMP (R594). -/
def State.adTemp (s : State) (result : Nat) : BitVec 16 :=
  let g := s.trimGroup
  BitVec.ofInt 16 (400 + (((result : Int) - natAt g 1 2) * natAt g 3 2) / 256)

/-- The end of a conversion with this code (R592 to R594). -/
def State.adcEnd (s : State) (r : AdcRun) (code : BitVec 12) : State :=
  let a := s.periph.adc
  let ch := r.ch
  let out := r.winEn && (decide (code < a.lo) || decide (a.hi < code))
  let a1 := { a with
    busy := none, new := true, newFresh := true, dataCh := ch, result := code, done := true
    overwrite := a.overwrite || a.new, win := a.win || out
    temp := if ch = 8 then s.adTemp code.toNat else a.temp
    vbat := if ch = 9 then BitVec.ofNat 13 (code.toNat * 4800 / 4095) else a.vbat }
  (((({ s with periph.adc := a1 }.setLeafIf r.ieDone .periphAdcDone).setLeafIf (out && r.ieWin) .periphAdcWin).setLeafIf
    a.new .periphAdcLost).pulse 26).pulseIf out 27

/-- ADC_CONVERSION_END: `code` is round(4,095 × Vin / Vref) as the input gives it; with the pin's analog function not selected the result
is not defined (R590). -/
def execAdcConversionEnd (code : BitVec 12) (s : State) : Out :=
  ok (match s.periph.adc.busy with
    | none => s
    | some r =>
      if r.ch.toNat < 8 && !(gpioAnalog s.periph.gpio).getLsbD (12 + r.ch.toNat) then
        let (v, s1) := s.draw 4096
        s1.adcEnd r (BitVec.ofNat 12 v)
      else s.adcEnd r code)

/-- The TRNG runs (R595). -/
def State.trngRuns (s : State) : Bool :=
  s.pclkRuns && (s.periph.trng.en || s.key.lEn || s.key.oEn) && !s.periph.trng.stopped

/-- TRNG_WORD: a conditioned word enters the FIFO while it has room (R595). -/
def execTrngWord (word : Word) (s : State) : Out :=
  let t := s.periph.trng
  let f := if t.fifo.length < 16 then t.fifo ++ [word] else t.fifo
  ok (whenDo s.trngRuns s { s with periph.trng := { t with fifo := f, failures := if f.length = 16 then 0 else t.failures } })

/-- TRNG_HEALTH_FAIL (R597). -/
def execTrngHealthFail (s : State) : Out :=
  let t := s.periph.trng
  ok (whenDo s.trngRuns s
    ({ s with periph.trng := { t with fifo := [], fail := true, failures := t.failures + 1, stopped := decide (2 ≤ t.failures) } }.setLeaf
      .periphTrngFail))

/-- A read of GP_TRNG_DATA (R596). -/
def State.trngRead (s : State) : Word × State :=
  match s.periph.trng.fifo with
  | [] => (0, { s with periph.trng.underrun := true })
  | w :: ws => (w, { s with periph.trng.fifo := ws })

/-- Start of a core block (R601). -/
def State.aesStart (s : State) : State := if s.periph.aes.busy then s else { s with periph.aes.busy := true }

def execAesStart (s : State) : Out := ok (whenDo s.pclkRuns s s.aesStart)

/-- AES_BLOCK_DONE (R601). -/
def execAesBlockDone (s : State) : Out :=
  let a := s.periph.aes
  let out := aes128 (wordsToBytes a.key.toList) (wordsToBytes a.input.toList)
  ok (whenDo a.busy s
    ({ s with periph.aes := { a with busy := false, done := true, output := Vector.ofFn fun (i : Fin 4) => wordAt out (4 * i.val) } }.setLeaf
      .periphAes))

end Sys2Proof.Machine
end

