-- ==== Sys2Proof/Machine/Keyholder.lean ====
section
/-!
DEFINITION. The Keyholder engine: sensing, transactions, verdicts, lockout, dormancy, release line, raw mode and capture (08_keyholder.md).
-/
namespace Sys2Proof.Machine

def State.setKey (s : State) (k : KeyBlock) : State := { s with key := k }

/-- Channel L exists (R329). -/
def KeyBlock.hasL (k : KeyBlock) : Bool := k.orderable == .spx7720

/-- The engine runs its channels: READY, and not in SUMP (R328, R331). -/
def State.keyRuns (s : State) : Bool := s.key.ready && s.power.mode != .sump && s.power.mode != .hibernate

/-- The device is in SLEEP or DEEP. -/
def State.dozing (s : State) : Bool := s.power.mode == .sleep || s.power.mode == .deep

/-- The CRC-16 of a Keyholder frame over type and payload, sent least-significant bit first (R333). -/
def keyCrc (bs : List Byte) : BitVec 16 := (bs.flatMap bitsLsb).foldl (crcStepLeft 0x1021#16) 0xFFFF#16

/-- The bytes of a challenge in the order sent. -/
def challengeBytes (c : BitVec 64) : List Byte := leBytes 8 c.toNat

/-- The 88 bits of a CHALLENGE frame in transmission order: type, challenge, CRC (R332, R333). -/
def challengeBits (c : BitVec 64) : List Bool :=
  let body := 0xA5#8 :: challengeBytes c
  (body ++ leBytes 2 (keyCrc body).toNat).flatMap bitsLsb

/-- The cells of a frame, each with the start of its 250 µs. -/
def cells (bs : List Bool) (from_ : Nat) : List (Bool × Nat) := bs.zipIdx.map fun x => (x.1, from_ + 250 * x.2)

/-- The pauses of a channel-L downlink: the start cell's of 48 µs, then one of 24 µs in each bit's cell (R339). -/
def lPauses (bs : List Bool) : List (Nat × Nat) :=
  (0, 48) :: (cells bs 250).map fun x => (if x.1 then x.2 + 125 else x.2, 24)

/-- The marks of channel-O bits: the first half of the cell of a 1, the second half of that of a 0 (R354). -/
def oMarks (bs : List Bool) (from_ : Nat) : List (Nat × Nat) :=
  (cells bs from_).map fun x => (if x.1 then x.2 else x.2 + 125, 125)

/-- The marks of a channel-O frame: its lead-in is a mark of 1,000 µs and a space of 500 µs (R354). -/
def oFrame (bs : List Bool) : List (Nat × Nat) := (0, 1000) :: oMarks bs 1500

/-- A carrier-off listen finds interference: the amplitude exceeds NOISE for 50 µs or more in total (R351). -/
def KeyBlock.noisy (k : KeyBlock) (listen : List Byte) : Bool := decide (50 ≤ listen.countP fun a => decide (k.noise < a))

/-- The baseline: the mean of the last 16 quiet polls, or the stored one (R342). -/
def KeyBlock.baseline (k : KeyBlock) : Option (BitVec 8) :=
  if k.history.isEmpty then k.lockBase
  else some (BitVec.ofNat 8 ((k.history.map (·.toNat)).sum / k.history.length))

/-- The distance of two amplitude codes. -/
def ampDiff (a b : BitVec 8) : Nat := max a.toNat b.toNat - min a.toNat b.toNat

/-- A differs from the baseline by DELTA or more (R343). -/
def KeyBlock.changed (k : KeyBlock) (a : BitVec 8) : Bool :=
  match k.baseline with
  | some b => decide (k.delta.toNat ≤ ampDiff a b)
  | none => false

/-- A lies within DELTA / 2 of the baseline (R345, R347). -/
def KeyBlock.near (k : KeyBlock) (a : BitVec 8) : Bool :=
  match k.baseline with
  | some b => decide (2 * ampDiff a b ≤ k.delta.toNat)
  | none => false

/-- A result waits for the next commit phase (R363). -/
def KeyBlock.post (k : KeyBlock) (r : KeyResult) : KeyBlock := { k with results := k.results ++ [r] }

/-- The LOCK record as of now (R370). -/
def State.lockBytes (s : State) : List Byte :=
  let k := s.key
  let b : Option (BitVec 8) := k.baseline
  [k.lConsec.setWidth 8,
   (if k.locked then 1#8 else 0) ||| (if k.dormant then 2#8 else 0) ||| (if b.isSome then 4#8 else 0)] ++
  leBytes 2 (min 3600 k.lockSecs) ++ leBytes 6 s.drip.count.toNat ++ leBytes 3 k.quiet ++ [b.getD 0, 0#8, 0#8]

/-- A LOCK write falls due; it replaces one that still waits (R371). -/
def State.askLock (s : State) : State :=
  let rest := s.key.requests.filter fun r => match r with
    | .lock _ => false
    | .promote _ => true
  s.setKey { s.key with requests := rest ++ [.lock s.lockBytes] }

/-- The present token leaves: its hold starts, or its release ends at once with HOLD_L = 0 (R347, R385). -/
def KeyBlock.removal (k : KeyBlock) : KeyBlock :=
  let k1 := { k with present := none, streak := 0, polls := 0 }
  match k.present with
  | some p =>
    if p.granted && k.relL && k.relSlotL == p.slot then
      if k.holdL = 0 then { k1 with relL := false, relSlotL := none } else { k1 with holdLeftL := some k.holdL.toNat }
    else k1
  | none => k1

/-- A raw run is abandoned by a flood (R392). -/
def State.abandonRaw (s : State) (c : KeyChannel) : State :=
  if s.key.rawRun = some c then
    (s.setKey { s.key with rawRun := none, rawRetry := false, cmdStatus := 7 }).setLeaf .tokenRawDone
  else s

/-- A transaction is under way on a channel. -/
def KeyActivity.inTransaction : KeyActivity → Bool
  | .waitId _ => true
  | .challenged _ _ => true
  | _ => false

/-- The release state (R385). -/
def KeyBlock.releaseState (k : KeyBlock) : Bool := k.relL || k.relO

/-- The RELEASE level that FORCE selects; `gate` is the conduit's (R386). -/
def KeyBlock.pinLevel (k : KeyBlock) (gate : Bool) : Bool :=
  if k.force = 1 then false else if k.force = 2 then true else k.releaseState && gate

/-- RELEASE and its leaf and counts follow a pin level and a release state (R386, R389). -/
def State.commitRelease (s : State) (lvl state : Bool) : State :=
  let k := s.key
  let loss := k.relCommitted && !state
  ((s.setKey { k with
    release := lvl
    relCommitted := state
    evReleases := if lvl && !k.release then k.evReleases + 1 else k.evReleases }).setLeafIf loss .tokenLoss).pulseIf loss 18

/-- In SLEEP and DEEP a release state that ends drops RELEASE at once, with no edge to wait for (R388). -/
def State.dozeRelease (s : State) : State :=
  if s.dozing && s.key.relCommitted && !s.key.releaseState then s.commitRelease (s.key.pinLevel false) false else s

/-- Channel L becomes flooded (R352). -/
def State.lFlooded (s : State) : State :=
  let k := s.key
  let k1 := if k.lAct.inTransaction then k.post { channel := .l, code := 0x0B, id := none, slot := none, raw := false } else k
  let k2 := { k1.removal with lAct := .idle, lFlood := true, cleanListens := 0 }
  (((s.setKey k2).setLeaf .tokenLfFlood).abandonRaw .l).dozeRelease

/-- A transaction starts; while channel L is locked its result is LOCKED and no CHALLENGE follows (R344, R368). -/
def KeyBlock.startL (k : KeyBlock) (again : Bool) : KeyBlock :=
  if k.locked then
    { k with lAct := .idle, present := some {}, ref := k.last, streak := 0 }.post { channel := .l, code := 0x0C, id := none, slot := none, raw := false }
  else { k with lAct := .waitId again }

/-- A transaction is called for: it starts, or waits for the wake or for the end of a raw run (R327, R349). -/
def State.callL (s : State) (again : Bool) : State :=
  let k := s.key
  s.setKey
    (if k.lAct == .raw then { k with keptArrival := some again }
    else if s.dozing then { k with keptArrival := some again, lAct := .idle }
    else k.startL again)

/-- An arrival on channel L; it is the wake source KEY_L (R125 row 5, R133, R343, R349). -/
def State.arrival (s : State) : State := ((s.callL false).noteWake 2).pulse 19

/-- Channel L polls: enabled, ready, neither dormant nor flooded, no other activity (R341). -/
def State.lPolls (s : State) : Bool :=
  s.keyRuns && s.key.hasL && s.key.lEn && !s.key.dormant && !s.key.lFlood

/-- One poll with no token present and no object held: a change asks for confirmation, a quiet poll feeds the baseline (R342, R343). -/
def KeyBlock.openPoll (k : KeyBlock) (a : BitVec 8) : KeyBlock :=
  match k.baseline with
  | none => { k with lockBase := some a, history := [a] }
  | some _ =>
    if k.changed a then { k with lAct := .confirming }
    else { k with history := (a :: k.history).take 16 }

/-- A poll at a time when no transaction may start, in the 500 ms of R345 or beside a kept arrival: only a quiet one tells anything (R342). -/
def KeyBlock.restingPoll (k : KeyBlock) (a : BitVec 8) : KeyBlock :=
  if k.changed a then k else { k with history := (a :: k.history).take 16 }

/-- The poll that is due while a token is present carries a recheck (R347, R348, R349, R368). -/
def State.rechecks (s : State) (p : PresentToken) : Bool :=
  s.key.recheck != 0 && decide (s.key.recheck.toNat ≤ s.key.polls + 1) && !p.raw && !s.key.locked && !s.dozing

/-- A poll while a token is present: removal by two near polls, or by a recheck (R347, R348). -/
def State.presentPoll (s : State) (p : PresentToken) (a : BitVec 8) (recheck : Option Word) : State :=
  let k := s.key
  let streak := if k.near a then k.streak + 1 else 0
  let checks := s.rechecks p
  let k1 := { k with streak := streak, polls := if checks then 0 else k.polls + 1 }
  if 2 ≤ streak then (s.setKey k1.removal).pulse 20
  else if checks then
    match recheck with
    | none => (s.setKey k1.removal).pulse 20
    | some i => if p.id = some i then s.setKey { k1 with quiet := 0 } else ((s.setKey { k1.removal with quiet := 0 }).pulse 20).arrival
  else s.setKey k1

/-- PRESENCE_POLL (R341 to R347, R351). -/
def State.poll (s : State) (a : BitVec 8) (recheck : Option Word) : State :=
  let k := { s.key with last := a }
  let s1 := s.setKey k
  match k.present with
  | some p => s1.presentPoll p a recheck
  | none =>
    if k.lAct == .retryWait then s1.setKey (k.restingPoll a)
    else if let some again := k.keptArrival then
      s1.setKey (if s.dozing then k.restingPoll a else { k with keptArrival := none }.startL again)
    else if k.object then
      if k.near a then s1.setKey { k with object := false }
      else if decide (k.delta.toNat ≤ ampDiff a k.ref) then s1.setKey ({ k with object := false }.openPoll a)
      else s1
    else s1.setKey (k.openPoll a)

def execPresencePoll (listen : List Byte) (amplitude : BitVec 8) (recheck : Option Word) (s : State) : Out :=
  ok (whenDo (s.lPolls && (s.key.lAct == .idle || s.key.lAct == .retryWait)) s
    (if s.key.noisy listen then s.lFlooded else (s.poll amplitude recheck).dozeRelease))

/-- CONFIRM_POLL (R343); one that finds no change is a quiet poll (R342) (DEDUCED, assumption 43). -/
def execConfirmPoll (listen : List Byte) (amplitude : BitVec 8) (s : State) : Out :=
  let k := { s.key with last := amplitude, lAct := .idle }
  ok (whenDo (s.keyRuns && s.key.lAct == .confirming) s
    (if s.key.noisy listen then s.lFlooded
    else if k.changed amplitude then (s.setKey k).arrival
    else s.setKey { k with history := (amplitude :: k.history).take 16 }))

/-- The expected response (R335). -/
def expectedResponse (key : BitVec 128) (challenge : BitVec 64) (id : Word) : List Byte :=
  (aes128 (bytes16 key) (challengeBytes challenge ++ wordBytes id ++ List.replicate 4 0#8)).take 8

/-- A fresh 64-bit challenge from the TRNG (R334): a free value. -/
def State.drawChallenge (s : State) : BitVec 64 × State :=
  let r := s.draw (2 ^ 64)
  (BitVec.ofNat 64 r.1, r.2)

/-- Channel L leaves dormancy (R376). -/
def State.resumeL (s : State) : State :=
  if s.key.dormant then
    (s.setKey { s.key with dormant := false, quiet := 0, history := [], lockBase := none }).askLock
  else s

/-- Channel O receives: enabled, in a mode where the receiver runs, and not flooded (R357, R331). -/
def State.oRuns (s : State) : Bool :=
  s.keyRuns && !s.dozing && s.key.oEn && !s.key.oFlood

/-- A frame's lead-in or a code on channel O: activity, which is the wake source KEY_O and ends dormancy (R125 row 5, R133, R376). -/
def State.heardO (s : State) : State := (s.noteWake 4).resumeL

/-- The receiver accepts Keyholder frames, or codes (R356). -/
def KeyBlock.oKeys (k : KeyBlock) : Bool := k.oMode != 1
def KeyBlock.oCaptures (k : KeyBlock) : Bool := k.oMode != 0

/-- An ID frame with a good CRC: the token is seen and a fresh challenge is sent; it replaces an outstanding one; with the TRNG stopped no challenge
is sent and the transaction ends with NO_RESPONSE (R334, R336, R374, R597). -/
def State.idFrame (s : State) (c : KeyChannel) (id : Word) : State :=
  let (ch, s1) := s.drawChallenge
  let k := { s1.key with quiet := 0 }
  match c with
  | .l =>
    if k.locked then
      s1.setKey ({ k with lAct := .idle, present := some { id := some id }, ref := k.last }.post { channel := .l, code := 0x0C, id := none, slot := none, raw := false })
    else if s.periph.trng.stopped then
      s1.setKey ({ k with lAct := .idle }.post { channel := .l, code := 0x0A, id := none, slot := none, raw := false })
    else s1.setKey { k with lAct := .challenged id ch, lSent := lPauses (challengeBits ch) }
  | .o =>
    (if s.periph.trng.stopped then
      s1.setKey ({ k with oAct := .idle }.post { channel := .o, code := 0x0A, id := none, slot := none, raw := false })
    else s1.setKey { k with oAct := .challenged id ch, oSent := oFrame (challengeBits ch) }).heardO

/-- The channel receives Keyholder frames (R331, R356, R357). -/
def State.receivesFrames (s : State) : KeyChannel → Bool
  | .l => s.keyRuns && s.key.hasL && s.key.lEn && !s.dozing
  | .o => s.oRuns && s.key.oKeys

/-- ID_FRAME: type byte, ID and CRC as received; a bad frame is discarded (R332, R333), though its lead-in on channel O is channel-O activity
(R376). -/
def execIdFrame (channel : KeyChannel) (frame : List Byte) (crc : BitVec 16) (s : State) : Out :=
  let good := frame.length == 5 && byteAt frame 0 == 0x5A && keyCrc frame == crc
  let ready := s.receivesFrames channel && match channel with
    | .l => s.key.lAct.inTransaction
    | .o => s.key.oAct != .raw
  ok (if !ready then s
    else if good then s.idFrame channel (wordAt frame 1)
    else if channel == .o then s.heardO
    else s)

/-- The slot of a table that holds an ID, records whose STATE is EMPTY or unlisted aside (R362, R378). -/
def slotOf (t : Vector TokenRec 64) (id : Word) : Option (Fin 64) :=
  (List.finRange 64).find? fun i =>
    let r := t[i]
    r.id == id && (r.state == 1 || r.state == 2 || r.state == 3)

/-- The slot of the engine's table that holds an ID. -/
def KeyBlock.lookup (k : KeyBlock) (id : Word) : Option (Fin 64) := slotOf k.table id

/-- The record is expired under steps 6 and 7 of R362. -/
def KeyBlock.expired (k : KeyBlock) (r : TokenRec) : Bool :=
  r.expiry != 0 && (if k.calTrust then decide (r.expiry ≤ k.calendar) else !k.staleAccept)

/-- The record allows a channel (R377). -/
def TokenRec.allows (r : TokenRec) : KeyChannel → Bool
  | .l => r.channels.getLsbD 0
  | .o => r.channels.getLsbD 1

/-- RIGHTS.RELEASE and RIGHTS.MASTER (R377). -/
def TokenRec.releases (r : TokenRec) : Bool := r.rights.getLsbD 0
def TokenRec.master (r : TokenRec) : Bool := r.rights.getLsbD 1

/-- Promotion is allowed: the window is open and the record is no master's (R382). -/
def KeyBlock.promotes (k : KeyBlock) (r : TokenRec) : Bool := k.enrollLeft.isSome && !r.master

/-- The checks 2 to 8 of R362 on a record: `bad` is whether check 4 fails, `promotes` what check 5 finds (R382). -/
def KeyBlock.judge (k : KeyBlock) (r : TokenRec) (c : KeyChannel) (bad promotes : Bool) : Byte :=
  if r.state = 2 then 0x04
  else if !r.allows c then 0x08
  else if bad then 0x02
  else if r.state = 3 then (if promotes then 0x07 else 0x06)
  else if k.expired r then 0x05
  else 0x01

/-- The verdict on a response (R362). -/
def KeyBlock.verdict (k : KeyBlock) (c : KeyChannel) (id : Word) (challenge : BitVec 64) (response : List Byte) : Byte × Option (Fin 64) :=
  match k.lookup id with
  | none => (0x03, none)
  | some i => (k.judge k.table[i] c (expectedResponse k.table[i].key challenge id != response) (k.promotes k.table[i]), some i)

/-- After a verdict on channel L the token is present, granted or not, and its amplitude is the reference (R346); a token of another record
that was present has left (R385). -/
def KeyBlock.tokenPresent (k : KeyBlock) (id : Option Word) (slot : Option (Fin 64)) (raw : Bool) : KeyBlock :=
  let k1 := match k.present with
    | some p => if p.slot = slot then k else k.removal
    | none => k
  { k1 with present := some { id := id, slot := slot, granted := false, raw := raw }, ref := k.last, object := false, streak := 0, polls := 0 }

/-- A good response ends the transaction with its verdict (R336, R344, R362). -/
def State.response (s : State) (c : KeyChannel) (id : Word) (challenge : BitVec 64) (resp : List Byte) : State :=
  let v := s.key.verdict c id challenge resp
  let k := s.key.post { channel := c, code := v.1, id := some id, slot := v.2, raw := false }
  match c with
  | .l => s.setKey ({ k with lAct := .idle }.tokenPresent (some id) v.2 false)
  | .o => s.setKey { k with oAct := .idle }

/-- The transaction ends without a valid response (R337). -/
def State.noResponse (s : State) (c : KeyChannel) : State :=
  let k := s.key.post { channel := c, code := 0x0A, id := none, slot := none, raw := false }
  match c with
  | .l => s.setKey { k with lAct := .idle }
  | .o => s.setKey { k with oAct := .idle }

def KeyBlock.activity (k : KeyBlock) : KeyChannel → KeyActivity
  | .l => k.lAct
  | .o => k.oAct

/-- RESPONSE_FRAME: a frame that fails R333 counts as no response (R337, R362). -/
def execResponseFrame (channel : KeyChannel) (frame : List Byte) (crc : BitVec 16) (s : State) : Out :=
  ok (match s.key.activity channel with
    | .challenged id ch =>
      if !s.receivesFrames channel then s
      else if frame.length == 9 && byteAt frame 0 == 0x3C && keyCrc frame == crc then s.response channel id ch (frame.drop 1)
      else s.noResponse channel
    | _ => s)

/-- NO_RESPONSE (R337). -/
def execNoResponse (channel : KeyChannel) (s : State) : Out :=
  ok (match s.key.activity channel with
    | .challenged _ _ => s.noResponse channel
    | _ => s)

/-- NO_TOKEN: a repeat follows, or the amplitude becomes an object level (R344, R345). -/
def execNoToken (s : State) : Out :=
  ok (match s.key.lAct with
    | .waitId again =>
      let k := s.key.post { channel := .l, code := 0x09, id := none, slot := none, raw := false }
      s.setKey (if again then { k with lAct := .idle, ref := k.last, object := true } else { k with lAct := .retryWait })
    | _ => s)

/-- NO_TOKEN_RETRY: the one repeat, when its listen is clean and the loading still differs (R344, R345, R351). -/
def execNoTokenRetry (listen : List Byte) (amplitude : BitVec 8) (s : State) : Out :=
  let k := { s.key with last := amplitude, lAct := .idle }
  ok (whenDo (s.keyRuns && s.key.lAct == .retryWait) s
    (if s.key.noisy listen then s.lFlooded
    else if k.changed amplitude then (s.setKey k).callL true
    else s.setKey k))

/-- A channel-L activity with carrier runs beyond a poll's burst: a transaction, a recheck or a raw run (R351, R392). -/
def State.lCarrier (s : State) : Bool :=
  s.key.lAct.inTransaction || s.key.lAct == .raw ||
    match s.key.present with
    | some p => s.lPolls && s.rechecks p
    | none => false

/-- LF_FLOOD: the listen of a poll, a transaction or a raw run is noisy, or the envelope of its carrier departs from the burst's level by
`departure` for `micros` µs without a break (R351, R352, R392). -/
def execLfFlood (listen : List Byte) (departure : Byte) (micros : Nat) (s : State) : Out :=
  let hears := s.lPolls || s.lCarrier
  let departs := s.lCarrier && decide (4 * s.key.delta.toNat < departure.toNat) && decide (1000 ≤ micros)
  ok (whenDo (s.keyRuns && s.key.hasL && (hears && s.key.noisy listen || departs)) s s.lFlooded)

/-- LF_FLOOD_LISTEN: four clean listens in a row clear the flood (R352). -/
def execLfFloodListen (listen : List Byte) (s : State) : Out :=
  let n := if s.key.noisy listen then 0 else s.key.cleanListens + 1
  ok (whenDo s.key.lFlood s
    (s.setKey (if 4 ≤ n then { s.key with lFlood := false, cleanListens := 0 } else { s.key with cleanListens := n })))

/-- The longest mark M of the active code profile, in µs (R358). -/
def KeyBlock.longestMark (k : KeyBlock) : Nat :=
  match k.oMode.toNat with
  | 1 => k.maxMark.toNat * 64
  | 2 => max 1000 (k.maxMark.toNat * 64)
  | _ => 1000

/-- In-band carrier without a break for longer than 3 × M (R358). -/
def KeyBlock.overlong (k : KeyBlock) (micros : Nat) : Bool := decide (3 * k.longestMark < micros)

/-- Channel O becomes flooded; its leaf is set once for each flood (R359, R392). -/
def State.oFlooded (s : State) : State :=
  let k := s.key
  let k1 := match k.oAct with
    | .challenged _ _ => k.post { channel := .o, code := 0x0B, id := none, slot := none, raw := false }
    | _ => k
  let s1 := s.setKey { k1 with oFlood := true, oAct := .idle, irRun := [], irCount := 0 }
  ((if k.oFlood then s1 else (s1.setLeaf .tokenIrFlood).pulse 25)).abandonRaw .o

/-- IR_FLOOD: the amplifier is saturated for 50 µs or more, or carrier lasts longer than 3 × M (R358, R359, R392). -/
def execIrFlood (saturatedMicros carrierMicros : Nat) (s : State) : Out :=
  let hears := s.oRuns || (s.keyRuns && s.key.oAct == .raw)
  ok (whenDo (hears && (decide (50 ≤ saturatedMicros) || s.key.overlong carrierMicros)) s s.oFlooded)

/-- IR_REARM (R359). -/
def execIrRearm (s : State) : Out := ok (whenDo s.key.oFlood s (s.setKey { s.key with oFlood := false }))

/-- A length in units of 2 µs, held at 0xFFFF (R360). -/
def irUnits (n : Nat) : BitVec 16 := BitVec.ofNat 16 (min 65535 n)

/-- END_SPACE in units of 2 µs (R360). -/
def KeyBlock.endUnits (k : KeyBlock) : Nat := k.endSpace.toNat * 2000

/-- The receiver takes generic codes (R356, R357). -/
def State.captures (s : State) : Bool := s.oRuns && s.key.oCaptures && s.key.oAct != .raw

/-- IR_MARK: a mark and the space after it, in units of 2 µs; a mark longer than 3 × M is a flood, one of 100 µs or more is activity (R125 row
5, R357, R358, R360). -/
def execIrMark (mark space : Nat) (s : State) : Out :=
  let k := s.key
  ok (whenDo s.captures s
    (if k.overlong (2 * mark) then s.oFlooded
    else if k.endUnits < space then s
    else (((s.setKey { k with irRun := if k.irCount < 64 then k.irRun ++ [(irUnits mark, irUnits space)] else k.irRun, irCount := k.irCount + 1 }).pulse
      22).pulse 23).noteWakeIf (decide (50 ≤ mark)) 4))

/-- The code that ends is delivered, or discarded while the buffer is held (R360, R361); it resumes channel L (R376). -/
def State.irEnd (s : State) (mark : Nat) : State :=
  let k := s.key
  let run := (if k.irCount < 64 then k.irRun ++ [(irUnits mark, 0#16)] else k.irRun).take 64
  let n := k.irCount + 1
  let k1 := { k with irRun := [], irCount := 0 }
  let s1 := if k.irValid then s.setKey { k1 with irLost := satInc k.irLost }
    else (s.setKey { k1 with irValid := true, irPairs := run, irOverflow := decide (64 < n) }).setLeaf .tokenIrCode
  (((s1.pulse 22).pulse 23).pulse 24).heardO

/-- IR_CODE_END (R360). -/
def execIrCodeEnd (mark : Nat) (s : State) : Out :=
  ok (whenDo s.captures s (if s.key.overlong (2 * mark) then s.oFlooded else s.irEnd mark))

/-- O_SENSE_WINDOW: in-band carrier of 100 µs or more is channel O activity and wakes the device (R357, R133). -/
def execOSenseWindow (carrierMicros : Nat) (s : State) : Out :=
  let stopped := s.dozing || (s.power.mode == .hibernate && s.power.cfg.getLsbD 2)
  ok (whenDo (stopped && s.key.oEn && s.power.wakeEn.getLsbD 2 && decide (100 ≤ carrierMicros)) s
    (s.noteWake 4))

/-- A lockout ends: a present token that was not granted counts as a new arrival (R369). -/
def State.endLockout (s : State) : State :=
  let k := { s.key with locked := false, lockSecs := 0, lConsec := 0 }
  let s1 := (s.setKey k).askLock
  match k.present with
  | some p => if p.granted then s1 else ({ s1 with key := { s1.key with present := none } }).arrival
  | none => s1

/-- LOCKOUT_END (R369). -/
def execLockoutEnd (s : State) : Out := ok (whenDo (s.key.locked && s.key.lockSecs == 0) s s.endLockout)

/-- LOCK_CHECKPOINT: every 10 s of a lockout, counted from its start, and every hour of running time (R371). -/
def execLockCheckpoint (s : State) : Out := ok (whenDo (s.keyRuns && s.key.ckptDue) s (s.setKey { s.key with ckptDue := false }).askLock)

/-- DORMANCY: polling stops; a transaction or a raw run under way goes on (R375). -/
def execDormancy (s : State) : Out :=
  ok (whenDo (s.key.ready && s.key.hasL && !s.key.dormant && decide (s.key.dormWeeks.toNat * 604800 ≤ s.key.quiet)) s
    (((s.setKey { s.key with
      dormant := true
      lAct := if s.key.lAct == .confirming || s.key.lAct == .retryWait then .idle else s.key.lAct }).setLeaf .tokenDormant).askLock))

/-- ENROLL_WINDOW_END: the seconds of the window have run out (R381). -/
def execEnrollWindowEnd (s : State) : Out := ok (whenDo (s.key.enrollLeft == some 0) s (s.setKey { s.key with enrollLeft := none }))

/-- A hold that has run out ends its term of the release state (R385). -/
def KeyBlock.endHold (k : KeyBlock) : KeyChannel → KeyBlock
  | .l => if k.holdLeftL = some 0 then { k with relL := false, holdLeftL := none, relSlotL := none } else k
  | .o => if k.holdLeftO = some 0 then { k with relO := false, holdLeftO := none, relSlotO := none } else k

/-- RELEASE_HOLD_EXPIRY: in SLEEP and DEEP the pin drops at this tick, otherwise at the next commit (R387, R388). -/
def execReleaseHoldExpiry (channel : KeyChannel) (s : State) : Out := ok (s.setKey (s.key.endHold channel)).dozeRelease

/-- KEYHOLDER_READY: the engine restores its state from the LOCK record (R328, R372). -/
def State.keyReady (s : State) (rec0 : List Byte) : State :=
  let k := s.key
  let k1 :=
    if rec0.length < 16 then k
    else
      let fl := byteAt rec0 1
      let drips := natAt rec0 4 6
      let gone := if s.drip.gap then 0 else (s.drip.count.toNat - drips) / 4000
      let left := natAt rec0 2 2 - gone
      let locked := fl.getLsbD 0
      { k with
        lConsec := (byteAt rec0 0).setWidth 4
        locked := locked
        lockSecs := if locked then left else 0
        dormant := fl.getLsbD 1
        lockBase := if fl.getLsbD 2 then some (byteAt rec0 13) else none
        quiet := natAt rec0 10 3 + gone }
  let s1 := s.setKey { k1 with ready := true, wakeResumes := false }
  let s2 := if k1.locked && k1.lockSecs == 0 then s1.endLockout else s1
  if k.wakeResumes then s2.resumeL else s2

def execKeyholderReady (s : State) : Out :=
  ok (match s.key.lockRecord with
    | some r => whenDo (s.key.tableLoaded && !s.key.ready && s.power.mode != .sump) s (s.keyReady r)
    | none => s)

/-- The sensor decides an arrival on a poll and its confirming poll (R343, R350). -/
def PresenceSensor.arrives (p : PresenceSensor) (first confirm : BitVec 8) : Bool :=
  match p.baseline with
  | some b => decide (p.delta.toNat ≤ ampDiff first b) && decide (p.delta.toNat ≤ ampDiff confirm b)
  | none => false

/-- HIBERNATE_PRESENCE: the always-on sensor's poll and its confirming poll; with no baseline handed over, the first poll is one (R342, R350). -/
def execHibernatePresence (first confirm : BitVec 8) (s : State) : Out :=
  ok (match s.key.sensor with
    | some p =>
      if s.power.mode == .hibernate && s.power.hold == .none && decide (0 < p.seconds) then
        (s.setKey { s.key with sensor := some { p with baseline := some (p.baseline.getD first) } }).noteWakeIf (p.arrives first confirm) 2
      else s
    | none => s)

/-- Write TK_CMDRES. -/
def State.cmdRes (s : State) (code status : BitVec 4) : State := s.setKey { s.key with cmdCode := code, cmdStatus := status }

/-- RESUME (R376, R329, R331). -/
def State.tkResume (s : State) : State :=
  if s.power.mode = .sump then s
  else if !s.key.hasL then s.cmdRes 1 1
  else s.resumeL.cmdRes 1 0

/-- CLEAR_LOCK (R369). -/
def State.tkClearLock (s : State) : State :=
  if !s.key.hasL then s.cmdRes 2 1
  else (if s.key.locked then s.endLockout else s).cmdRes 2 0

/-- Why RAW_START is refused; the pause before the repeat of R345 is no activity (R327, R391). -/
def State.rawRefusal (s : State) : BitVec 4 :=
  let k := s.key
  let len := k.rawLen.toNat
  if k.rawCh = .l ∧ k.hasL = false then 1
  else if k.rawRun.isSome || (k.activity k.rawCh != .idle && k.activity k.rawCh != .retryWait) then 3
  else if k.rawCh = .l ∧ k.locked then 2
  else if k.rawCh = .l ∧ k.dormant then 4
  else if len = 0 ∨ 32768 < 4 * k.rawAddr.toNat + 2 * len ∨ s.keyRuns = false then 6
  else 0

/-- The bits that a raw run sends: COUNT of them, bit 0 of TK_RAWTX0 first (R390). -/
def KeyBlock.rawBits (k : KeyBlock) : List Bool := ((wordsToBytes k.rawTx.toList).flatMap bitsLsb).take k.rawTxN.toNat

/-- RAW_START: the run takes its channel, length and place from TK_RAWCFG (R390, R391). -/
def State.tkRawStart (s : State) : State :=
  let r := s.rawRefusal
  if r != 0 then s.cmdRes 3 r
  else
    let k := { s.key with rawRun := some s.key.rawCh, rawRunLen := s.key.rawLen.toNat, rawRunAddr := s.key.rawAddr.toNat }
    (s.setKey (match k.rawCh with
      | .l => { k with lAct := .raw, rawRetry := k.lAct == .retryWait, lSent := lPauses k.rawBits }
      | .o => { k with oAct := .raw, rawRetry := false, irRun := [], irCount := 0, oSent := oMarks k.rawBits 0 })).cmdRes 3 0

/-- 16-bit samples packed two per word, the earlier in the low half (R390). -/
def sampleBytes (xs : List (BitVec 16)) : List Byte := xs.flatMap fun x => [x.extractLsb' 0 8, x.extractLsb' 8 8]

/-- A run ends: its samples stand in DTCM and for 1 s its verdict may be posted (R390, R393). -/
def State.rawEnd (s : State) (samples : List (BitVec 16)) : State :=
  match s.key.rawRun with
  | none => s
  | some c =>
    let by_ := s.linearNow + 32000000
    let k := { s.key with rawRun := none, rawRetry := false }
    let k1 := match c with
      | .l => { k with lAct := if s.key.rawRetry then .retryWait else .idle, verdictL := some by_ }
      | .o => { k with oAct := .idle, verdictO := some by_ }
    let m := memPutBytes s.mem (0x10000000 + 4 * k.rawRunAddr) (sampleBytes (samples.take k.rawRunLen))
    ({ s with mem := m }.setKey k1).setLeaf .tokenRawDone

/-- RAW_STOP: the run is complete with the samples written so far (R391). -/
def State.tkRawStop (s : State) (samples : List (BitVec 16)) : State :=
  if s.key.rawRun.isSome then (s.rawEnd samples).cmdRes 4 0 else s.cmdRes 4 5

/-- `n` samples of which nothing is known. -/
def State.drawSamples (s : State) : Nat → List (BitVec 16) × State
  | 0 => ([], s)
  | n + 1 =>
    let (x, s1) := s.draw 65536
    let (xs, s2) := s1.drawSamples n
    (BitVec.ofNat 16 x :: xs, s2)

/-- RAW_STOP written to TK_CMD: how many samples the run has written, and which, are free values (R391; DESIGN CHOICE, assumption 43). -/
def State.stopRaw (s : State) : State :=
  let (n, s1) := s.draw (s.key.rawRunLen + 1)
  let (xs, s2) := s1.drawSamples n
  s2.tkRawStop xs

/-- IR_ACK (R361). -/
def State.tkIrAck (s : State) : State := (s.setKey { s.key with irValid := false, irOverflow := false }).cmdRes 5 0

/-- CLOSE_ENROLL (R381). -/
def State.tkCloseEnroll (s : State) : State := (s.setKey { s.key with enrollLeft := none }).cmdRes 6 0

def execResume (s : State) : Out := ok s.tkResume
def execClearLock (s : State) : Out := ok s.tkClearLock
def execRawStart (s : State) : Out := ok s.tkRawStart
def execRawStop (samples : List (BitVec 16)) (s : State) : Out := ok (s.tkRawStop samples)
def execRawDone (samples : List (BitVec 16)) (s : State) : Out := ok (s.rawEnd samples)
def execIrAck (s : State) : Out := ok s.tkIrAck
def execCloseEnroll (s : State) : Out := ok s.tkCloseEnroll

/-- What a posted verdict gives: its result code and record slot; GRANT of a PENDING record gives PENDING (R393). -/
def KeyBlock.rawJudge (k : KeyBlock) (c : KeyChannel) (code : Nat) (slot : Fin 64) : Option (Byte × Option (Fin 64)) :=
  match code with
  | 1 =>
    let r := k.table[slot]
    if r.state == 1 || r.state == 2 || r.state == 3 then some (k.judge r c false false, some slot) else some (0x03, none)
  | 2 => some (0x02, none)
  | 3 => some (0x03, none)
  | 4 => some (0x04, none)
  | 5 => some (0x09, none)
  | _ => none

/-- The verdict window of a channel (R393). -/
def KeyBlock.verdictBy (k : KeyBlock) : KeyChannel → Option Nat
  | .l => k.verdictL
  | .o => k.verdictO

def KeyBlock.closeVerdict (k : KeyBlock) : KeyChannel → KeyBlock
  | .l => { k with verdictL := none }
  | .o => { k with verdictO := none }

/-- TK_VERDICT (R393): applied at the next commit, or refused. -/
def State.tkVerdict (s : State) (v : Word) : State :=
  let c : KeyChannel := if bitAt v 15 then .o else .l
  let k := s.key
  if c = .l ∧ k.hasL = false then s.cmdRes 0xF 1
  else
    match k.verdictBy c with
    | none => s.cmdRes 0xF 5
    | some t =>
      if t < s.linearNow then s.cmdRes 0xF 5
      else
        match k.rawJudge c (bits v 0 4).toNat (bits v 8 6).toFin with
        | none => s.cmdRes 0xF 6
        | some (code, slot) =>
          let id := slot.map fun i => k.table[i].id
          let k1 := (k.closeVerdict c).post { channel := c, code := code, id := id, slot := slot, raw := true }
          let k2 := if c = .l ∧ code = 0x01 then k1.tokenPresent id slot true else k1
          (s.setKey k2).cmdRes 0xF 0

def execTkVerdict (value : Word) (s : State) : Out := ok (s.tkVerdict value)

/-- A result register after a new result (R363). -/
def KeyResultReg.next (g : KeyResultReg) (r : KeyResult) : KeyResultReg :=
  { seq := g.seq + 1, raw := r.raw, slotValid := r.slot.isSome, slot := BitVec.ofNat 6 ((r.slot.map (·.val)).getD 0),
    result := r.code, id := r.id.getD g.id }

/-- Results 0x02 to 0x08 name a token (R364). -/
def namesToken (code : Byte) : Bool := decide (0x02#8 ≤ code) && decide (code ≤ 0x08#8)

/-- Results that count as a failure (R362). -/
def isFailure (code : Byte) : Bool := code == 0x02 || code == 0x03 || code == 0x04

/-- A channel-L grant of a token that is present, or has left since the verdict: then only its hold is left (R352, R385). -/
def KeyBlock.grantL (k : KeyBlock) (releases : Bool) (slot : Option (Fin 64)) : KeyBlock :=
  let here := k.present.any fun p => p.slot == slot
  let k1 := { k with lConsec := 0, present := k.present.map fun p => if p.slot = slot then { p with granted := true } else p }
  if !releases then k1
  else if here then { k1 with relL := true, holdLeftL := none, relSlotL := slot }
  else if k.holdL = 0 then k1
  else { k1 with relL := true, holdLeftL := some k.holdL.toNat, relSlotL := slot }

/-- A grant's effect on the release state and the enrollment window (R381, R385). -/
def KeyBlock.applyGrant (k : KeyBlock) (c : KeyChannel) (r : TokenRec) (slot : Option (Fin 64)) : KeyBlock :=
  let k1 := { k with evGrants := k.evGrants + 1, enrollLeft := if k.masterEnroll && r.master then some k.enrollWin.toNat else k.enrollLeft }
  match c with
  | .l => k1.grantL r.releases slot
  | .o => if r.releases && k.holdO != 0 then { k1 with relO := true, holdLeftO := some k.holdO.toNat, relSlotO := slot } else k1

/-- A failure is counted, and may lock channel L (R365 to R367, R371). -/
def State.countFailure (s : State) (c : KeyChannel) : State :=
  match c with
  | .o => (s.setKey { s.key with oCount := satInc s.key.oCount }).setLeaf .tokenFail
  | .l =>
    let n := satInc s.key.lConsec
    let s1 := (s.setKey { s.key with lConsec := n }).setLeaf .tokenFail
    if decide (s1.key.thresh ≤ n) then
      (((s1.setKey { s1.key with locked := true, lockSecs := s1.key.minutes.toNat * 60 }).setLeaf .tokenLocked).pulse 21).askLock
    else s1.askLock

/-- Commit one result (R363 to R367, R374, R381, R382). -/
def State.commitResult (s : State) (r : KeyResult) : State :=
  let k := match r.channel with
    | .l => { s.key with lResult := s.key.lResult.next r }
    | .o => { s.key with oResult := s.key.oResult.next r }
  let s1 := s.setKey k
  let s2 := s1.setLeafIf (namesToken r.code) .tokenDeny
  if r.code = 0x01 then
    match r.slot with
    | some i =>
      ((s2.setKey ({ s2.key with quiet := if r.raw then 0 else s2.key.quiet }.applyGrant r.channel s2.key.table[i] r.slot)).setLeaf .tokenGrant).pulse 17
    | none => s2
  else if r.code = 0x07 then
    match r.slot with
    | some i => s2.setKey { s2.key with requests := s2.key.requests ++ [.promote i], promoting := s2.key.promoting ++ [i] }
    | none => s2
  else if r.code = 0x0C then s2.setLeaf .tokenLocked
  else if isFailure r.code then s2.countFailure r.channel
  else s2

/-- Commit a list of results (R363). -/
def State.commitResults (s : State) (rs : List KeyResult) : State := rs.foldl State.commitResult s

/-- The engine's commit phase of a drip edge: the results finished by cycle 7,967, then the release line as those results and the engine's state
of that cycle make it; before READY it commits nothing and RELEASE stays low (R63, R80, R328, R363, R387). -/
def State.keyCommit (s : State) (gate : Bool) : State :=
  let due := s.inTime.key
  let s1 := s.commitResults due.results
  let then_ := (({ s with key := due } : State).commitResults due.results).key
  if !due.ready then s
  else (s1.setKey { s1.key with results := s.key.results.drop due.results.length }).commitRelease (then_.pinLevel gate) then_.releaseState

/-- Where a new table holds, ACTIVE and allowed on the channel, the token that the old one holds in slot `i` (R384). -/
def keptSlot (old new : Vector TokenRec 64) (c : KeyChannel) (i : Fin 64) : Option (Fin 64) :=
  (slotOf new old[i].id).filter fun j => new[j].state == 1 && new[j].allows c

/-- The present granted channel-L token is examined against a new table: disallowed, it contributes nothing more, and no hold runs for it
(R384). -/
def KeyBlock.examineL (k : KeyBlock) (t : Vector TokenRec 64) : KeyBlock :=
  match k.present with
  | some p =>
    match p.granted, p.slot with
    | true, some i =>
      match keptSlot k.table t .l i with
      | some j => { k with present := some { p with slot := some j }, relSlotL := if k.relSlotL = some i then some j else k.relSlotL }
      | none =>
        let k1 := { k with present := some { p with granted := false } }
        if k.relSlotL = some i then { k1 with relL := false, holdLeftL := none, relSlotL := none } else k1
    | _, _ => k
  | none => k

/-- The token whose channel-O hold runs is examined likewise (R384). -/
def KeyBlock.examineO (k : KeyBlock) (t : Vector TokenRec 64) : KeyBlock :=
  match k.relSlotO with
  | some i =>
    match keptSlot k.table t .o i with
    | some j => { k with relSlotO := some j }
    | none => { k with relO := false, holdLeftO := none, relSlotO := none }
  | none => k

/-- A table load arrives: tokens that it disallows lose their release at once, promoted ones set their leaf (R379, R382, R384). -/
def State.tableLoad (s : State) (t : Vector TokenRec 64) : State :=
  let k := (s.key.examineL t).examineO t
  let done := k.promoting.any fun i => t[i].state == 1
  let k1 := { k with table := t, tableLoaded := true, promoting := k.promoting.filter fun i => t[i].state != 1 }
  (s.setKey k1).setLeafIf done .tokenEnrolled

/-- At every edge a present token whose expiry is reached counts as removed, and the hold applies (R384). -/
def KeyBlock.expiryCheck (k : KeyBlock) : KeyBlock :=
  match k.present with
  | some p =>
    match p.slot with
    | some i => if p.granted && k.expired k.table[i] then k.removal else k
    | none => k
  | none => k

/-- One second of LFCLK passes for lockout, holds, quiet time, enrollment window and checkpoints (R367, R371, R374, R381, R385). -/
def KeyBlock.second (k : KeyBlock) : KeyBlock :=
  let hour := k.ready && decide (3600 ≤ k.runSecs + 1)
  { k with
    lockSecs := k.lockSecs - 1
    holdLeftL := k.holdLeftL.map (· - 1)
    holdLeftO := k.holdLeftO.map (· - 1)
    quiet := if k.present.isSome || k.release then k.quiet else min 16777215 (k.quiet + 1)
    enrollLeft := k.enrollLeft.map (· - 1)
    runSecs := if hour || !k.ready then 0 else k.runSecs + 1
    ckptDue := k.ckptDue || hour || (k.locked && decide (1 < k.lockSecs) && (k.lockSecs - 1) % 10 == 0) }

/-- One second of HIBERNATE passes for the always-on sensor (R350). -/
def KeyBlock.sensorSecond (k : KeyBlock) : KeyBlock := { k with sensor := k.sensor.map fun p => { p with seconds := p.seconds - 1 } }

/-- The values handed to the always-on sensor at entry to HIBERNATE (R350). -/
def KeyBlock.handToSensor (k : KeyBlock) : Option PresenceSensor :=
  if k.hasL && k.lEn && !k.dormant then
    some { baseline := k.baseline, delta := k.delta, period := k.period.toNat, seconds := k.dormWeeks.toNat * 604800 - k.quiet }
  else none

/-- TK registers by offset within the block at 0x4000_6000 (R394). -/
def KeyBlock.resultWord (g : KeyResultReg) : Word :=
  fld 16 g.seq ||| flag 15 g.raw ||| flag 14 g.slotValid ||| fld 8 g.slot ||| fld 0 g.result

def KeyBlock.statWord (k : KeyBlock) : Word :=
  let slot : Nat := match k.present with
    | some p => if p.granted then (p.slot.map (·.val)).getD 0 else 0
    | none => 0
  nfld 16 slot ||| flag 14 k.ckptFail ||| flag 13 k.rawRun.isSome ||| flag 12 (k.oAct != .idle) |||
    flag 11 (k.lAct.inTransaction) ||| flag 10 k.enrollLeft.isSome ||| flag 9 k.relO ||| flag 8 k.relL |||
    flag 7 k.release ||| flag 6 k.oFlood ||| flag 5 k.lFlood ||| flag 4 k.dormant ||| flag 3 k.locked |||
    flag 2 ((k.present.map (·.granted)).getD false) ||| flag 1 (k.present.isSome || k.object) ||| flag 0 k.ready

/-- The value of a TK_ register (R394). -/
def KeyBlock.read (k : KeyBlock) (off : Nat) : Option Word :=
  if 0x50 ≤ off ∧ off < 0x60 then some (k.rawTx.getD ((off - 0x50) / 4) 0)
  else if 0x100 ≤ off ∧ off < 0x200 then
    let p := k.irPairs.getD ((off - 0x100) / 4) (0, 0)
    some (fld 16 p.2 ||| fld 0 p.1)
  else match off with
  | 0x00 => some (flag 17 true ||| flag 16 k.hasL ||| 1)
  | 0x04 => some (fld 8 k.enrollWin ||| flag 4 k.masterEnroll ||| flag 3 k.staleAccept ||| flag 2 k.calTrust ||| flag 1 k.oEn ||| flag 0 k.lEn)
  | 0x08 => some (fld 24 k.noise ||| fld 16 k.delta ||| fld 12 k.recheck ||| fld 0 k.period)
  | 0x0C => some (fld 16 k.dormWeeks ||| fld 8 k.minutes ||| fld 0 k.thresh)
  | 0x10 => some (fld 16 k.force ||| fld 8 k.holdO ||| fld 0 k.holdL)
  | 0x14 => some (fld 28 k.endSpace ||| fld 20 k.maxMark ||| fld 16 k.led ||| fld 8 k.band ||| fld 0 k.oMode)
  | 0x18 => some k.statWord
  | 0x1C => some (KeyBlock.resultWord k.lResult)
  | 0x20 => some k.lResult.id
  | 0x24 => some (KeyBlock.resultWord k.oResult)
  | 0x28 => some k.oResult.id
  | 0x2C => some (fld 16 k.oCount ||| fld 0 k.lConsec)
  | 0x30 => some (nfld 0 k.lockSecs)
  | 0x34 => some (nfld 0 k.quiet)
  | 0x38 => some (fld 16 k.ref ||| fld 8 (k.baseline.getD 0) ||| fld 0 k.last)
  | 0x3C => some 0
  | 0x40 => some (fld 8 k.cmdStatus ||| fld 0 k.cmdCode)
  | 0x44 => some (fld 16 k.irLost ||| flag 9 k.irOverflow ||| flag 8 k.irValid ||| nfld 0 (if k.irValid then k.irPairs.length else 0))
  | 0x48 => some (flag 31 (k.rawCh == .o) ||| fld 16 k.rawLen ||| fld 0 k.rawAddr)
  | 0x4C => some 0
  | 0x60 => some (fld 0 k.rawTxN)
  | _ => none

/-- `v` when it lies in lo..hi, else the Reset value (R17, R394). -/
def inRange {w : Nat} (lo hi reset : Nat) (v : BitVec w) : BitVec w :=
  if lo ≤ v.toNat ∧ v.toNat ≤ hi then v else BitVec.ofNat w reset

/-- A command written to TK_CMD (R394). -/
def State.tkCommand (s : State) (c : Nat) : State :=
  match c with
  | 1 => s.tkResume
  | 2 => s.tkClearLock
  | 3 => s.tkRawStart
  | 4 => s.stopRaw
  | 5 => s.tkIrAck
  | 6 => s.tkCloseEnroll
  | _ => s

/-- A write to a TK_ register takes effect at once for the core (R26, R394). -/
def State.writeKey (s : State) (off : Nat) (v : Word) : State :=
  let k := s.key
  if 0x50 ≤ off ∧ off < 0x60 then s.setKey { k with rawTx := k.rawTx.setIfInBounds ((off - 0x50) / 4) v }
  else match off with
  | 0x04 => s.setKey { k with
      enrollWin := inRange 5 60 30 (bits v 8 6), masterEnroll := bitAt v 4, staleAccept := bitAt v 3,
      calTrust := bitAt v 2, oEn := bitAt v 1, lEn := bitAt v 0 && k.hasL }
  | 0x08 => s.setKey { k with
      noise := bits v 24 8, delta := inRange 1 255 8 (bits v 16 8), recheck := bits v 12 4, period := inRange 50 2000 250 (bits v 0 11) }
  | 0x0C => s.setKey { k with
      dormWeeks := inRange 1 26 6 (bits v 16 5), minutes := inRange 1 60 5 (bits v 8 6), thresh := inRange 1 15 5 (bits v 0 4) }
  | 0x10 => s.setKey { k with
      force := inRange 0 2 0 (bits v 16 2), holdO := inRange 0 60 0 (bits v 8 6), holdL := inRange 0 60 0 (bits v 0 6) }
  | 0x14 => s.setKey { k with
      endSpace := inRange 1 15 5 (bits v 28 4), maxMark := inRange 1 255 141 (bits v 20 8), led := inRange 1 10 5 (bits v 16 4),
      band := inRange 30 60 38 (bits v 8 6), oMode := inRange 0 2 0 (bits v 0 2) }
  | 0x2C => s.setKey { k with oCount := bits v 16 16 }
  | 0x3C => s.tkCommand (bits v 0 4).toNat
  | 0x48 => s.setKey { k with rawCh := if bitAt v 31 then .o else .l, rawLen := inRange 1 4096 0 (bits v 16 13), rawAddr := bits v 0 13 }
  | 0x4C => s.tkVerdict v
  | 0x60 => s.setKey { k with rawTxN := inRange 0 128 0 (bits v 0 8) }
  | _ => s

end Sys2Proof.Machine
end

