-- ==== Sys2Proof/Machine/Phy.lean ====
section
/-!
DEFINITION. The coding chain and the frame arithmetic of the physical layer (05_radio_phy.md, 2 to 6).
-/
namespace Sys2Proof.Machine

/-- Symbol rate in ksym/s (R180). -/
def PhyMode.ksym : PhyMode → Nat
  | .s1 => 25
  | .s2 => 100
  | .s3 => 200
  | .s4 => 400

/-- Channel spacing in Hz; S3_WIDE widens S3 (R180, R182). -/
def PhyMode.spacing (wide : Bool) : PhyMode → Nat
  | .s1 => 50000
  | .s2 => 200000
  | .s3 => if wide then 800000 else 400000
  | .s4 => 800000

/-- Preamble length in symbols (R180). -/
def PhyMode.preamble : PhyMode → Nat
  | .s1 => 32
  | .s2 => 32
  | .s3 => 48
  | .s4 => 64

/-- Bits per symbol of the coded section (R199). -/
def PhyMode.bitsPerSymbol : PhyMode → Nat
  | .s1 => 1
  | .s2 => 1
  | .s3 => 2
  | .s4 => 2

/-- 4-GFSK, with inner and outer deviations, in S3 and S4 (R180). -/
def PhyMode.fourLevel : PhyMode → Bool
  | .s1 => false
  | .s2 => false
  | .s3 => true
  | .s4 => true

/-- Inner deviation in Hz; the only one of 2-GFSK (R180). -/
def PhyMode.innerDeviation (wide : Bool) : PhyMode → Nat
  | .s1 => 6250
  | .s2 => 25000
  | .s3 => if wide then 75000 else 25000
  | .s4 => 50000

/-- Deviation of the preamble and sync symbols in Hz: the outer one of 4-GFSK, the inner one of 2-GFSK (R180, R183, R203). -/
def PhyMode.preambleDeviation (wide : Bool) : PhyMode → Nat
  | .s1 => 6250
  | .s2 => 25000
  | .s3 => if wide then 225000 else 75000
  | .s4 => 150000

/-- The modulation index h in hundredths: twice the inner deviation over the symbol rate (R180). -/
def PhyMode.index100 (wide : Bool) (m : PhyMode) : Nat := 200 * m.innerDeviation wide / (1000 * m.ksym)

/-- Capture range F in Hz (R202). -/
def PhyMode.capture : PhyMode → Nat
  | .s4 => 100000
  | _ => 80000

/-- The descriptor's MODE field (R236). -/
def PhyMode.ofBits (m : BitVec 2) : PhyMode :=
  match m.toNat with
  | 0 => .s1
  | 1 => .s2
  | 2 => .s3
  | _ => .s4

def PhyMode.toBits : PhyMode → BitVec 2
  | .s1 => 0
  | .s2 => 1
  | .s3 => 2
  | .s4 => 3

/-- Fields of a PHY header (R188). -/
def phyLength (h : BitVec 16) : Nat := (h.extractLsb' 8 8).toNat
def phyAckReq (h : BitVec 16) : Bool := h.getLsbD 7
def phyRelay (h : BitVec 16) : Bool := h.getLsbD 6
def phySecure (h : BitVec 16) : Bool := h.getLsbD 5
def phyAckFrame (h : BitVec 16) : Bool := h.getLsbD 4

/-- A PHY header from its fields, HCHK computed (R188, R189). -/
def mkPhyHeader (length : Nat) (ackReq relay secure ackFrame : Bool) : BitVec 16 :=
  let h : BitVec 16 := (BitVec.ofNat 16 (length % 256) <<< 8) |||
    (if ackReq then 0x80#16 else 0) ||| (if relay then 0x40#16 else 0) |||
    (if secure then 0x20#16 else 0) ||| (if ackFrame then 0x10#16 else 0)
  h ||| (hchk h).setWidth 16

/-- The header check a lane makes (R192). -/
def phyHeaderOk (h : BitVec 16) : Bool :=
  (hchk h == h.extractLsb' 0 4) &&
  (if phyAckFrame h then
    !phyAckReq h && !phyRelay h && !phySecure h && phyLength h == 4
  else phyLength h != 0)

/-- MIC length in bytes from the MIC8 flag (R190). -/
def micLen (mic8 : Bool) : Nat := if mic8 then 8 else 4

/-- The body length B of a frame, given the MIC-length flag of its MAC header (R190, R191). -/
def bodyLength (h : BitVec 16) (mic8 : Bool) : Nat :=
  if phyAckFrame h then 4
  else if phySecure h then 14 + micLen mic8 + phyLength h
  else 10 + phyLength h

/-- Coded bits of a frame of body length `B`, before padding (R199). -/
def codedBits (m : PhyMode) (B : Nat) : Nat :=
  let n := 8 * B + 54
  match m with
  | .s4 => 3 * n / 2
  | _ => 2 * n

/-- Padded coded bits (R198, R199). -/
def paddedBits (m : PhyMode) (B : Nat) : Nat := 32 * ((codedBits m B + 31) / 32)

/-- Symbols of a whole frame (R199). -/
def frameSymbols (m : PhyMode) (B : Nat) : Nat := m.preamble + 32 + paddedBits m B / m.bitsPerSymbol

/-- Frame duration in LCLK cycles (R199); the symbol period is 32,000 / ksym cycles. -/
def frameCycles (m : PhyMode) (B : Nat) : Nat := frameSymbols m B * (32000 / m.ksym)

/-- Airtime charged to the ledger in whole µs: duration plus 16 µs of ramps, rounded up (R273). -/
def airtimeUs (m : PhyMode) (B : Nat) : Nat := (frameCycles m B + 31) / 32 + 16

/-- The duration of an acknowledgement in LCLK cycles, T_ack (R199, R267). -/
def ackCycles (m : PhyMode) : Nat := frameCycles m 4

/-- `n` bits of the PN9 sequence from register `s` (R195). -/
def pn9 : (n : Nat) → BitVec 9 → List Bool
  | 0, _ => []
  | n + 1, s =>
    let fb := s.getLsbD 0 != s.getLsbD 5
    s.getLsbD 0 :: pn9 n ((s >>> 1) ||| (if fb then 0x100#9 else 0#9))

/-- XOR a bit stream with the PN9 sequence restarted at seed 0x1FF (R195). -/
def whiten (bs : List Bool) : List Bool := List.zipWith (fun b w => b != w) bs (pn9 bs.length 0x1FF#9)

/-- c1 and c2 of one input bit, generators 171 and 133 octal; `d` holds u[k-1] (bit 0) to u[k-6] (bit 5) (R196). -/
def convOut (u : Bool) (d : BitVec 6) : Bool × Bool :=
  (((u != d.getLsbD 0) != d.getLsbD 1) != (d.getLsbD 2 != d.getLsbD 5),
   ((u != d.getLsbD 1) != d.getLsbD 2) != (d.getLsbD 4 != d.getLsbD 5))

/-- The rate-1/2 convolutional code (R196). -/
def convEncode : List Bool → BitVec 6 → List (Bool × Bool)
  | [], _ => []
  | u :: us, d => convOut u d :: convEncode us ((d <<< 1) ||| (if u then 1#6 else 0#6))

/-- The coded bits sent in S1 to S3: c1 then c2 of every input bit (R196). -/
def sendAll (cs : List (Bool × Bool)) : List Bool := cs.flatMap fun c => [c.1, c.2]

/-- S4 puncturing 11/10 over pairs of input bits (R197). -/
def puncture : List (Bool × Bool) → List Bool
  | a :: b :: rest => a.1 :: a.2 :: b.1 :: puncture rest
  | [a] => [a.1, a.2]
  | [] => []

/-- The coded bits that a mode sends (R196, R197). -/
def sentBits (m : PhyMode) (cs : List (Bool × Bool)) : List Bool :=
  match m with
  | .s4 => puncture cs
  | _ => sendAll cs

/-- One interleaver block: position p holds coded bit i with p = (i mod 4) × 8 + i / 4 (R198). -/
def interleaveBlock (blk : List Bool) : List Bool :=
  (List.range 32).map fun p => blk.getD ((p % 8) * 4 + p / 8) false

/-- Cut a stream into blocks of 32 and interleave each; `n` is the number of blocks (R198). -/
def interleave : (n : Nat) → List Bool → List Bool
  | 0, _ => []
  | n + 1, bs => interleaveBlock (bs.take 32) ++ interleave n (bs.drop 32)

/-- The header's two bytes in transmission order (R193). -/
def headerBytes (h : BitVec 16) : List Byte := [h.extractLsb' 0 8, h.extractLsb' 8 8]

/-- The CRC-32 of a frame, over header and body (R194). -/
def frameCrc (h : BitVec 16) (body : List Byte) : Word := crc32 (headerBytes h ++ body)

/-- The coded section of a frame as it leaves the antenna (R184, R193 to R198). -/
def codedSection (m : PhyMode) (h : BitVec 16) (body : List Byte) (crc : Word) : List Bool :=
  let white := whiten ((headerBytes h ++ body ++ wordBytes crc).flatMap bitsLsb)
  let coded := convEncode (white ++ List.replicate 6 false) 0#6
  let sent := sentBits m coded
  let blocks := (sent.length + 31) / 32
  interleave blocks (sent ++ List.replicate (32 * blocks - sent.length) false)

/-- The preamble's symbols: 1, 0, 1, 0 and so on (R185). -/
def preambleBits (m : PhyMode) : List Bool := (List.range m.preamble).map fun k => k % 2 == 0

/-- The sync word's symbols, bit 31 first (R186). -/
def syncBits (w : Word) : List Bool := (List.range 32).map fun k => w.getLsbD (31 - k)

/-- The deviations in Hz of one-bit symbols: preamble, sync word, and every field of 2-GFSK (R183). -/
def bitDeviations (dev : Nat) (bs : List Bool) : List Int := bs.map fun b => if b then (dev : Int) else -(dev : Int)

/-- The deviations in Hz of dibits, the first bit of each pair first (R183). -/
def dibitDeviations (inner outer : Nat) : List Bool → List Int
  | a :: b :: rest =>
    let d : Int := if b then outer else inner
    (if a then -d else d) :: dibitDeviations inner outer rest
  | _ => []

/-- The deviations in Hz of the coded section (R183). -/
def codedDeviations (wide : Bool) (m : PhyMode) (bs : List Bool) : List Int :=
  if m.fourLevel then dibitDeviations (m.innerDeviation wide) (m.preambleDeviation wide) bs
  else bitDeviations (m.innerDeviation wide) bs

/-- A frame's symbols in the order on air, as deviations in Hz: preamble, sync word, coded section (R183 to R186). -/
def airSymbols (wide : Bool) (m : PhyMode) (sync : Word) (coded : List Bool) : List Int :=
  bitDeviations (m.preambleDeviation wide) (preambleBits m ++ syncBits sync) ++ codedDeviations wide m coded

/-- LCLK cycles of a symbol period (R180). -/
def PhyMode.symbolCycles (m : PhyMode) : Nat := 32000 / m.ksym

/-- LCLK cycles from a frame's sync instant to its frame end (R179, R199). -/
def sectionCycles (m : PhyMode) (B : Nat) : Nat := paddedBits m B / m.bitsPerSymbol * m.symbolCycles

/-- Link quality from the corrected coded bits E of a frame of body length B (R221). -/
def lqi (m : PhyMode) (B E : Nat) : Byte := BitVec.ofNat 8 (255 - min 255 (2040 * E / codedBits m B))

/-- A channel's centre frequency in Hz (R173). -/
def channelCentre (base : Word) (m : PhyMode) (wide : Bool) (ch : Nat) : Nat :=
  base.toNat + ch * m.spacing wide

/-- The occupied band of a channel in Hz, as (low edge, high edge); the low edge is an integer since it may pass below 0 (R174). -/
def occupiedBand (base : Word) (m : PhyMode) (wide : Bool) (ch : Nat) : Int × Int :=
  let c : Int := channelCentre base m wide ch
  let h : Int := m.spacing wide / 2
  (c - h, c + h)

/-- The band is within 770 MHz to 960 MHz (R174). -/
def bandInRange (b : Int × Int) : Bool := decide (770000000 ≤ b.1) && decide (b.2 ≤ 960000000)

/-- The band is within the transmit fence; touching an edge from inside is within (R226, R273). -/
def bandInFence (lo hi : Word) (b : Int × Int) : Bool := decide ((lo.toNat : Int) ≤ b.1) && decide (b.2 ≤ (hi.toNat : Int))

/-- The band shares a range of positive width with a sub-band (R273). -/
def bandOverlaps (lo hi : Word) (b : Int × Int) : Bool :=
  decide (max (lo.toNat : Int) b.1 < min (hi.toNat : Int) b.2)

/-- The conditions of R213 for two lanes with the LO at `lo`. -/
def lanePairOk (lo : Int) (m1 m2 : PhyMode) (c1 c2 : Int) (b1 b2 : Int × Int) : Bool :=
  decide ((c1 - lo).natAbs ≤ 1000000) && decide ((c2 - lo).natAbs ≤ 1000000) &&
  decide (lo - 1200000 ≤ b1.1) && decide (b1.2 ≤ lo + 1200000) &&
  decide (lo - 1200000 ≤ b2.1) && decide (b2.2 ≤ lo + 1200000) &&
  (decide (b1.2 + 50000 ≤ lo) || decide (lo + 50000 ≤ b1.1)) &&
  (decide (b2.2 + 50000 ≤ lo) || decide (lo + 50000 ≤ b2.1)) &&
  (decide (b1.2 ≤ b2.1) || decide (b2.2 ≤ b1.1)) &&
  decide (m1.ksym + m2.ksym ≤ 800)

end Sys2Proof.Machine
end

