-- ==== Sys2Proof/Machine/Decoder.lean ====
section
/-!
DEFINITION. What a lane makes of the symbols it receives: acquisition estimates, deinterleaving, trellis decoding, de-whitening (05_radio_phy.md,
4.6 and 5).
-/
namespace Sys2Proof.Machine

/-- A 4-bit soft decision of one coded bit: 0 is a sure 0 and 15 a sure 1 (R200; the numbering is a DESIGN CHOICE, assumption 51). -/
abbrev Soft := BitVec 4

/-- The hard decision of a soft one (R221). -/
def Soft.hard (x : Soft) : Bool := x.getLsbD 3

/-- How far a coded bit lies from what was received; an erasure counts nothing (R200; DESIGN CHOICE, assumption 51). -/
def softCost (x : Option Soft) (b : Bool) : Nat :=
  match x with
  | none => 0
  | some v => if b then 15 - v.toNat else v.toNat

/-- The inverse of one interleaver block: coded bit i was sent at position (i mod 4) × 8 + i / 4 (R198, R200). -/
def deinterleaveBlock (blk : List Soft) : List Soft :=
  (List.range 32).map fun i => blk.getD ((i % 4) * 8 + i / 4) 0

/-- The inverse of `interleave` over `n` blocks (R200). -/
def deinterleave : (n : Nat) → List Soft → List Soft
  | 0, _ => []
  | n + 1, xs => deinterleaveBlock (xs.take 32) ++ deinterleave n (xs.drop 32)

/-- The coded bits of each input bit, c1 then c2, in S1 to S3 (R196). -/
def pairUp : List Soft → List (Option Soft × Option Soft)
  | a :: b :: rest => (some a, some b) :: pairUp rest
  | _ => []

/-- The coded bits of each input bit in S4, c2 of every odd input bit restored as an erasure (R197, R200). -/
def depuncture : List Soft → List (Option Soft × Option Soft)
  | a :: b :: c :: rest => (some a, some b) :: (some c, none) :: depuncture rest
  | [a, b] => [(some a, some b)]
  | _ => []

/-- Received coded bits in coding order, one pair for each input bit (R200). -/
def codedPairs (m : PhyMode) (xs : List Soft) : List (Option Soft × Option Soft) :=
  match m with
  | .s4 => depuncture xs
  | _ => pairUp xs

/-- The survivor of a trellis state: its cost, and its input bits, newest first; none while no path reaches the state. -/
abbrev Survivor := Option (Nat × List Bool)

/-- The better of two survivors; which of two equal ones is open (R200; DESIGN CHOICE, assumption 51). -/
def better (tie : Nat) : Survivor → Survivor → Survivor
  | none, b => b
  | a, none => a
  | some a, some b =>
    some (min a.1 b.1, if a.1 < b.1 then a.2 else if b.1 < a.1 then b.2 else if Config.viterbiTie tie then a.2 else b.2)

/-- A survivor of state `p` extended by input bit `u` (R196, R200). -/
def Survivor.extend (x : Survivor) (p : Nat) (u : Bool) (c : Option Soft × Option Soft) : Survivor :=
  x.map fun y =>
    let o := convOut u (BitVec.ofNat 6 p)
    (y.1 + softCost c.1 o.1 + softCost c.2 o.2, u :: y.2)

/-- One step of the trellis: states 2p and 2p + 1 are reached from p and p + 32 (R196, R200). -/
def trellisStep (k : Nat) (t : List Survivor) (c : Option Soft × Option Soft) : List Survivor :=
  (List.range 32).zip ((t.take 32).zip (t.drop 32)) |>.flatMap fun x =>
    [false, true].map fun u =>
      better (128 * k + 2 * x.1 + u.toNat) (Survivor.extend x.2.1 x.1 u c) (Survivor.extend x.2.2 (x.1 + 32) u c)

/-- The encoder starts with its six delay elements at 0 (R196). -/
def trellisStart : List Survivor := some (0, []) :: List.replicate 63 none

/-- The best survivor of all states. -/
def bestSurvivor (k : Nat) (t : List Survivor) : Survivor :=
  ((List.range 64).zip t).foldl (fun b x => better (128 * k + 64 + x.1) b x.2) none

/-- The traceback depth (R200). -/
def tracebackDepth : Nat := 48

/-- The trellis after each pair from step `k` on, with the input bit that the traceback from the best state decides at each step, newest first
(R200). -/
def trellisRun : List (Option Soft × Option Soft) → Nat → List Survivor → List Bool → List Survivor × List Bool
  | [], _, t, out => (t, out)
  | c :: cs, k, t, out =>
    let t1 := trellisStep k t c
    let out1 := if k < tracebackDepth then out
      else (((bestSurvivor k t1).map fun y => y.2.getD tracebackDepth false).getD false) :: out
    trellisRun cs (k + 1) t1 out1

/-- The input bits decided so far: all but the last 48 received (R200). -/
def decideBits (cs : List (Option Soft × Option Soft)) : List Bool := (trellisRun cs 0 trellisStart []).2.reverse

/-- The input bits of a whole frame: those decided on the way, then the traceback from the zero state at the frame end (R200, R201). -/
def viterbi (cs : List (Option Soft × Option Soft)) : List Bool :=
  let r := trellisRun cs 0 trellisStart []
  let last := ((r.1.getD 0 none).map fun y => (y.2.take (min tracebackDepth cs.length)).reverse).getD []
  r.2.reverse ++ last

/-- The first byte of a bit stream, least significant bit first, and the bytes after it; `n` bytes in all (R193). -/
def bytesOfBits : (n : Nat) → List Bool → List Byte
  | 0, _ => []
  | n + 1, bs => (List.range 8).foldl (fun (x : Byte) i => if bs.getD i false then x ||| (1#8 <<< i) else x) 0#8 :: bytesOfBits n (bs.drop 8)

/-- The PHY header at the start of the de-whitened bits (R188, R193). -/
def headerOfBits (bs : List Bool) : BitVec 16 :=
  let b := bytesOfBits 2 bs
  (b.getD 1 0) ++ (b.getD 0 0)

/-- Coded bits after which the lane has the PHY header: 64 input bits, 16 and the traceback (R200). -/
def headerBits : PhyMode → Nat
  | .s4 => 96
  | _ => 128

/-- Coded bits, in whole blocks, after which the lane has CTRL of a secured frame's MAC header, and so B (R190, R200). -/
def macBits : PhyMode → Nat
  | .s4 => 224
  | _ => 288

/-- The de-whitened bits that the coded bits received so far decide (R200). -/
def receivedSoFar (m : PhyMode) (soft : List Soft) : List Bool :=
  whiten (decideBits (codedPairs m (deinterleave (soft.length / 32) soft)))

/-- What a lane decodes from the coded bits of a frame of body length `B`: body, CRC-32, and the corrected coded bits E (R200, R201, R221). -/
def decodeFrame (m : PhyMode) (B : Nat) (soft : List Soft) : List Byte × Word × Nat :=
  let coded := (deinterleave (soft.length / 32) soft).take (codedBits m B)
  let u := viterbi (codedPairs m coded)
  let bytes := bytesOfBits (B + 6) (whiten (u.take (8 * B + 48)))
  let again := sentBits m (convEncode u 0#6)
  let wrong := (List.zipWith (fun (x : Soft) b => x.hard != b) coded again).countP id
  ((bytes.drop 2).take B, wordAt bytes (B + 2), wrong)

-- Acquisition

/-- The sum of f[k] over a window; its mean is the sum over the number of symbols (R202, R204). -/
def freqSum (f : List Int) : Int := f.foldl (· + ·) 0

/-- The sum of f[k] × (−1)^k: the component at half the symbol rate, times the number of symbols (R202, R204). -/
def alternatingSum : List Int → Int
  | [] => 0
  | x :: xs => x - alternatingSum xs

/-- A mean in whole units, rounded down (R202, R204, R206; the rounding is a DESIGN CHOICE, assumption 52). -/
def meanOf (f : List Int) : Int := freqSum f / f.length

/-- A frequency of `n` / `d` units of 4 MHz / 2^16 lies within ± `hz` (R222). -/
def withinHz (n : Int) (d hz : Nat) : Bool := decide (n.natAbs * 4000000 ≤ hz * 65536 * d)

/-- A frequency of `n` / `d` units of 4 MHz / 2^16 is `hz` or more (R222). -/
def atLeastHz (n : Int) (d hz : Nat) : Bool := decide (hz * 65536 * d ≤ n.natAbs * 4000000)

/-- The pull-in range of the fine estimate in Hz: 25 % of the symbol rate (R205). -/
def PhyMode.pullIn (m : PhyMode) : Nat := m.ksym * 250

/-- Half the width of a lane's channel filter in Hz: wide while it searches, the occupied band after (R202, R204). -/
def PhyMode.filterHz (m : PhyMode) (wide searching : Bool) : Nat := m.spacing wide / 2 + if searching then m.capture else 0

/-- The symbol phase in 1/2^16 of a symbol period: the argument of a real sum over π; a sum of 0 has none (R204). -/
def symbolPhase (sum : Int) : Option Int := if 0 < sum then some 0 else if sum < 0 then some 65536 else none

/-- The bits of a sync word that differ from the hard decisions of the last 32 symbols (R207). -/
def bitsWrong (a b : Word) : Nat := ((List.range 32).filter fun i => (a ^^^ b).getLsbD i).length

end Sys2Proof.Machine
end

