-- ==== Sys2Proof/Machine/RadioOps.lean ====
section
/-!
DEFINITION. The radio's lanes, local oscillator and transmissions: the operations that jobs, acknowledgements, relays and beacons share (05, 06).
-/
namespace Sys2Proof.Machine

/-- The block of a lane. -/
def RadioBlock.lane (r : RadioBlock) : Lane → LaneBlock
  | .a => r.laneA
  | .b => r.laneB

def RadioBlock.setLane (r : RadioBlock) (l : Lane) (x : LaneBlock) : RadioBlock :=
  match l with
  | .a => { r with laneA := x }
  | .b => { r with laneB := x }

/-- The other lane. -/
def otherLane : Lane → Lane
  | .a => .b
  | .b => .a

/-- Lane A is 0, lane B is 1 in descriptors and records (R236, R258). -/
def laneOfBit (b : Bool) : Lane := if b then .b else .a
def laneToBit : Lane → Bool
  | .a => false
  | .b => true

def State.lane (s : State) (l : Lane) : LaneBlock := s.radio.lane l

def State.setLane (s : State) (l : Lane) (x : LaneBlock) : State := { s with radio := s.radio.setLane l x }

/-- The configured sync word of a lane (R186). -/
def RadioBlock.syncWord (r : RadioBlock) : Lane → Word
  | .a => r.syncA
  | .b => r.syncB

/-- Centre frequency of a channel in this device's raster (R173). -/
def RadioBlock.centre (r : RadioBlock) (m : PhyMode) (ch : Nat) : Nat := channelCentre r.base m r.s3Wide ch

def RadioBlock.band (r : RadioBlock) (m : PhyMode) (ch : Nat) : Int × Int := occupiedBand r.base m r.s3Wide ch

/-- Centre and occupied band of a tuning (R173, R174). -/
def Tuning.centre (t : Tuning) : Nat := channelCentre t.base t.mode t.wide t.channel
def Tuning.band (t : Tuning) : Int × Int := occupiedBand t.base t.mode t.wide t.channel

/-- The same channel, though S3_WIDE may differ until the lane's next detection (R230). -/
def Tuning.sameChannel (t u : Tuning) : Bool := t.mode == u.mode && t.channel == u.channel && t.base == u.base

/-- The tuning of a lane that receives. -/
def LaneBlock.tuning (x : LaneBlock) : Tuning := ⟨x.mode, x.channel, x.base, x.wide⟩

/-- The tuning that a start made now gives a channel (R173, R182, R230). -/
def RadioBlock.tuningNow (r : RadioBlock) (m : PhyMode) (ch : Nat) : Tuning := ⟨m, ch, r.base, r.s3Wide⟩

def RadioBlock.inFence (r : RadioBlock) (m : PhyMode) (ch : Nat) : Bool := bandInFence r.fenceLo r.fenceHi (r.band m ch)

/-- Transmissions are limited to +14 dBm: the PA is not supplied from VBAT (R101), VPA was low when sampled (R157), or the supply warning lasts
(R106). -/
def PowerBlock.limitsTx (p : PowerBlock) : Bool := !p.cfg.getLsbD 1 || p.vpaLow || p.bodWarn

/-- PW_STAT.PA_LIMIT (R101, R106, R143, R157); in a reset it reads its Reset value (DEDUCED, assumption 7). -/
def PowerBlock.paLimit (p : PowerBlock) : Bool := p.hold == .none && p.limitsTx

/-- The power of a transmission that starts now, in dBm, under the limit as the last transfer showed it to the data plane (R224, R101, R106,
R117). -/
def State.txDbm (s : State) : Int :=
  let l := s.radio.txLevel.toInt
  if decide (14 < l) && s.seen.power.limitsTx then 14 else l

/-- A level above +14 dBm uses RF_HP, and drives ANT_SEL high around the transmission (R156, R224). -/
def usesHp (dbm : Int) : Bool := decide (14 < dbm)

/-- KIND of a descriptor (R236). -/
inductive JobKind where
  | tx
  | rx
  | listen
  | relay
  | cal
  | snapshot
  deriving DecidableEq, Repr

/-- The fields of a job's descriptor (R236). -/
def Job.kind (j : Job) : Option JobKind :=
  match (bits j.desc[0] 0 4).toNat with
  | 1 => some .tx
  | 2 => some .rx
  | 3 => some .listen
  | 4 => some .relay
  | 5 => some .cal
  | 6 => some .snapshot
  | _ => none

def Job.lane (j : Job) : Lane := laneOfBit (bitAt j.desc[0] 4)
def Job.mode (j : Job) : PhyMode := PhyMode.ofBits (bits j.desc[0] 5 2)
def Job.isNow (j : Job) : Bool := bitAt j.desc[0] 7
def Job.channel (j : Job) : Nat := (bits j.desc[0] 8 12).toNat
/-- The tuning of a job whose radio work has started, for a lane that starts now (R230). -/
def Job.tuning (j : Job) (wide : Bool) : Tuning := ⟨j.mode, j.channel, j.base, wide⟩
def Job.retries (j : Job) : Nat := (bits j.desc[0] 20 3).toNat
def Job.ackReq (j : Job) : Bool := bitAt j.desc[0] 24
def Job.relayF (j : Job) : Bool := bitAt j.desc[0] 25
def Job.secure (j : Job) : Bool := bitAt j.desc[0] 26
def Job.mic8 (j : Job) : Bool := bitAt j.desc[0] 27
def Job.keySlot (j : Job) : Fin 8 := (bits j.desc[0] 28 3).toFin
def Job.start (j : Job) : BitVec 48 := (bits j.desc[2] 0 16) ++ j.desc[1]
def Job.offset (j : Job) : Nat := (bits j.desc[2] 16 13).toNat
def Job.line (j : Job) : Nat := (bits j.desc[3] 0 7).toNat
def Job.length (j : Job) : Nat := (bits j.desc[3] 8 8).toNat
def Job.param (j : Job) : Nat := (bits j.desc[4] 0 24).toNat
def Job.threshold (j : Job) : Nat := (bits j.desc[4] 0 3).toNat
def Job.tag (j : Job) : Word := j.desc[5]

/-- The gallery lines a job uses: the frame's lines of a TX job, the 8 lines of a snapshot (R238, R281). -/
def Job.lines (j : Job) : List Nat :=
  match j.kind with
  | some .tx => (List.range ((10 + j.length + 127) / 128)).map (j.line + ·)
  | some .snapshot => (List.range 8).map (j.line + ·)
  | _ => []

/-- The active snapshots on a lane. -/
def LinkBlock.snapshotsOn (k : LinkBlock) (l : Lane) : List (Fin 16) :=
  (List.finRange 16).filter fun i =>
    k.jobs[i].state == .active && k.jobs[i].kind == some .snapshot && k.jobs[i].lane == l

/-- The newest open ACK window whose job names a lane (R268). -/
def LinkBlock.windowOn (k : LinkBlock) (l : Lane) : Option AckWindow :=
  (k.windows.reverse).find? fun w => k.jobs[w.slot].lane == l

/-- The job whose attempt has ended and whose window on a lane has yet to open (R268). -/
def LinkBlock.awaiting (k : LinkBlock) (l : Lane) : Option (Fin 16) :=
  (List.finRange 16).find? fun i =>
    k.jobs[i].state == .active && k.jobs[i].phase == .awaitWindow && k.jobs[i].lane == l

/-- The job for whose acknowledgement a lane is tuned, from its attempt's end to its window's close (R268). -/
def LinkBlock.ackJobOn (k : LinkBlock) (l : Lane) : Option (Fin 16) :=
  match k.awaiting l with
  | some n => some n
  | none => (k.windowOn l).map (·.slot)

/-- The two lanes' combination meets R213 with the LO at the midpoint (R176). -/
def pairOk (t u : Tuning) : Bool :=
  let f1 : Int := t.centre
  let f2 : Int := u.centre
  lanePairOk ((f1 + f2) / 2) t.mode u.mode f1 f2 t.band u.band

-- Jobs and their ends

def State.job (s : State) (n : Fin 16) : Job := s.link.jobs[n]

def State.setJob (s : State) (n : Fin 16) (j : Job) : State := { s with link.jobs := s.link.jobs.set n j }

/-- The tuning of a started job for a lane that starts now (R230). -/
def State.jobTuning (s : State) (n : Fin 16) : Tuning := (s.job n).tuning s.radio.s3Wide

/-- A job reaches DONE: its result and STAMP are written, its lines go back, the leaf is set; a host job reports to its response and frees its slot (R241, R286). -/
def State.finishWith (s : State) (n : Fin 16) (r : BitVec 4) (moveLines : Bool) : State :=
  let j := s.job n
  let s0 := { s with link.windows := s.link.windows.filter fun w => w.slot != n }
  if j.host then
    let s1 := if moveLines then s0.setOwners j.lines .free else s0
    { s1.setJob n { desc := j.desc } with
      chain.hostDone := s.chain.hostDone ++ [{ tag := j.hostTag, result := r, attempts := j.attempts, late := j.late, stamp := j.stamp }] }
  else
    let d := (j.desc.set 6 (j.stamp.extractLsb' 0 32)).set 7 (j.stamp.extractLsb' 32 32)
    let s1 := s0.setJob n { j with state := .done, result := r, desc := d, phase := .idle }
    ({ s1 with link.toCore := if moveLines then s1.link.toCore ++ j.lines else s1.link.toCore }).setLeaf .linkJobDone

-- Lanes

/-- The body length B of a frame whose header a lane has decoded (R190). -/
def RxFrame.bodyLen (f : RxFrame) : Option Nat := f.header.map fun h => bodyLength h f.mic8

/-- Linear time of the frame end, once B is fixed (R179, R190, R199). -/
def RxFrame.endTime (f : RxFrame) (m : PhyMode) : Option Nat :=
  f.bodyLen.map fun B => linear f.syncDrip f.syncPhase + sectionCycles m B

/-- The frame that a lane holds has ended before linear time `t`, and its verdict is due (R217, R246). -/
def LaneBlock.endedBefore (x : LaneBlock) (t : Nat) : Bool :=
  match x.frame.bind fun f => f.endTime x.mode with
  | some e => decide (e < t)
  | none => false

/-- The tuning of a lane's own job, or of a snapshot that runs on it alone. -/
def State.laneJobTuning (s : State) (l : Lane) : Option Tuning :=
  match (s.lane l).job with
  | some j => some (s.jobTuning j)
  | none => ((s.link.snapshotsOn l).head?).map s.jobTuning

/-- A lane tuned for an acknowledgement gives way to the other one, when the two cannot receive at once, if the other's attempt ended later
(R213, R268; DESIGN CHOICE, assumption 53). -/
def State.ackYields (s : State) (l : Lane) : Bool :=
  match s.link.ackJobOn l, s.link.ackJobOn (otherLane l) with
  | some n, some m =>
    let later (a b : Fin 16) : Bool := (s.link.awaiting (otherLane l) == some b && s.link.awaiting l != some a) ||
      decide ((s.link.windows.map (·.slot)).idxOf a < (s.link.windows.map (·.slot)).idxOf b)
    !pairOk (s.jobTuning n) (s.jobTuning m) && later n m
  | _, _ => false

/-- What a lane is to receive while the radio receives: an acknowledgement first, else its job unless one on the other lane suspends it (R213, R268). -/
def State.wantLane (s : State) (l : Lane) : Option Tuning :=
  match s.link.ackJobOn l with
  | some n => if s.ackYields l then none else some (s.jobTuning n)
  | none =>
    match s.laneJobTuning l, s.link.ackJobOn (otherLane l) with
    | some t, some n => if pairOk t (s.jobTuning n) then some t else none
    | t, _ => t

/-- A lane drops the frame it holds; its lines return to FREE (R216, R228, R259). -/
def State.dropFrame (s : State) (l : Lane) : State :=
  match (s.lane l).frame with
  | none => s
  | some f => (s.setOwners f.lines .free).setLane l { s.lane l with frame := none }

/-- A job that waited for the end of its lane's frame finishes (R242, R255). -/
def State.endAtFrame (s : State) (l : Lane) : State :=
  let x := s.lane l
  match x.ending, x.job with
  | some r, some n => (s.setLane l { x with job := none, ending := none }).finishWith n r true
  | _, _ => s

/-- A lane abandons the frame it holds, with what that ends (R216, R242, R255). -/
def State.letGo (s : State) (l : Lane) : State :=
  if (s.lane l).frame.isSome then (s.dropFrame l).endAtFrame l else s

/-- A lane receives what it is to receive, and does not start over. -/
def State.laneStays (s : State) (restart : Bool) (l : Lane) : Bool :=
  match s.wantLane l with
  | none => false
  | some t => !restart && (s.lane l).stage != .off && (s.lane l).tuning.sameChannel t

/-- A lane is to start, or to change its channel, other than to go on after a use of the radio (R215, R218). -/
def State.laneStarts (s : State) (l : Lane) : Bool :=
  let x := s.lane l
  match s.wantLane l with
  | none => false
  | some t => !((x.stage != .off || x.resume) && x.tuning.sameChannel t)

/-- A lane stops receiving. -/
def State.laneOff (s : State) (l : Lane) : State :=
  let s1 := s.letGo l
  s1.setLane l { s1.lane l with stage := .off, rssi := 0x80, resume := false }

/-- Bring one lane to what it is to receive; `restart` starts detection over on a lane that already receives it (R215, R218, R268). -/
def State.tuneLane (s : State) (restart : Bool) (l : Lane) : State :=
  if s.laneStays restart l then s
  else
    let s1 := s.letGo l
    match s1.wantLane l with
    | none => s1.laneOff l
    | some t => s1.setLane l { s1.lane l with
        stage := .searching, mode := t.mode, channel := t.channel, base := t.base, wide := t.wide, resume := false }

/-- The LO for the lanes that run: the midpoint of two, a half hertz rounded down (DESIGN CHOICE, assumption 54), or 500 kHz below one (R176). -/
def State.placedLo (s : State) : Nat :=
  match (s.lane .a).stage, (s.lane .b).stage with
  | .off, .off => s.radio.loRx
  | .off, _ => (s.lane .b).tuning.centre - 500000
  | _, .off => (s.lane .a).tuning.centre - 500000
  | _, _ => ((s.lane .a).tuning.centre + (s.lane .b).tuning.centre) / 2

/-- A TX job whose attempt has ended and whose window has not opened needs the radio to settle for it (R111). -/
def LinkBlock.holdsRadio (k : LinkBlock) : Bool :=
  k.pendingAck.isSome || !k.windows.isEmpty ||
  (List.finRange 16).any fun i => k.jobs[i].state == .armed || (k.jobs[i].state == .active && k.jobs[i].phase == .awaitWindow)

/-- The synthesizer is on exactly while R111 needs it; off, the LO reads 0. -/
def State.refreshSynth (s : State) : State :=
  let on := (s.lane .a).stage != .off || (s.lane .b).stage != .off || s.radio.use != .receive || s.link.holdsRadio
  { s with
    radio.synthOn := on
    radio.synthFrom := if s.radio.synthOn then s.radio.synthFrom else s.linearNow
    radio.lo := if on then s.radio.lo else 0
    radio.loRx := if on then s.radio.loRx else 0
    radio.loStale := on && s.radio.loStale }

/-- A lane goes on receiving a frame that it holds. -/
def State.laneHolds (s : State) (l : Lane) : Bool := (s.lane l).frame.isSome && s.laneStays false l

/-- Bring both lanes to what they are to receive. When a lane starts, or R176 calls for a new placement, both restart with the LO so placed;
while one of them holds a frame that waits, and so does a lane that starts (R176, R215, R268). After a use of the radio (`back`) the lanes
that received before restart at the placement before it (R218). -/
def State.applyLanes (s : State) (back : Bool) : State :=
  if s.radio.use = .receive then
    let move := s.laneStarts .a || s.laneStarts .b || s.radio.loStale
    let holds (l : Lane) : Bool := !back && s.laneHolds l
    if move && (holds .a || holds .b) then
      let off (s : State) (l : Lane) : State := if s.laneHolds l then s else s.laneOff l
      ({ off (off s .a) .b with radio.loStale := true }).refreshSynth
    else
      let again := back || move
      let s1 := (s.tuneLane again .a).tuneLane again .b
      let lo := if move then s1.placedLo else if back then s1.radio.loRx else s1.radio.lo
      ({ s1 with radio.lo := lo, radio.loRx := lo, radio.loStale := false }).refreshSynth
  else s.refreshSynth

/-- A job that held its lines and perhaps the radio finishes; lanes and synthesizer follow (R241, R111). -/
def State.finishJob (s : State) (n : Fin 16) (r : BitVec 4) : State := (s.finishWith n r true).applyLanes false

/-- A running snapshot of a lane set is cut by a transmission: it keeps the samples taken before (R281). -/
def Job.samplesTaken (j : Job) (now : Nat) : List Word :=
  j.samples.take (min 256 ((now - j.sampleStart) * (j.mode.ksym * 4) / 32000))

/-- The windows whose frame a lane abandons, to be closed as failed attempts (R269). -/
def LinkBlock.syncedWindows (k : LinkBlock) : List (Fin 16) :=
  (k.windows.filter (·.sync)).map (·.slot)

/-- Stop a lane for a use of the radio that begins at linear time `t`. A held frame that has ended by then keeps waiting for its verdict (R217);
another is lost, with LINK.LANE_PREEMPT when `leaf` (R216, R282). -/
def State.stopLane (s : State) (t : Nat) (leaf : Bool) (l : Lane) : State :=
  let x := s.lane l
  let lost := x.frame.isSome && !x.endedBefore t
  let s1 := if lost then s.letGo l else s
  let y := s1.lane l
  (s1.setLane l { y with stage := .off, rssi := 0x80, resume := y.resume || y.stage != .off }).setLeafIf (lost && leaf) .linkLanePreempt

/-- Both lanes stop (R216). -/
def State.stopLanes (s : State) (t : Nat) (leaf : Bool) : State := (s.stopLane t leaf .a).stopLane t leaf .b

/-- Minute of a drip count (R272). -/
def minuteOf (d : BitVec 48) : Nat := d.toNat / 240000

/-- Buckets rolled forward from minute `last` to minute `m`: those of the minutes passed since are zeroed (R272). -/
def rollBuckets (b : Vector Nat 60) (last m : Nat) : Vector Nat 60 :=
  Vector.ofFn fun i =>
    if m ≤ last then b[i]
    else if 60 ≤ m - last then 0
    else if (i.val + 60 - (last + 1) % 60) % 60 < m - last then 0 else b[i]

/-- USED of a sub-band (R272). -/
def SubBand.used (b : SubBand) : Nat := b.buckets.toList.sum

def SubBand.enabled (b : SubBand) : Bool := decide (b.lo.toNat < b.hi.toNat)

/-- Roll every enabled sub-band of the ledger to the minute of drip `d` (R272). -/
def LinkBlock.rollLedger (k : LinkBlock) (d : BitVec 48) : LinkBlock :=
  let m := minuteOf d
  { k with
    subBands := k.subBands.map fun b => { b with buckets := rollBuckets b.buckets k.ledgerMinute m }
    ledgerMinute := max k.ledgerMinute m }

/-- The ledger allows `us` more microseconds in every enabled sub-band that the band overlaps (R273, R274). -/
def LinkBlock.dutyOk (k : LinkBlock) (band : Int × Int) (us : Nat) : Bool :=
  k.subBands.toList.all fun b => !b.enabled || !bandOverlaps b.lo b.hi band || decide (b.used + us ≤ b.limit.toNat)

/-- Charge `us` to the bucket of the ledger's minute in every enabled sub-band that the band overlaps (R273). -/
def LinkBlock.charge (k : LinkBlock) (band : Int × Int) (us : Nat) : LinkBlock :=
  { k with subBands := k.subBands.map fun b =>
      if b.enabled && bandOverlaps b.lo b.hi band then
        { b with buckets := b.buckets.setIfInBounds (k.ledgerMinute % 60) (b.buckets.getD (k.ledgerMinute % 60) 0 + us) }
      else b }

/-- Charge a frame of body length `B` that starts at linear time `start` (R273). -/
def State.chargeFrame (s : State) (t : Tuning) (B start : Nat) : State :=
  { s with link := (s.link.rollLedger (BitVec.ofNat 48 (start / 8000))).charge t.band (airtimeUs t.mode B) }

/-- The ledger allows a frame of body length `B` that starts in this drip (R274). -/
def State.dutyAllows (s : State) (m : PhyMode) (ch B : Nat) : Bool :=
  (s.link.rollLedger s.drip.count).dutyOk (s.radio.band m ch) (airtimeUs m B)

/-- What a transmission puts on air (R184 to R199, R224, R631). -/
def State.mkOnAir (s : State) (kind : TxKind) (tu : Tuning) (sync : Word) (hdr : BitVec 16) (body : List Byte) (poisoned : Bool) (start : Nat) :
    OnAir :=
  let c := frameCrc hdr body
  let crc := if poisoned then ~~~c else c
  { kind := kind, mode := tu.mode, channel := tu.channel, base := tu.base, wide := tu.wide, sync := sync, level := s.txDbm
    header := hdr, body := body, crc := crc, coded := codedSection tu.mode hdr body crc, poisoned := poisoned, start := start }

def OnAir.tuning (t : OnAir) : Tuning := ⟨t.mode, t.channel, t.base, t.wide⟩

/-- The symbols of a transmission in the order on air, as deviations in Hz (R183 to R186). -/
def OnAir.symbols (t : OnAir) : List Int := airSymbols t.wide t.mode t.sync t.coded

/-- Linear time of the frame end of a transmission (R179). -/
def OnAir.endTime (t : OnAir) : Nat := t.start + frameCycles t.mode t.body.length

/-- Linear time of the end of a transmission's ramp-down (R225). -/
def OnAir.downTime (t : OnAir) : Nat := t.endTime + 256

/-- The timestamp of a linear time (R67, R68). -/
def stampOf (t : Nat) : BitVec 64 := timestamp (BitVec.ofNat 48 (t / 8000)) (t % 8000)

end Sys2Proof.Machine
end

