-- ==== Sys2Proof/Machine/Mesh.lean ====
section
/-!
DEFINITION. Istiyn framing, key slots, frame counters, security checks and the replay table (07_istiyn_security.md).
-/
namespace Sys2Proof.Machine

/-- Fields of a MAC header at the start of a body (R291). -/
def macNetid (b : List Byte) : BitVec 16 := BitVec.ofNat 16 (natAt b 0 2)
def macDest (b : List Byte) : BitVec 16 := BitVec.ofNat 16 (natAt b 2 2)
def macSrc (b : List Byte) : BitVec 16 := BitVec.ofNat 16 (natAt b 4 2)
def macSeq (b : List Byte) : Byte := byteAt b 6
def macTtl (b : List Byte) : Byte := byteAt b 7
def macCtrl (b : List Byte) : Byte := byteAt b 8
def ctrlMic8 (c : Byte) : Bool := c.getLsbD 2
def ctrlKslot (c : Byte) : Fin 8 := (c.extractLsb' 3 3).toFin
def ctrlEpochLsb (c : Byte) : BitVec 2 := c.extractLsb' 6 2

/-- The frame's network identifier matches (R289). -/
def MeshBlock.netMatches (m : MeshBlock) (body : List Byte) : Bool := macNetid body == m.netid

/-- The node has an own address (R290). -/
def MeshBlock.hasAddr (m : MeshBlock) : Bool := m.addr != 0 && m.addr != 0xFFFF

/-- The frame's destination is the node's own address (R289, R290). -/
def MeshBlock.toMe (m : MeshBlock) (body : List Byte) : Bool := m.hasAddr && macDest body == m.addr

/-- MS_KEYSTATn.FC_END (R319). -/
def KeySlot.fcEnd (k : KeySlot) : Bool := k.next == 0xFFFFFFFF#32

/-- A draw is possible (R313). -/
def KeySlot.hasValue (k : KeySlot) : Bool := decide (k.next < k.lease)

/-- Values left in the lease. -/
def KeySlot.left (k : KeySlot) : Nat := k.lease.toNat - k.next.toNat

/-- Take the next counter value; at 256 or fewer left, request a lease unless one is asked for or the lease cannot grow (R300, R314, R319). -/
def KeySlot.draw (k : KeySlot) : Word × KeySlot :=
  let k1 := { k with next := if k.fcEnd then k.next else k.next + 1 }
  (k.next, { k1 with leaseReq := k1.leaseReq || (decide (k1.left ≤ 256) && k1.lease != 0xFFFFFFFF#32) })

def State.setKeySlot (s : State) (n : Fin 8) (k : KeySlot) : State := { s with mesh.slots := s.mesh.slots.set n k }

/-- Draw a slot's counter; reaching the end sets MESH.FC_END (R319). -/
def State.drawCounter (s : State) (n : Fin 8) : Word × State :=
  let r := (s.mesh.slots[n]).draw
  (r.1, (s.setKeySlot n r.2).setLeafIf r.2.fcEnd .meshFcEnd)

/-- What the key and counter checks of R247 say of a secured job's slot. -/
inductive KeyCheck where
  | ready
  | noKey
  | fcEnd
  /-- The lease is used up and a grant may come (R317). -/
  | waits
  deriving DecidableEq, Repr

/-- The key-slot and frame-counter checks of R247, with R318 and R320. -/
def KeySlot.check (k : KeySlot) : KeyCheck :=
  if k.cur.isNone then .noKey
  else if k.fcEnd then .fcEnd
  else if k.hasValue then .ready
  else if k.leaseFail || k.lease == 0xFFFFFFFF#32 then .fcEnd
  else .waits

/-- A waiting job causes a lease request when none is outstanding (R314, R317). -/
def KeySlot.askLease (k : KeySlot) : KeySlot :=
  { k with leaseReq := k.leaseReq || k.lease != 0xFFFFFFFF#32 }

/-- CTRL as sent (R293). -/
def sentCtrl (ctrl : Byte) (secure mic8 : Bool) (slot : Fin 8) (epoch : BitVec 16) : Byte :=
  let ty := ctrl &&& 0x03#8
  if secure then
    ty ||| (if mic8 then 0x04#8 else 0) ||| (BitVec.ofNat 8 slot.val <<< 3) ||| ((epoch.extractLsb' 0 2).setWidth 8 <<< 6)
  else ty

/-- The MAC header as sent: the line's bytes with CTRL replaced (R293). -/
def sentMac (line : List Byte) (ctrl : Byte) : List Byte := line.take 8 ++ [ctrl] ++ (line.drop 9).take 1

/-- The CCM nonce (R297). -/
def ccmNonce (mac fc : List Byte) (epoch : BitVec 16) : List Byte :=
  (mac.drop 4).take 2 ++ fc ++ leBytes 2 epoch.toNat ++ mac.take 2 ++
    [BitVec.ofNat 8 (ctrlKslot (macCtrl mac)).val ||| (if ctrlMic8 (macCtrl mac) then 0x08#8 else 0), 0x00#8, 0x00#8]

/-- The associated data: the MAC header with TTL 0, then FC (R296). -/
def ccmAad (mac fc : List Byte) : List Byte := mac.take 7 ++ [0x00#8] ++ (mac.drop 8).take 2 ++ fc

/-- The body of a secured frame (R295, R296). -/
def secureBody (mac : List Byte) (fc : Word) (payload : List Byte) (key : BitVec 128) (epoch : BitVec 16) : List Byte :=
  let f := wordBytes fc
  let r := ccmSeal (bytes16 key) (ccmNonce mac f epoch) (ccmAad mac f) payload (micLen (ctrlMic8 (macCtrl mac)))
  mac ++ f ++ r.1 ++ r.2

/-- Security results of R303, bits [6:0]. -/
inductive SecStat where
  | none
  | ok
  | okFirst
  | micFail
  | noKey
  | epochUnknown
  | replay
  | stale
  | counterEnd
  deriving DecidableEq, Repr

def SecStat.code : SecStat → Byte
  | .none => 0x00
  | .ok => 0x01
  | .okFirst => 0x02
  | .micFail => 0x03
  | .noKey => 0x04
  | .epochUnknown => 0x05
  | .replay => 0x06
  | .stale => 0x07
  | .counterEnd => 0x08

/-- The leaf that a result sets, given whether DUP is set in the record (R303). -/
def SecStat.leaf (dup : Bool) : SecStat → Option Leaf
  | .micFail => some .meshMicFail
  | .noKey => some .meshKeyMiss
  | .epochUnknown => some .meshKeyMiss
  | .replay => if dup then Option.none else some .meshRxReject
  | .stale => if dup then Option.none else some .meshRxReject
  | .counterEnd => some .meshRxReject
  | _ => Option.none

/-- Which key of a slot serves a frame's EPOCH_LSB, and whether it is the previous one (R302 step 1). -/
def selectKey (cur prev : Option (BitVec 128 × BitVec 16)) (lsb : BitVec 2) : Except SecStat ((BitVec 128 × BitVec 16) × Bool) :=
  match cur with
  | none => .error .noKey
  | some c =>
    if c.2.extractLsb' 0 2 = lsb then .ok (c, false)
    else match prev with
      | some p => if p.2.extractLsb' 0 2 = lsb then .ok (p, true) else .error .epochUnknown
      | none => .error .epochUnknown

/-- The window after accepting counter `c` (R323). -/
def replayShift (w hc c : Word) : Word :=
  if 32 ≤ c.toNat - hc.toNat then 1#32 else (w <<< (c.toNat - hc.toNat)) ||| 1#32

/-- One entry against an authenticated counter (R323). -/
def ReplayEntry.check (e : ReplayEntry) (epoch : BitVec 16) (c : Word) : SecStat × ReplayEntry :=
  if e.epoch < epoch then (.okFirst, { e with epoch := epoch, hc := c, window := 1 })
  else if epoch < e.epoch then (.stale, e)
  else if e.hc < c then (.ok, { e with hc := c, window := replayShift e.window e.hc c })
  else if e.hc.toNat - c.toNat ≤ 31 then
    if e.window.getLsbD (e.hc.toNat - c.toNat) then (.replay, e)
    else (.ok, { e with window := e.window ||| (1#32 <<< (e.hc.toNat - c.toNat)) })
  else (.stale, e)

/-- Index of the entry with the oldest last-update drip, the lowest-numbered on a tie (R324). -/
def oldestEntry : List ReplayEntry → Nat
  | [] => 0
  | e :: es =>
    match es with
    | [] => 0
    | _ => if es.all fun x => decide (e.drip ≤ x.drip) then 0 else 1 + oldestEntry es

/-- The replay check of one frame, with insertion and eviction (R323, R324). -/
def State.replayCheck (s : State) (src : BitVec 16) (slot : Nat) (epoch : BitVec 16) (c : Word) : SecStat × State :=
  match s.mesh.replay.findIdx? fun e => e.src == src && e.slot == slot with
  | some i =>
    match s.mesh.replay[i]? with
    | some e =>
      let r := e.check epoch c
      (r.1, { s with mesh.replay := s.mesh.replay.set i { r.2 with drip := s.drip.count } })
    | none => (.okFirst, s)
  | none =>
    let e : ReplayEntry := { src := src, slot := slot, epoch := epoch, hc := c, window := 1, drip := s.drip.count }
    if s.mesh.replay.length < 128 then (.okFirst, { s with mesh.replay := s.mesh.replay ++ [e] })
    else
      (.okFirst, ({ s with mesh.replay := s.mesh.replay.set (oldestEntry s.mesh.replay) e,
                           mesh.evicts := satInc s.mesh.evicts }).setLeaf .meshReplayEvict)

/-- The checks of R302 on a secured body; the answer is the result, whether the previous key served, and the plaintext when it is kept. -/
def State.securityResult (s : State) (f : CheckFrame) : SecStat × Bool × Option (List Byte) × State :=
  let mac := f.body.take 10
  let fcb := (f.body.drop 10).take 4
  let fc := wordAt fcb 0
  match selectKey f.cur f.prev (ctrlEpochLsb (macCtrl mac)) with
  | .error e => (e, false, none, s)
  | .ok ((key, epoch), old) =>
    if fc = 0xFFFFFFFF#32 then (.counterEnd, old, none, s)
    else
      let m := micLen (ctrlMic8 (macCtrl mac))
      let rest := f.body.drop 14
      match ccmOpen (bytes16 key) (ccmNonce mac fcb epoch) (ccmAad mac fcb) (rest.take (rest.length - m)) (rest.drop (rest.length - m)) with
      | none => (.micFail, old, none, s)
      | some plain =>
        let r := s.replayCheck (macSrc mac) (ctrlKslot (macCtrl mac)).val epoch fc
        match r.1 with
        | .ok => (.ok, old, some plain, r.2)
        | .okFirst => (.okFirst, old, some plain, r.2)
        | st => (st, old, none, r.2)

/-- A frame passes to the core or to the chain port (R261). -/
def State.deliver (s : State) (lines : List Nat) : State :=
  if s.link.rxAuto then
    ({ (s.setOwners lines .chain) with chain.takeQueue := s.chain.takeQueue ++ lines.take 1 }).setLeaf .chainFrameReady
  else
    ({ s with link.toCore := s.link.toCore ++ lines, link.rxqNext := s.link.rxqNext ++ lines.take 1 }).setLeaf .linkRxFrame

/-- A frame delivered counts for the receiving job (R288 FRAMES). -/
def State.countFrame (s : State) (n : Option (Fin 16)) : State :=
  match n with
  | some n => s.setJob n { s.job n with frames := min 65535 ((s.job n).frames + 1) }
  | none => s

/-- SECURITY_CHECK: the oldest delivered secured frame gets its SECSTAT, its payload is rewritten, and it is handed over (R301 to R304). -/
def State.securityCheck (s : State) : State :=
  match s.link.checking with
  | [] => s
  | f :: fs =>
    let s0 := { s with link.checking := fs }
    let (st, old, plain, s1) := s0.securityResult f
    let n := f.body.length - 14 - micLen (ctrlMic8 (macCtrl f.body))
    let s2 := s1.writeLines f.lines 1 [st.code ||| (if old then 0x80#8 else 0)]
    let s3 := s2.writeLines f.lines (32 + 14) (plain.getD (List.replicate n 0#8))
    let s4 := match st.leaf f.dup with
      | some l => s3.setLeaf l
      | none => s3
    (s4.deliver f.lines).countFrame f.job

/-- SECURITY_CHECK (R302). -/
def execSecurityCheck (s : State) : Out := ok s.securityCheck

end Sys2Proof.Machine
end

