-- ==== Sys2Proof/Machine/Jobs.lean ====
section
/-!
DEFINITION. Air jobs: acceptance, arming, transmission with acknowledgement and retry, receiving, snapshot and calibration jobs (06, 1 to 4 and 7).
-/
namespace Sys2Proof.Machine

/-- Result codes of R240. -/
def resPending : BitVec 4 := 0x0
def resDone : BitVec 4 := 0x1
def resNoAck : BitVec 4 := 0x2
def resDuty : BitVec 4 := 0x3
def resChannelRange : BitVec 4 := 0x4
def resLaneConflict : BitVec 4 := 0x5
def resOutOfBand : BitVec 4 := 0x6
def resModeBlocked : BitVec 4 := 0x7
def resBadDesc : BitVec 4 := 0x8
def resCancelled : BitVec 4 := 0x9
def resRfAbort : BitVec 4 := 0xA
def resFcEnd : BitVec 4 := 0xB
def resNoKey : BitVec 4 := 0xC
def resPreempted : BitVec 4 := 0xD

/-- Slots of the host range: H of them from the top (R232), or a host job not yet finished (R287). -/
def LinkBlock.hostRange (k : LinkBlock) (n : Fin 16) : Bool :=
  let h := if k.txEn then k.hslots.toNat else 0
  decide (16 - h ≤ n.val) || (k.jobs[n].host && k.jobs[n].state != .free)

/-- The conditions of R238, with the owner its lines must have (R286). -/
def State.badDesc (s : State) (j : Job) (host : Bool) : Bool :=
  let need : Owner := if host then .chain else .core
  let badLines := j.lines.any fun n => decide (127 < n) || s.link.ownerOf n != need
  s.link.ucodeGen == 0 || decide (7999 < j.offset) ||
  match j.kind with
  | none => true
  | some .tx => j.length == 0 || badLines
  | some .rx => host || j.param == 0
  | some .listen => host
  | some .relay => host || j.threshold == 0 || decide (4 < j.threshold)
  | some .cal => host
  | some .snapshot => host || badLines

/-- LCLK cycles of lead that a start with LO target `lo` needs; a synthesizer turned on at this very instant counts as off (R244; DEDUCED,
assumption 42). -/
def State.lead (s : State) (lo : Nat) : Nat :=
  if !s.radio.synthOn || s.radio.synthFrom == s.linearNow then 4096
  else if (max lo s.radio.lo) - (min lo s.radio.lo) ≤ 2000000 then 1536
  else 2816

/-- An armed RX or LISTEN job of a lane that starts at linear time `t` or before. -/
def LinkBlock.armedOn (k : LinkBlock) (l : Lane) (t : Nat) : Option (Fin 16) :=
  (List.finRange 16).find? fun i =>
    let j := k.jobs[i]
    j.state == .armed && (j.kind == some .rx || j.kind == some .listen) && j.lane == l && decide (linear j.startDrip j.startOffset ≤ t)

/-- What a lane receives at a later linear time: its own job unless its window has ended by then, else one that is armed to start (R244). -/
def State.laneAt (s : State) (l : Lane) (t : Nat) : Option Tuning :=
  let armed := (s.link.armedOn l t).map fun n => s.radio.tuningNow (s.job n).mode (s.job n).channel
  match (s.lane l).job with
  | some n => if (s.job n).kind == some .rx && decide (linear (s.job n).endDrip (s.job n).startOffset ≤ t) then armed else some (s.lane l).tuning
  | none => armed

/-- The LO a job's start at linear time `t` needs: its channel centre, or the placement of R176 for the lanes that run after it (R244). -/
def State.targetLo (s : State) (j : Job) (t : Nat) : Nat :=
  let c := s.radio.centre j.mode j.channel
  match j.kind with
  | some .tx => c
  | some .cal => c
  | _ =>
    match s.laneAt (otherLane j.lane) t with
    | none => c - 500000
    | some o => (c + o.centre) / 2

/-- A snapshot of a lane that already receives its channel and mode taps it, and starts no lane (R244, R281). -/
def State.taps (s : State) (j : Job) : Bool :=
  let x := s.lane j.lane
  j.kind == some .snapshot && x.stage != .off && x.mode == j.mode && x.channel == j.channel

/-- Arm a job for a linear start instant; too little lead moves the start to the earliest instant the radio reaches, with LATE (R243, R244). A
RELAY policy starts at its OFFSET into the drip too (R237; DESIGN CHOICE, assumption 60). -/
def State.armJob (s : State) (n : Fin 16) (start : Nat) (late : Bool) : State :=
  let j := s.job n
  let lo := s.targetLo j start
  let lead := if j.kind == some .relay || s.taps j then 0 else s.lead lo
  let earliest := s.linearNow + lead
  let t := max start earliest
  let s1 := s.setJob n { j with
    state := .armed
    late := j.late || late || decide (start < earliest)
    startDrip := BitVec.ofNat 48 (t / 8000)
    startOffset := t % 8000 }
  ({ s1 with radio.lo := if s.radio.lo = 0 then lo else s.radio.lo }).refreshSynth

/-- A job waits for a LINK_TRIG pulse (R560). -/
def Job.waitsTrigger (j : Job) : Bool :=
  j.state == .queued && !j.host && !j.isNow && j.start == 0xFFFFFFFFFFFF#48

/-- Accept a job into a FREE slot: checks, its lines pass to LINK, and it is queued or armed (R234, R235, R243). -/
def State.acceptJob (s : State) (n : Fin 16) (host : Bool) (tag : Nat) : State :=
  let d := (s.job n).desc
  let j : Job := { desc := d, state := .queued, host := host, hostTag := tag }
  let s1 := s.setJob n j
  if s.badDesc j host then s1.finishWith n resBadDesc (host && j.kind == some .tx)
  else
    let s2 := s1.setOwners j.lines .link
    let start := if j.isNow then s.drip.count else j.start
    if start ≤ s.drip.count then
      s2.armJob n (linear s.drip.count j.offset) (decide (start < s.drip.count))
    else s2

/-- The slice that finishes at cycle 7,600 arms every queued job whose start drip is the next one; one that a discarded slice left behind starts in the next drip, late (R87, R90, R243). -/
def State.sliceArm (s : State) : State :=
  (List.finRange 16).foldl (fun s n =>
    let j := s.job n
    let nextDrip := s.drip.count.toNat + 1
    if j.state = .queued && !j.waitsTrigger && decide (j.start.toNat ≤ nextDrip) then
      s.armJob n (nextDrip * 8000 + j.offset) (decide (j.start.toNat < nextDrip))
    else s) s

/-- The start instant of an armed job, or the retry instant of a backing-off one, has come (R243, R251). -/
def Job.due (j : Job) (now : Nat) : Bool := decide (linear j.startDrip j.startOffset ≤ now)

/-- The mode forbids transmissions other than ACKs (R130, R240). -/
def State.txBlocked (s : State) : Bool := s.power.mode == .service || s.power.mode == .sump

/-- An attempt's window ends: the job is done, retried, cancelled or out of retries; the LO is placed by R176 again and detection restarts (R251,
R268 to R270, R242). -/
def State.closeWindow (s : State) (n : Fin 16) (matched : Bool) : State :=
  let s0 := { s with link.windows := s.link.windows.filter fun w => w.slot != n, radio.loStale := s.radio.synthOn }
  let j := s.job n
  if matched then s0.finishJob n resDone
  else if j.cancelled then s0.finishJob n resCancelled
  else if j.attempts ≤ j.retries then
    let k := j.attempts
    let (b, s1) := s0.draw (2 ^ min k 6)
    (s1.setJob n { j with phase := .backoff, retryDrip := s.drip.count + BitVec.ofNat 48 (b + 1) }).applyLanes false
  else s0.finishJob n resNoAck

/-- Every window whose found frame is abandoned closes as a failed attempt (R269). -/
def State.failSyncedWindows (s : State) (l : Lane) : State :=
  (s.link.syncedWindows.filter fun n => (s.job n).lane == l).foldl (fun s n => s.closeWindow n false) s

/-- Snapshots that a transmission cuts keep the samples taken before it and end with PREEMPTED (R281). -/
def State.cutSnapshots (s : State) : State :=
  (s.link.snapshotsOn .a ++ s.link.snapshotsOn .b).foldl (fun s n =>
    let j := s.job n
    (s.writeLines j.lines 0 (wordsToBytes (j.samplesTaken s.linearNow))).finishWith n resPreempted true) s

/-- A use of the radio that begins at linear time `t` stops both lanes; the windows whose frame is lost fail (R216, R269, R282). -/
def State.takeRadio (s : State) (t : Nat) (use : RadioUse) (lo : Nat) : State :=
  let lost (l : Lane) : Bool := (s.lane l).frame.isSome && !(s.lane l).endedBefore t
  let s1 := (s.stopLanes t true).cutSnapshots
  let s2 := { s1 with radio.use := use, radio.lo := lo, radio.synthOn := true }
  let s3 := if lost .a then s2.failSyncedWindows .a else s2
  if lost .b then s3.failSyncedWindows .b else s3

/-- A transmission takes the radio at linear time `from_`: both lanes stop, frames in progress are lost, snapshots are cut, its airtime is charged,
and one from RF_HP holds ANT_SEL high (R156, R216, R273, R281). -/
def State.beginTx (s : State) (t : OnAir) (from_ : Nat) : State :=
  let s1 := (s.takeRadio from_ (.transmit t) t.tuning.centre).chargeFrame t.tuning t.body.length t.start
  if usesHp t.level then { s1 with radio.antUntil := t.downTime + 128 } else s1

/-- A transmission leaves the radio: the lanes return to what they receive (R218). -/
def State.endTx (s : State) : State :=
  match s.radio.use with
  | .transmit t => ({ s with radio.use := .receive, radio.lastTx := some t }).applyLanes true
  | _ => s

/-- A relay or a beacon whose ramp-down has ended by linear time `now` leaves the radio and is counted (R218, R767, R901; assumption 8). -/
def State.settleTx (s : State) (now : Nat) : State :=
  match s.radio.use with
  | .transmit t =>
    if now < t.downTime then s
    else match t.kind with
      | .relay => ({ s with link.evRelays := s.link.evRelays + 1 }).endTx.pulse 14
      | .beacon => ({ s with link.evSent := s.link.evSent + 1 }).endTx
      | _ => s
  | _ => s

/-- The instant of an event of the radio within its drip; a relay or beacon that has ended by then has left the antenna. -/
def State.reach (s : State) (p : Nat) : State := (s.atPhase p).settleTx (s.atPhase p).linearNow

/-- The state at an instant in linear time that the radio's own timing fixes: none while that lies in a later drip. -/
def State.reachTime (s : State) (t : Nat) : Option State :=
  if t / 8000 ≤ s.drip.count.toNat then some (s.reach (if t / 8000 < s.drip.count.toNat then 0 else t % 8000)) else none

/-- The body of a TX job's frame from its lines, secured with the job's drawn counter and key (R248, R293, R295). -/
def State.txBody (s : State) (j : Job) : List Byte :=
  let raw := s.readLines j.lines 0 (10 + j.length)
  let mac := sentMac raw (sentCtrl (byteAt raw 8) j.secure j.mic8 j.keySlot j.epoch)
  match j.counter with
  | some fc => secureBody mac fc (raw.drop 10) j.key j.epoch
  | none => mac ++ raw.drop 10

/-- Put an attempt on air: frame from the lines with their checks verified afresh, complemented CRC once a check has failed (R249, R252, R631). -/
def State.sendAttempt (s : State) (n : Fin 16) : State :=
  let j := s.job n
  let bad := j.poisoned || j.lines.any fun l => !s.lineGood l
  let body := s.txBody j
  let hdr := mkPhyHeader j.length j.ackReq j.relayF j.secure false
  let t := s.mkOnAir (.job n) (s.radio.tuningNow j.mode j.channel) (s.radio.syncWord j.lane) hdr body bad s.linearNow
  let j1 := { j with state := .active, phase := .onAir, attempts := min 8 (j.attempts + 1), poisoned := bad, seq := macSeq body, crc := t.crc, base := s.radio.base }
  (((s.setJob n j1).setLeafIf bad .linkTxPoison).beginTx t s.linearNow).pulse 15

/-- The body length of a TX job's frame (R190). -/
def Job.bodyLen (j : Job) : Nat := if j.secure then 14 + micLen j.mic8 + j.length else 10 + j.length

/-- Insert a key into the duplicate cache, evicting the oldest of 64 (R278). -/
def LinkBlock.dupInsert (k : LinkBlock) (key : BitVec 16 × Byte) : LinkBlock :=
  if k.dupCache.contains key then k
  else { k with dupCache := (if 64 ≤ k.dupCache.length then k.dupCache.drop 1 else k.dupCache) ++ [key] }

/-- The first checks of R247 that need no key: mode, band, fence. -/
def State.firstChecks (s : State) (j : Job) : Option (BitVec 4) :=
  if s.txBlocked then some resModeBlocked
  else if !bandInRange (s.radio.band j.mode j.channel) then some resChannelRange
  else if !s.radio.inFence j.mode j.channel then some resOutOfBand
  else none

/-- The duty check and the send, shared by first attempts and retries (R247, R274). -/
def State.dutyAndSend (s : State) (n : Fin 16) : State :=
  let j := s.job n
  if s.dutyAllows j.mode j.channel j.bodyLen then s.sendAttempt n
  else (s.setLeaf .linkDuty).finishJob n resDuty

/-- After the duty check of a first attempt, draw the counter and enter a relayed key in the cache (R247, R253, R299). -/
def State.firstSend (s : State) (n : Fin 16) : State :=
  let j := s.job n
  if !s.dutyAllows j.mode j.channel j.bodyLen then (s.setLeaf .linkDuty).finishJob n resDuty
  else
    let s1 :=
      if j.secure then
        match (s.mesh.slots[j.keySlot]).cur with
        | some (key, epoch) =>
          let (fc, s2) := s.drawCounter j.keySlot
          s2.setJob n { j with counter := some fc, key := key, epoch := epoch }
        | none => s
      else s
    let raw := s.readLines j.lines 0 10
    let s3 := if j.relayF then { s1 with link := s1.link.dupInsert (macSrc raw, macSeq raw) } else s1
    s3.sendAttempt n

/-- A lane's frame has ended and its verdict is due (R246). -/
def State.verdictDue (s : State) : Bool := (s.lane .a).endedBefore (s.linearNow + 1) || (s.lane .b).endedBefore (s.linearNow + 1)

/-- The radio is free for a TX or CAL job (R245, R246). -/
def State.radioFree (s : State) : Bool :=
  s.radio.use == .receive && s.link.pendingAck.isNone && !s.verdictDue && decide (s.radio.quietUntil ≤ s.linearNow)

/-- The instant of the next attempt or calibration of a TX or CAL job; one that waits for a grant has none (R243, R251, R317). -/
def State.startTime (s : State) (n : Fin 16) : Option Nat :=
  let j := s.job n
  if j.kind != some .tx && j.kind != some .cal then none
  else if j.state == .armed && !(j.phase == .waitGrant && (s.mesh.slots[j.keySlot]).check == .waits) then
    some (linear j.startDrip j.startOffset)
  else if j.state == .active && j.phase == .backoff then some (linear j.retryDrip j.offset)
  else none

/-- A TX or CAL job whose instant has come. -/
def State.startDue (s : State) (n : Fin 16) : Bool :=
  match s.startTime n with
  | some t => decide (t ≤ s.linearNow)
  | none => false

/-- Of the jobs that are due, the one with the earlier start instant comes first, and on a tie the lower slot (R245). -/
def State.comesFirst (s : State) (n : Fin 16) : Bool :=
  match s.startTime n with
  | none => false
  | some t => (List.finRange 16).all fun m =>
    match s.startTime m with
    | none => true
    | some u => decide (t < u) || (t == u && decide (n ≤ m))

/-- LATE is set when a job starts after its programmed instant, a retry after its own (R245, R251, R317). -/
def State.markLate (s : State) (n : Fin 16) : State :=
  let j := s.job n
  let t := if j.phase == .backoff then linear j.retryDrip j.offset else linear j.startDrip j.startOffset
  s.setJob n { j with late := j.late || decide (t < s.linearNow) }

/-- The first attempt of an armed TX job; the lanes stop at the start instant, when its checks have passed (R216, R247, R299, R317; DESIGN CHOICE,
assumption 55). -/
def State.startTx (s : State) (n : Fin 16) : State :=
  let s := s.markLate n
  let j := s.job n
  match s.firstChecks j with
  | some r => s.finishJob n r
  | none =>
    if !j.secure then s.firstSend n
    else
      match (s.mesh.slots[j.keySlot]).check with
      | .noKey => s.finishJob n resNoKey
      | .fcEnd => (s.setLeaf .meshFcEnd).finishJob n resFcEnd
      | .ready => s.firstSend n
      | .waits =>
        (s.setKeySlot j.keySlot (s.mesh.slots[j.keySlot]).askLease).setJob n { j with phase := .waitGrant }

/-- TX_ATTEMPT_START (R247). -/
def execTxAttemptStart (slot : Fin 16) (phase : Fin 8000) (s : State) : Out :=
  let t := s.reach phase
  let j := t.job slot
  ok (whenDo (j.kind == some .tx && j.state == .armed && j.due t.linearNow && t.radioFree && t.comesFirst slot) t (t.startTx slot))

/-- The end of an attempt's ramp-down (R236, R250, R242, R901). -/
def State.endAttempt (s : State) (n : Fin 16) (t : OnAir) : State :=
  let s1 := { s with link.evSent := s.link.evSent + 1 }
  let j : Job := { s1.job n with stamp := stampOf t.endTime }
  let s2 := (s1.setJob n { j with phase := if j.ackReq then .awaitWindow else .idle }).endTx.pulse 16
  if j.ackReq then s2 else s2.finishJob n resDone

/-- TX_ATTEMPT_END (R250). -/
def execTxAttemptEnd (slot : Fin 16) (s : State) : Out :=
  ok (match s.radio.use with
    | .transmit t => whenDo (t.kind == .job slot) s (s.endAttempt slot t)
    | _ => s)

/-- ACK_WINDOW_OPEN: the job's lane is tuned to the job's channel and mode (R268). -/
def execAckWindowOpen (slot : Fin 16) (s : State) : Out :=
  let j := s.job slot
  let s1 := s.setJob slot { j with phase := .window }
  let s2 := { s1 with link.windows := s1.link.windows ++ [AckWindow.mk slot false] }
  ok (whenDo (j.state == .active && j.phase == .awaitWindow) s (s2.applyLanes false))

/-- ACK_WINDOW_CLOSE: no sync was found in time (R269). -/
def execAckWindowClose (slot : Fin 16) (s : State) : Out :=
  ok (whenDo (s.link.windows.any fun w => w.slot == slot && !w.sync) s (s.closeWindow slot false))

/-- A retry: the same frame again after the duty check alone, LATE when it was deferred; in SERVICE nothing but ACKs is sent, and the job ends (R130,
R245, R247, R251, R252; DEDUCED, assumption 42). -/
def State.retry (s : State) (n : Fin 16) : State :=
  if s.txBlocked then s.finishJob n resModeBlocked else (s.markLate n).dutyAndSend n

/-- RETRY_START (R251). -/
def execRetryStart (slot : Fin 16) (phase : Fin 8000) (s : State) : Out :=
  let t := s.reach phase
  let j := t.job slot
  ok (whenDo (j.state == .active && j.phase == .backoff && decide (linear j.retryDrip j.offset ≤ t.linearNow) && t.radioFree && t.comesFirst slot) t
    (t.retry slot))

/-- Start an armed RX or LISTEN job's lane; an RX window ends its length in drips after the start instant (R174, R213, R214, R254, R255). -/
def State.startLane (s : State) (n : Fin 16) : State :=
  let s := s.markLate n
  let j : Job := { s.job n with base := s.radio.base }
  let x := s.lane j.lane
  let o := s.lane (otherLane j.lane)
  if !bandInRange (s.radio.band j.mode j.channel) then s.finishJob n resChannelRange
  else if x.job.isSome then s.finishJob n resLaneConflict
  else if o.stage != .off && !pairOk (j.tuning s.radio.s3Wide) o.tuning then s.finishJob n resLaneConflict
  else
    let s1 := s.setJob n { j with
      state := .active
      startDrip := s.drip.count, startOffset := s.drip.phase
      endDrip := s.drip.count + BitVec.ofNat 48 j.param }
    (s1.setLane j.lane { x with job := some n, ending := none }).applyLanes false

/-- No lane is tuned for an acknowledgement (R268). -/
def LinkBlock.noAckJob (k : LinkBlock) : Bool := (k.ackJobOn .a).isNone && (k.ackJobOn .b).isNone

/-- A lane may start now: the radio receives, no lane is tuned for an acknowledgement, and the other lane holds no frame (R215, R268) (DEDUCED,
assumption 42). -/
def State.laneMayStart (s : State) (l : Lane) : Bool :=
  s.radio.use == .receive && s.link.noAckJob && (s.lane (otherLane l)).frame.isNone

/-- LANE_START (R215). -/
def execLaneStart (slot : Fin 16) (phase : Fin 8000) (s : State) : Out :=
  let t := s.reach phase
  let j := t.job slot
  ok (whenDo ((j.kind == some .rx || j.kind == some .listen) && j.state == .armed && j.due t.linearNow && t.laneMayStart j.lane) t
    (t.startLane slot))

/-- A receiving job ends now, or at the verdict of the frame its lane holds (R242, R255). -/
def State.endReceiving (s : State) (n : Fin 16) (r : BitVec 4) : State :=
  let l := (s.job n).lane
  let x := s.lane l
  if x.frame.isSome then s.setLane l { x with ending := some r }
  else (s.setLane l { x with job := none, ending := none }).finishJob n r

/-- RX_WINDOW_END: the window length after the start instant (R255). -/
def execRxWindowEnd (slot : Fin 16) (s : State) : Out :=
  ok (match s.reachTime (linear (s.job slot).endDrip (s.job slot).startOffset) with
    | none => s
    | some t =>
      let j := t.job slot
      whenDo (j.kind == some .rx && j.state == .active && (t.lane j.lane).job == some slot) t (t.endReceiving slot resDone))

/-- RELAY_POLICY_START (R277, R254, R130). -/
def State.startPolicy (s : State) (n : Fin 16) : State :=
  let s := s.markLate n
  let j := s.job n
  let x := s.lane j.lane
  if s.txBlocked then s.finishJob n resModeBlocked
  else if !bandInRange (s.radio.band j.mode j.channel) then s.finishJob n resChannelRange
  else if x.policy.isSome then s.finishJob n resLaneConflict
  else ((s.setJob n { j with state := .active }).setLane j.lane { x with policy := some n }).refreshSynth

def execRelayPolicyStart (slot : Fin 16) (phase : Fin 8000) (s : State) : Out :=
  let t := s.reach phase
  let j := t.job slot
  ok (whenDo (j.kind == some .relay && j.state == .armed && j.due t.linearNow && t.link.reloadEdge.isNone) t (t.startPolicy slot))

/-- SNAPSHOT_START: tap the lane, or start it when nothing serves it; a job of another channel or mode on the lane is a conflict, suspended or
not (R281). -/
def State.startSnapshot (s : State) (n : Fin 16) (samples : List Word) : State :=
  let s := s.markLate n
  let j : Job := { s.job n with base := s.radio.base }
  let x := s.lane j.lane
  let o := s.lane (otherLane j.lane)
  let serves := match s.laneJobTuning j.lane with
    | some t => t.mode != j.mode || t.channel != j.channel
    | none => x.stage != .off && (x.mode != j.mode || x.channel != j.channel)
  if !bandInRange (s.radio.band j.mode j.channel) then s.finishJob n resChannelRange
  else if !s.taps j && serves then s.finishJob n resLaneConflict
  else if x.stage == .off && o.stage != .off && !pairOk (j.tuning s.radio.s3Wide) o.tuning then s.finishJob n resLaneConflict
  else (s.setJob n { j with state := .active, samples := samples, sampleStart := s.linearNow }).applyLanes false

/-- A snapshot that starts its lane waits as a lane start does (R215, R268, R281). -/
def execSnapshotStart (slot : Fin 16) (samples : List Word) (phase : Fin 8000) (s : State) : Out :=
  let t := s.reach phase
  let j := t.job slot
  ok (whenDo (j.kind == some .snapshot && j.state == .armed && j.due t.linearNow && t.radio.use == .receive && (t.taps j || t.laneMayStart j.lane)) t
    (t.startSnapshot slot samples))

/-- SNAPSHOT_END: 256 samples, 4 bytes each, fill the job's 8 lines in order (R223, R281). -/
def execSnapshotEnd (slot : Fin 16) (s : State) : Out :=
  let j := s.job slot
  ok (whenDo (j.kind == some .snapshot && j.state == .active) s
    ((s.writeLines j.lines 0 (wordsToBytes (j.samples.take 256))).finishJob slot resDone))

/-- CAL_JOB_START: both lanes stop as for a transmission (R282, R130). -/
def State.startCal (s : State) (n : Fin 16) : State :=
  let s := s.markLate n
  let j := s.job n
  if s.txBlocked then s.finishJob n resModeBlocked
  else if !bandInRange (s.radio.band j.mode j.channel) then s.finishJob n resChannelRange
  else
    (s.setJob n { j with state := .active }).takeRadio s.linearNow (.cal n) (s.radio.centre j.mode j.channel)

def execCalJobStart (slot : Fin 16) (phase : Fin 8000) (s : State) : Out :=
  let t := s.reach phase
  let j := t.job slot
  ok (whenDo (j.kind == some .cal && j.state == .armed && j.due t.linearNow && t.radioFree && t.comesFirst slot) t (t.startCal slot))

/-- CAL_JOB_END: the job completes and the lanes restart detection (R282, R218). -/
def execCalJobEnd (slot : Fin 16) (s : State) : Out :=
  ok (whenDo (s.radio.use == .cal slot) s ((({ s with radio.use := .receive }).finishWith slot resDone true).applyLanes true))

/-- LINK_TRIG: arm the lowest-numbered waiting job at this cycle plus OFFSET (R560). -/
def State.linkTrig (s : State) : State :=
  match (List.finRange 16).find? fun n => (s.job n).waitsTrigger with
  | none => s
  | some n => s.armJob n (s.linearNow + (s.job n).offset) false

def execLinkTrig (phase : Fin 8000) (s : State) : Out := ok (s.reach phase).linkTrig

end Sys2Proof.Machine
end

