-- ==== Sys2Proof/Machine/Receive.lean ====
section
/-!
DEFINITION. Reception: acquisition, lines, verdict, acknowledgement, loss of lock (05, 5 to 9; 06, 3 and 4).
-/
namespace Sys2Proof.Machine

/-- A lane without a frame returns to detection; a job that waited for this end finishes (R242, R255). -/
def State.releaseLane (s : State) (l : Lane) : State :=
  let x := s.lane l
  ((s.setLane l { x with frame := none, stage := if x.stage = .off then .off else .searching }).endAtFrame l).applyLanes false

/-- A lane abandons the frame it holds: lines freed, a window that found it fails, the lane returns to detection (R192, R228, R257, R259, R269). -/
def State.abandonFrame (s : State) (l : Lane) : State :=
  let held := (s.lane l).frame.isSome
  let s1 := (s.dropFrame l).releaseLane l
  if held then s1.failSyncedWindows l else s1

/-- A preamble is detected in the last 8 symbols: its component and the RSSI reach their thresholds, and its mean lies in the capture range (R202,
R203, R212). -/
def State.detects (s : State) (m : PhyMode) (f : List Int) (rssi : BitVec 8) : Bool :=
  atLeastHz (2 * alternatingSum f) f.length (m.preambleDeviation s.radio.s3Wide) && decide (s.radio.detRssi.toInt ≤ rssi.toInt) &&
    withinHz (freqSum f) f.length m.capture

/-- LANE_DETECTION: `f` holds the instantaneous frequencies of the last 8 symbols, oldest first, in units of 4 MHz / 2^16. At detection the NCO
shifts by their mean, and the configured sync word, tolerance and S3_WIDE apply from here (R202, R203, R230). -/
def State.detect (s : State) (l : Lane) (f : List Int) (rssi : BitVec 8) : State :=
  let x := s.lane l
  let x1 := { x with rssi := rssi }
  if s.detects x.mode f rssi then
    s.setLane l { x1 with
      stage := .detected, coarse := meanOf f, nco := meanOf f, wide := s.radio.s3Wide
      sync := s.radio.syncWord l, syncTol := s.radio.syncTol.toNat }
  else s.setLane l x1

def execLaneDetection (lane : Lane) (f : Vector Int 8) (rssi : BitVec 8) (phase : Fin 8000) (s : State) : Out :=
  let t := s.reach phase
  ok (whenDo ((t.lane lane).stage == .searching) t (t.detect lane f.toList rssi))

/-- The estimates over 16 symbols: carrier offset Δf, to which the NCO moves, and symbol phase τ; where the argument of a zero sum is asked for, a
free value (R204). -/
def State.estimate (s : State) (l : Lane) (f : List Int) (rssi : BitVec 8) : State :=
  let (x, s1) : Int × State := match symbolPhase (alternatingSum f) with
    | some t => (t, s)
    | none => (fun (r : Nat × State) => ((r.1 : Int) - 65535, r.2)) (s.draw 131072)
  let y := s1.lane l
  let d := BitVec.ofInt 16 (meanOf f)
  s1.setLane l { y with stage := .estimated, offset := d, nco := y.coarse + d.toInt, tau := x, rssi := rssi, frameRssi := rssi }

/-- FINE_ESTIMATE: `f` holds the instantaneous frequencies of the 16 symbols after detection (R204). -/
def execFineEstimate (lane : Lane) (f : Vector Int 16) (rssi : BitVec 8) (s : State) : Out :=
  ok (whenDo ((s.lane lane).stage == .detected) s (s.estimate lane f.toList rssi))

/-- The offset lies within the pull-in of the fine estimate and the capture range (R205, R212). -/
def LaneBlock.pulledIn (x : LaneBlock) : Bool :=
  withinHz x.offset.toInt 1 x.mode.pullIn && withinHz (x.coarse + x.offset.toInt) 1 x.mode.capture

/-- The running means over the last 16 symbols before the sync, of what each symbol shows of the carrier offset and the symbol phase (R206; what one
symbol shows is the command's, assumption 52). They freeze with the sync (R209). -/
def LaneBlock.refine (x : LaneBlock) (offsets phases : List Int) : LaneBlock :=
  { x with nco := x.coarse + meanOf offsets, tau := meanOf phases }

/-- Mark the window of a lane as having found a sync (R269). -/
def LinkBlock.markWindow (k : LinkBlock) (l : Lane) : LinkBlock :=
  match k.windowOn l with
  | none => k
  | some w => { k with windows := k.windows.map fun v => if v.slot = w.slot then { v with sync := true } else v }

/-- A frame finds no FREE line (R257). -/
def State.galleryFull (s : State) (l : Lane) : State :=
  ({ s with link.dropGallery := satInc s.link.dropGallery }.setLeaf .linkGalleryFull).abandonFrame l

/-- Sync found: the lane freezes, SYNC counts, and the first line is taken or the frame is dropped (R209, R256, R257). -/
def State.sync (s : State) (l : Lane) : State :=
  let x := s.lane l
  let s1 := { s with link := s.link.markWindow l }
  let f : RxFrame := { syncDrip := s.drip.count, syncPhase := s.drip.phase }
  match s1.link.lowestFree with
  | none => (s1.setLane l { x with stage := .frame, cntSync := satInc x.cntSync, frame := some f }).galleryFull l
  | some n => (s1.setLane l { x with stage := .frame, cntSync := satInc x.cntSync, frame := some { f with lines := [n] } }).takeLine n .link

/-- SYNC_FOUND: the hard decisions of the last 32 symbols, the oldest in bit 31, agree with the lane's sync word but for SYNCTOL bits; Δf and τ as
refined up to here freeze (R205 to R207, R209). -/
def execSyncFound (lane : Lane) (decisions : Word) (offsets phases : Vector Int 16) (phase : Fin 8000) (s : State) : Out :=
  let t := s.reach phase
  let x := t.lane lane
  let found := x.stage == .estimated && x.pulledIn && decide (bitsWrong decisions x.sync ≤ x.syncTol)
  ok (whenDo found t (((t.setLane lane (x.refine offsets.toList phases.toList)).sync lane).pulse (if lane == .a then 9 else 10)))

/-- NO_SYNC (R208). -/
def execNoSync (lane : Lane) (s : State) : Out :=
  let x := s.lane lane
  ok (whenDo (x.stage == .estimated) s
    (s.setLane lane { x with stage := .searching, cntNoSync := satInc x.cntNoSync }))

/-- Take the next line of a frame, or drop the frame (R256, R257). -/
def State.extend (s : State) (l : Lane) : State :=
  match (s.lane l).frame with
  | none => s
  | some f =>
    match s.link.lowestFree with
    | none => s.galleryFull l
    | some n => (s.setLane l { s.lane l with frame := some { f with lines := f.lines ++ [n] } }).takeLine n .link

/-- LINE_EXTEND: a frame fills at most three lines (R256). -/
def execLineExtend (lane : Lane) (s : State) : Out :=
  ok (match (s.lane lane).frame with
    | some f => whenDo (decide (f.lines.length < 3)) s (s.extend lane)
    | none => s)

/-- PHY_HEADER_CHECK: the coded bits of the frame's first blocks, from which the lane decodes the PHY header, and CTRL of a secured frame's MAC
header before it fixes B (R190, R192, R200). -/
def State.headerCheck (s : State) (l : Lane) (f : RxFrame) (soft : List Soft) : State :=
  let x := s.lane l
  let got := receivedSoFar x.mode soft
  let h := headerOfBits got
  let ctrl := (bytesOfBits 11 got).getD 10 0
  if soft.length < headerBits x.mode then s
  else if !phyHeaderOk h then (s.setLane l { x with cntHdrBad := satInc x.cntHdrBad }).abandonFrame l
  else if phySecure h && decide (soft.length < macBits x.mode) then s
  else
    let g : RxFrame := { f with header := some h, mic8 := phySecure h && ctrlMic8 ctrl, soft := soft }
    if paddedBits x.mode (bodyLength h g.mic8) < soft.length then s else s.setLane l { x with frame := some g }

def execPhyHeaderCheck (lane : Lane) (soft : List Soft) (s : State) : Out :=
  ok (match (s.lane lane).frame with
    | none => s
    | some f => if f.header.isSome then s else s.headerCheck lane f soft)

/-- The lines still missing for a frame of body length `B`; `n` bounds the tries (R256). -/
def State.extendTo (s : State) (l : Lane) (need : Nat) : (n : Nat) → State
  | 0 => s
  | n + 1 =>
    match (s.lane l).frame with
    | none => s
    | some f => if f.lines.length < need then (s.extend l).extendTo l need n else s

/-- Suppression: a further good reception of a candidate's key; at the threshold the candidate goes (R279 step 5). -/
def State.suppress (s : State) (key : BitVec 16 × Byte) : State :=
  let thr (c : Candidate) : Nat := match (s.lane c.lane).policy with
    | some n => (s.job n).threshold
    | none => 1
  let hit (c : Candidate) : Bool := c.src == key.1 && c.seq == key.2
  let heard := s.link.relays.map fun c => if hit c then { c with heard := c.heard + 1 } else c
  let gone := heard.filter fun c => hit c && decide (thr c ≤ c.heard)
  { s with
    link.relays := heard.filter fun c => !(hit c && decide (thr c ≤ c.heard))
    link.relaySuppressed := gone.foldl (fun n _ => satInc n) s.link.relaySuppressed }

/-- Store a candidate; a ninth drops the oldest (R279 steps 1 to 4). -/
def State.addCandidate (s : State) (l : Lane) (mode : PhyMode) (hdr : BitVec 16) (body : List Byte) (frameEnd : Nat) (off : Nat) : State :=
  let hold := if phyAckReq hdr then frameEnd + 7680 + ackCycles mode else s.linearNow
  let (r, s1) := s.draw 4
  let c : Candidate :=
    { src := macSrc body, seq := macSeq body, lane := l, header := hdr, body := body, verdictDrip := s.drip.count,
      slotDrip := BitVec.ofNat 48 (hold / 8000 + 1 + r), slotOffset := off, heard := 0, waiting := false }
  let full := decide (8 ≤ s.link.relays.length)
  { s1 with
    link.relays := (if full then s.link.relays.drop 1 else s.link.relays) ++ [c]
    link.dropRelay := if full then satInc s.link.dropRelay else s.link.dropRelay }

/-- The 32-byte record at the start of a received frame's first line (R258). -/
def rxRecord (m : PhyMode) (l : Lane) (ackSched ackBusy dup cand : Bool) (x : LaneBlock) (q : Byte) (hdr : BitVec 16)
    (endStamp syncStamp : BitVec 64) (lines : List Nat) (B : Nat) (crc : Word) : List Byte :=
  let b0 : Byte := m.toBits.setWidth 8 ||| (if laneToBit l then 0x04#8 else 0) ||| (if ackSched then 0x08#8 else 0) |||
    (if ackBusy then 0x10#8 else 0) ||| (if dup then 0x20#8 else 0) ||| (if cand then 0x40#8 else 0)
  [b0, 0x00#8, x.frameRssi, q] ++ leBytes 2 x.offset.toNat ++ leBytes 2 hdr.toNat ++
    leBytes 8 endStamp.toNat ++ leBytes 8 syncStamp.toNat ++
    [BitVec.ofNat 8 (lines.getD 1 255), BitVec.ofNat 8 (lines.getD 2 255)] ++ leBytes 2 B ++ wordBytes crc

/-- The job under which a lane delivers a frame, unless an ACK window suspends it (R268, R288 FRAMES). -/
def State.countingJob (s : State) (l : Lane) : Option (Fin 16) := if (s.link.ackJobOn l).isNone then (s.lane l).job else none

/-- A good data frame: duplicate cache, acknowledgement, relay candidate, record and delivery. The fence is looked at here, and not again when the ACK
starts (DESIGN CHOICE, assumption 56) (R260, R264, R265, R278, R279, R227). -/
def State.goodData (s : State) (l : Lane) (f : RxFrame) (hdr : BitVec 16) (body : List Byte) (crc : Word) (corrected frameEnd : Nat) : State :=
  let x := s.lane l
  let mode := x.mode
  let net := s.mesh.netMatches body
  let key := (macSrc body, macSeq body)
  let dup := net && s.link.dupCache.contains key
  let s1 := if net then { s with link := s.link.dupInsert key } else s
  let s2 := if net then s1.suppress key else s1
  -- acknowledgement
  let asks := phyAckReq hdr && net && s.mesh.toMe body && s.power.mode != .sump
  let tu : Tuning := { x.tuning with base := s.radio.base }
  let fenced := asks && !bandInFence s.radio.fenceLo s.radio.fenceHi tu.band
  let wants := asks && !fenced
  let busy := wants && s.link.pendingAck.isSome
  let sched := wants && !busy
  let s3 := (s2.setLeafIf fenced .radioAckFenced).setLeafIf busy .linkAckBusy
  let s4 := if sched then
      { s3 with link.pendingAck := some { lane := l, mode := mode, channel := x.channel, sync := x.sync, wide := x.wide, seq := macSeq body,
                                          crc16 := crc.extractLsb' 0 16, frameEnd := frameEnd } }
    else s3
  -- relay candidate
  let cand := net && !dup && x.policy.isSome && phyRelay hdr && macTtl body != 0 && macSrc body != s.mesh.addr
  let s5 := match x.policy with
    | some n => if cand then s4.addCandidate l mode hdr body frameEnd (s.job n).offset else s4
    | none => s4
  -- delivery
  let dest := s.mesh.toMe body || macDest body == 0xFFFF || s.link.rxfiltAll
  let gives := net && dest && !(dup && s.link.rxfiltDropDup)
  if gives then
    let rec0 := rxRecord mode l sched busy dup cand x (lqi mode body.length corrected) hdr (stampOf frameEnd)
      (timestamp f.syncDrip f.syncPhase) f.lines body.length crc
    let s6 := s5.writeLines f.lines 0 (rec0 ++ body)
    let by_ := s.countingJob l
    if phySecure hdr then
      let k := s.mesh.slots[ctrlKslot (macCtrl body)]
      { s6 with link.checking := s6.link.checking ++ [{ lane := l, job := by_, lines := f.lines, body := body, dup := dup, cur := k.cur, prev := k.prev }] }
    else (s6.deliver f.lines).countFrame by_
  else s5.setOwners f.lines .free

/-- The acknowledgement matches the attempt of a window's job (R270). -/
def Job.ackMatches (j : Job) (hdr : BitVec 16) (body : List Byte) : Bool :=
  phyAckFrame hdr && byteAt body 0 == 0x01 && byteAt body 1 == j.seq && BitVec.ofNat 16 (natAt body 2 2) == j.crc.extractLsb' 0 16

/-- A CRC verdict (R201, R257, R259, R269, R270, R901). -/
def State.verdict (s : State) (l : Lane) (f : RxFrame) (hdr : BitVec 16) (body : List Byte) (crc : Word) (corrected frameEnd : Nat) : State :=
  let win := (s.link.windowOn l).filter (·.sync)
  let good := frameCrc hdr body == crc
  let matched := good && match win with
    | some w => (s.job w.slot).ackMatches hdr body
    | none => false
  let s1 :=
    if !good then s.setOwners f.lines .free
    else
      let s2 := { s with link.evGood := s.link.evGood + 1 }
      if phyAckFrame hdr then
        let s3 := s2.setOwners f.lines .free
        if matched then s3 else { s3 with link.dropAckStray := satInc s3.link.dropAckStray }
      else s2.goodData l f hdr body crc corrected frameEnd
  let s4 := (s1.setLane l { s1.lane l with frame := none }).releaseLane l
  match win with
  | some w => s4.closeWindow w.slot matched
  | none => s4

/-- The verdict of a lane's frame, all its coded bits received: it takes the lines it still needs, decodes, and judges (R190, R200, R201, R256). -/
def State.judgeFrame (s : State) (l : Lane) (f : RxFrame) (hdr : BitVec 16) : State :=
  let m := (s.lane l).mode
  let B := bodyLength hdr f.mic8
  let s1 := s.extendTo l ((32 + B + 127) / 128) 3
  match (s1.lane l).frame with
  | none => s1
  | some g =>
    let d := decodeFrame m B g.soft
    (s1.verdict l g hdr d.1 d.2.1 d.2.2 (linear f.syncDrip f.syncPhase + sectionCycles m B)).pulse (if l == .a then 11 else 12)

/-- The verdict of lane B's frame, when it waited for lane A's (R219, R325). -/
def State.judgeWaiting (s : State) : State :=
  match (s.lane .b).frame with
  | some f => match f.header with
    | some h => if f.ended then s.judgeFrame .b f h else s
    | none => s
  | none => s

/-- Lane A's frame ends in the same cycle, and its verdict is still to come (R219, R325). -/
def State.waitsForA (s : State) (l : Lane) (e : Nat) : Bool :=
  l == .b && match (s.lane .a).frame with
    | some g => g.endTime (s.lane .a).mode == some e
    | none => false

/-- CRC_VERDICT: the rest of the frame's coded bits, up to the frame end; lane A's verdict of the same cycle comes first (R190, R200, R201, R219,
R325). -/
def State.endFrame (s : State) (l : Lane) (f : RxFrame) (h : BitVec 16) (e : Nat) (soft : List Soft) : State :=
  let g := { f with soft := f.soft ++ soft, ended := true }
  let s1 := s.setLane l { s.lane l with frame := some g }
  if s.waitsForA l e then s1
  else
    let s2 := s1.judgeFrame l g h
    if l == .a then s2.judgeWaiting else s2

def execCrcVerdict (lane : Lane) (soft : List Soft) (s : State) : Out :=
  let x := s.lane lane
  ok (match x.frame with
    | none => s
    | some f =>
      match f.header with
      | none => s
      | some h =>
        let B := bodyLength h f.mic8
        let e := linear f.syncDrip f.syncPhase + sectionCycles x.mode B
        if f.soft.length + soft.length != paddedBits x.mode B then s
        else match s.reachTime e with
          | none => s
          | some t => t.endFrame lane f h e soft)

/-- ADC_CLIP: the gain is held while a lane holds a frame (R210). -/
def execAdcClip (s : State) : Out :=
  ok (whenDo ((s.lane .a).stage == .frame || (s.lane .b).stage == .frame) s ({ s with radio.clip := true, radio.clipFresh := true }.setLeaf .radioClip))

/-- The ACK of a received frame: the lane's sync word and S3_WIDE, its first symbol 192 µs after the frame end. One that the relock of a lost
synthesizer has held up starts as soon as the radio can (R186, R191, R217, R230, R266, R267; DESIGN CHOICE, assumption 57). -/
def State.ackOnAir (s : State) (a : PendingAck) : OnAir :=
  s.mkOnAir .ack ⟨a.mode, a.channel, s.radio.base, a.wide⟩ a.sync (mkPhyHeader 4 false false false true)
    [0x01#8, a.seq, a.crc16.extractLsb' 0 8, a.crc16.extractLsb' 8 8] false
    (if a.frameEnd + 4608 < s.linearNow then s.linearNow + 1536 else a.frameEnd + 6144)

/-- ACK_TURNAROUND: 144 µs after the acknowledged frame end both lanes stop; a frame of the other lane that has ended by then keeps its verdict, one
that has not is lost (R217, R266, R267). -/
def execAckTurnaround (s : State) : Out :=
  ok (match s.link.pendingAck with
    | none => s
    | some a =>
      match s.reachTime (a.frameEnd + 4608) with
      | none => s
      | some t => whenDo (t.radio.use == .receive) t (t.beginTx (t.ackOnAir a) (max t.linearNow (a.frameEnd + 4608))))

/-- ACK_END: no ACK is pending, and the lanes restart; until the turnaround that follows is over no other transmission starts (R218, R246, R265,
R901). -/
def execAckEnd (s : State) : Out :=
  ok (match s.radio.use with
    | .transmit t =>
      whenDo (t.kind == .ack) s
        ({ s with link.pendingAck := none, link.evAcks := s.link.evAcks + 1, radio.quietUntil := t.downTime + 1280 }.endTx.pulse 13)
    | _ => s)

/-- SYNTH_UNLOCK: a transmission is cut and its ramp-down begins, or both lanes abandon their frames (R228, R236, R240, R901). A CAL job goes on to its end, and the radio
relocks within it (DESIGN CHOICE, assumption 57). -/
def State.synthUnlock (s : State) : State :=
  let s1 := s.setLeaf .radioSynthUnlock
  match s.radio.use with
  | .transmit t =>
    let s2 := { s1 with radio.use := .relocking, radio.lastTx := some t, radio.antUntil := min s.radio.antUntil (s.linearNow + 384) }
    match t.kind with
    | .job n => ({ s2 with link.evSent := s2.link.evSent + 1 }.setJob n { s2.job n with stamp := s.now }).finishJob n resRfAbort
    | .ack => { s2 with link.pendingAck := none, link.evAcks := s2.link.evAcks + 1 }
    | .relay => { s2 with link.evRelays := s2.link.evRelays + 1 }
    | .beacon => { s2 with link.evSent := s2.link.evSent + 1 }
  | .receive =>
    let s2 := (s1.abandonFrame .a).abandonFrame .b
    let off (s : State) (l : Lane) : State := s.setLane l { s.lane l with stage := .off, rssi := 0x80, resume := (s.lane l).stage != .off }
    off (off { s2 with radio.use := .relocking } .a) .b
  | _ => s1

def execSynthUnlock (s : State) : Out := ok (whenDo s.radio.synthOn s s.synthUnlock)

/-- SYNTH_RELOCK (R228). -/
def execSynthRelock (s : State) : Out :=
  ok (whenDo (s.radio.use == .relocking) s ({ s with radio.use := .receive }.applyLanes true))

/-- LK_CANCEL at the delivering transfer (R242, R286). -/
def State.cancelJob (s : State) (n : Fin 16) : State :=
  let j := s.job n
  if s.link.hostRange n then s
  else match j.state with
  | .queued => s.finishJob n resCancelled
  | .armed => s.finishJob n resCancelled
  | .active =>
    match j.kind with
    | some .tx => if j.phase = .backoff then s.finishJob n resCancelled else s.setJob n { j with cancelled := true }
    | some .rx => s.endReceiving n resCancelled
    | some .listen => s.endReceiving n resDone
    | some .relay =>
      let mine := s.link.relays.filter fun c => c.lane == j.lane
      let s1 := { s with
        link.relays := s.link.relays.filter fun c => c.lane != j.lane
        link.dropRelay := mine.foldl (fun k _ => satInc k) s.link.dropRelay }
      (s1.setLane j.lane { s1.lane j.lane with policy := none }).finishJob n resDone
    | _ => s
  | _ => s

/-- LK_JOBFREE at the delivering transfer (R239, R286). -/
def State.freeJob (s : State) (n : Fin 16) : State :=
  if s.link.hostRange n || (s.job n).state != .done then s else s.setJob n { desc := (s.job n).desc }

/-- LK_SUBMIT at the delivering transfer (R234). -/
def State.submitJob (s : State) (n : Fin 16) : State :=
  if (s.job n).state == .free && !s.link.hostRange n then
    { s with link.subAccepted := s.link.subAccepted ||| (1#16 <<< n.val) }.acceptJob n false 0
  else { s with link.subQfull := s.link.subQfull ||| (1#16 <<< n.val) }

/-- Apply an operation to each slot whose bit is set, ascending. -/
def State.eachSlot (s : State) (mask : Word) (f : State → Fin 16 → State) : State :=
  (List.finRange 16).foldl (fun s n => if mask.getLsbD n.val then f s n else s) s

/-- LK_CLAIMn, LK_RELEASEn and LK_GIVEn at the delivering transfer (R263, R624). -/
def State.claimLine (s : State) (n : Nat) : State := if s.link.ownerOf n = .free then s.takeLine n .core else s
def State.releaseLine (s : State) (n : Nat) : State := if s.link.ownerOf n = .core then s.setOwner n .free else s

/-- Lines given at one transfer: they pass to CHAIN and join the take queue in ascending order, except lines that another given line's record names (R263, R841). -/
def State.giveLines (s : State) (ns : List Nat) : State :=
  let given := ns.filter fun n => s.link.ownerOf n == .core
  let follows (n : Nat) : Bool := given.any fun k => k != n &&
    ((memGet s.mem (lineBase k + 24)).toNat == n || (memGet s.mem (lineBase k + 25)).toNat == n)
  let heads := given.filter fun n => !follows n
  ({ s.setOwners given .chain with chain.takeQueue := s.chain.takeQueue ++ heads }).setLeafIf (!heads.isEmpty) .chainFrameReady

end Sys2Proof.Machine
end

