-- ==== Sys2Proof/Machine/Relay.lean ====
section
/-!
DEFINITION. The flood relay's slots (06, 6.3).
-/
namespace Sys2Proof.Machine

/-- The radio is busy at a relay slot: a transmission in progress, its turnaround or one due, an ACK pending, a verdict due, or a lane that has
detected a preamble or holds a frame (R246, R279 step 6). -/
def State.relayBusy (s : State) : Bool :=
  let laneBusy (l : Lane) : Bool := match (s.lane l).stage with
    | .detected => true
    | .estimated => true
    | .frame => true
    | _ => false
  let due := (List.finRange 16).any s.startDue
  !s.radioFree || laneBusy .a || laneBusy .b || due

def State.setCandidates (s : State) (cs : List Candidate) : State := { s with link.relays := cs }

/-- Drop a candidate and count it (R279 step 7). -/
def State.dropCandidate (s : State) (i : Nat) : State :=
  { s with link.relays := s.link.relays.eraseIdx i, link.dropRelay := satInc s.link.dropRelay }

/-- The relay frame: TTL one less, ACKREQ 0, a new header check (R279 step 8, R188, R189). -/
def relayHeader (h : BitVec 16) : BitVec 16 := mkPhyHeader (phyLength h) false (phyRelay h) (phySecure h) (phyAckFrame h)

def relayBody (b : List Byte) : List Byte := b.set 7 (macTtl b - 1)

/-- Send a candidate under its lane's policy; it leaves the antenna at its own end (R279 step 8, R216, R218, R901; assumption 8). -/
def State.sendRelay (s : State) (i : Nat) (c : Candidate) (n : Fin 16) : State :=
  let j := s.job n
  let t := s.mkOnAir .relay (s.radio.tuningNow j.mode j.channel) (s.radio.syncWord c.lane) (relayHeader c.header) (relayBody c.body) false
    s.linearNow
  let s1 := { s with
    link.relays := s.link.relays.eraseIdx i
    link.relaySent := satInc s.link.relaySent }
  (s1.setJob n { j with frames := min 65535 (j.frames + 1) }).beginTx t s.linearNow

/-- The checks at send (R279 step 7, R130, R226, R274). -/
def State.relayChecks (s : State) (i : Nat) (c : Candidate) : State :=
  match (s.lane c.lane).policy with
  | none => s.dropCandidate i
  | some n =>
    let j := s.job n
    if s.power.mode == .service || decide (64 ≤ s.drip.count.toNat - c.verdictDrip.toNat) || !s.radio.inFence j.mode j.channel then
      s.dropCandidate i
    else if !s.dutyAllows j.mode j.channel c.body.length then (s.setLeaf .linkDuty).dropCandidate i
    else s.sendRelay i c n

/-- A candidate at its slot: it waits while the radio is busy, draws anew when it became free, or is sent (R279 steps 6 to 8). -/
def State.relaySlot (s : State) (i : Nat) : State :=
  match s.link.relays[i]? with
  | none => s
  | some c =>
    if c.waiting then
      if s.relayBusy then s
      else
        let (r, s1) := s.draw 4
        s1.setCandidates (s1.link.relays.set i { c with waiting := false, slotDrip := s.drip.count + BitVec.ofNat 48 (1 + r) })
    else if decide (s.linearNow < linear c.slotDrip c.slotOffset) then s
    else if s.relayBusy then s.setCandidates (s.link.relays.set i { c with waiting := true })
    else s.relayChecks i c

/-- RELAY_SLOT for the candidate at a position of the relay store (R279). -/
def execRelaySlot (index : Fin 8) (phase : Fin 8000) (s : State) : Out := ok ((s.reach phase).relaySlot index)

end Sys2Proof.Machine
end

