-- ==== Sys2Proof/Machine/LinkRegs.lean ====
section
/-!
DEFINITION. The link controller region 0x5000_0000: what its registers read, and what a delivered write does (02, 05, 06, 07).
-/
namespace Sys2Proof.Machine

def JobState.code : JobState → BitVec 4
  | .free => 0
  | .queued => 1
  | .armed => 2
  | .active => 3
  | .done => 4

def Owner.code : Owner → BitVec 2
  | .free => 0
  | .link => 1
  | .core => 2
  | .chain => 3

/-- LK_JOBSTATn; a FREE slot reads 0 (R239, R288). -/
def Job.stat (j : Job) : Word :=
  if j.state = .free then 0
  else nfld 16 j.frames ||| nfld 12 j.attempts ||| flag 9 j.host ||| flag 8 j.late ||| fld 4 j.result ||| fld 0 j.state.code

/-- RF_LANEx_CNT. -/
def LaneBlock.cnt (x : LaneBlock) : Word := fld 16 x.cntSync ||| fld 8 x.cntHdrBad ||| fld 0 x.cntNoSync

/-- RF_STAT. -/
def RadioBlock.stat (r : RadioBlock) : Word :=
  let tx := match r.use with
    | .transmit _ => true
    | _ => false
  let lock := r.synthOn && r.use != .relocking
  flag 8 r.clip ||| flag 5 (r.laneB.stage == .frame) ||| flag 4 (r.laneA.stage == .frame) |||
    flag 3 (r.laneB.stage != .off) ||| flag 2 (r.laneA.stage != .off) ||| flag 1 tx ||| flag 0 lock

/-- MS_KEYEPn and MS_KEYSTATn (R326). -/
def KeySlot.epochs (k : KeySlot) : Word :=
  fld 16 ((k.cur.map (·.2)).getD 0) ||| fld 0 ((k.prev.map (·.2)).getD 0)

def KeySlot.stat (k : KeySlot) : Word :=
  flag 4 k.leaseReq ||| flag 3 k.leaseFail ||| flag 2 k.fcEnd ||| flag 1 k.prev.isSome ||| flag 0 k.cur.isSome

/-- LK_LINEOWNn. -/
def LinkBlock.lineOwn (k : LinkBlock) (n : Nat) : Word :=
  (List.range 16).foldl (fun w i => w ||| fld (2 * i) (k.ownerOf (16 * n + i)).code) 0#32

/-- LK_DRIP_STAT (R95). -/
def DripBlock.stat (d : DripBlock) : Word := fld 16 d.seqOvrCount ||| flag 2 d.calValid ||| flag 1 d.resumed ||| flag 0 d.gap

/-- The value a register of the link region holds, by offset; `none` is an unassigned address (R47). LK_RXQ and the RC and
latched registers are read through `State.coreReadLink`. -/
def Blocks.readLink (b : Blocks) (off : Nat) : Option Word :=
  let k := b.link
  let r := b.radio
  let m := b.mesh
  if 0x80 ≤ off ∧ off < 0xA0 then some (k.lineOwn ((off - 0x80) / 4))
  else if (0xA0 ≤ off ∧ off < 0xD0) then some 0
  else if 0x200 ≤ off ∧ off < 0x240 then some (k.jobs.getD ((off - 0x200) / 4) {}).stat
  else if 0x300 ≤ off ∧ off < 0x380 then
    let sb := k.subBands.getD ((off - 0x300) / 16) {}
    some (match (off - 0x300) / 4 % 4 with
      | 0 => sb.lo
      | 1 => sb.hi
      | 2 => sb.limit
      | _ => BitVec.ofNat 32 sb.used)
  else if 0x520 ≤ off ∧ off < 0x540 then some (m.slots.getD ((off - 0x520) / 4) {}).epochs
  else if 0x540 ≤ off ∧ off < 0x560 then some (m.slots.getD ((off - 0x540) / 4) {}).stat
  else if 0x560 ≤ off ∧ off < 0x580 then some (m.slots.getD ((off - 0x560) / 4) {}).next
  else if 0x580 ≤ off ∧ off < 0x5A0 then some (m.slots.getD ((off - 0x580) / 4) {}).lease
  else if 0x1000 ≤ off ∧ off < 0x1200 then
    some ((k.jobs.getD ((off - 0x1000) / 32) {}).desc.getD ((off - 0x1000) / 4 % 8) 0)
  else match off with
  | 0x00 => some (fld 16 k.ucodeVersion ||| fld 0 k.ucodeGen)
  | 0x10 => some (b.drip.count.extractLsb' 0 32)
  | 0x14 => some (fld 0 b.drip.hiLatch)
  | 0x18 => some b.drip.stat
  | 0x1C => some b.drip.lfcal
  | 0x20 => some b.drip.lastSleep
  | 0x30 => some 0
  | 0x34 => some (fld 16 k.subAccepted ||| fld 0 k.subQfull)
  | 0x38 => some 0
  | 0x3C => some 0
  | 0x40 => some (match k.rxq with
    | [] => flag 31 true
    | n :: ns => nfld 8 ns.length ||| nfld 0 n)
  | 0x44 => some (flag 1 k.rxfiltDropDup ||| flag 0 k.rxfiltAll)
  | 0x48 => some (fld 8 k.hslots ||| flag 1 k.txEn ||| flag 0 k.rxAuto)
  | 0x50 => some (fld 16 k.relaySuppressed ||| fld 0 k.relaySent)
  | 0x54 => some (fld 24 k.dropAckStray ||| fld 16 k.dropGallery ||| fld 0 k.dropRelay)
  | 0x400 => some r.base
  | 0x404 => some r.syncA
  | 0x408 => some r.syncB
  | 0x40C => some (fld 8 r.detRssi ||| flag 4 r.s3Wide ||| fld 0 r.syncTol)
  | 0x410 => some (fld 0 r.txLevel)
  | 0x414 => some r.fenceLo
  | 0x418 => some r.fenceHi
  | 0x41C => some r.stat
  | 0x420 => some (BitVec.ofNat 32 r.lo)
  | 0x424 => some (fld 8 r.laneB.rssi ||| fld 0 r.laneA.rssi)
  | 0x428 => some r.laneA.cnt
  | 0x42C => some r.laneB.cnt
  | 0x500 => some (fld 16 m.netid ||| fld 0 m.addr)
  | 0x5A0 => some (fld 16 m.evicts ||| nfld 0 m.replay.length)
  | _ => none

/-- The bits of a link-region register that read back what the core wrote until it is delivered: RW and WS fields (R31, R288). -/
def linkReadback (off : Nat) : Word :=
  if 0xA0 ≤ off ∧ off < 0xD0 then 0xFFFFFFFF
  else if 0x300 ≤ off ∧ off < 0x380 then (if off % 16 = 12 then 0 else 0xFFFFFFFF)
  else if 0x1000 ≤ off ∧ off < 0x1200 then 0xFFFFFFFF
  else match off with
  | 0x30 => 0xFFFF
  | 0x38 => 0xFFFF
  | 0x3C => 0xFFFF
  | 0x44 => 0x3
  | 0x48 => 0xF03
  | 0x400 => 0xFFFFFFFF
  | 0x404 => 0xFFFFFFFF
  | 0x408 => 0xFFFFFFFF
  | 0x40C => 0xFF13
  | 0x410 => 0x3F
  | 0x414 => 0xFFFFFFFF
  | 0x418 => 0xFFFFFFFF
  | 0x500 => 0xFFFFFFFF
  | _ => 0

/-- The value as a register stores it: an unlisted encoding is replaced by the field's Reset value (R17). -/
def linkNormal (off : Nat) (v : Word) : Word :=
  match off with
  | 0x48 => if 8 < (bits v 8 4).toNat then v &&& 0xFFFFF0FF#32 else v
  | 0x410 =>
    let l := (bits v 0 6).toInt
    if decide (l < -20) || decide (20 < l) then 0x0A#32 else v
  | _ => v

/-- The RC count fields of a link-region register, as (lowest bit, length) (R900). -/
def linkRcFields (off : Nat) : List (Nat × Nat) :=
  match off with
  | 0x50 => [(16, 16), (0, 16)]
  | 0x54 => [(24, 8), (16, 8), (0, 16)]
  | 0x428 => [(16, 16), (8, 8), (0, 8)]
  | 0x42C => [(16, 16), (8, 8), (0, 8)]
  | 0x5A0 => [(16, 16)]
  | _ => []

/-- Subtract each named field of `b` from that of `a`, never below 0 (R900). -/
def subFields (fs : List (Nat × Nat)) (a b : Word) : Word :=
  fs.foldl (fun w f =>
    let x := (w.toNat >>> f.1) % 2 ^ f.2
    let y := (b.toNat >>> f.1) % 2 ^ f.2
    w - nfld f.1 (min x y)) a

/-- Store the RC counts of a link-region register (R900). -/
def Blocks.putLinkCounts (b : Blocks) (off : Nat) (v : Word) : Blocks :=
  match off with
  | 0x50 => { b with link.relaySuppressed := bits v 16 16, link.relaySent := bits v 0 16 }
  | 0x54 => { b with link.dropAckStray := bits v 24 8, link.dropGallery := bits v 16 8, link.dropRelay := bits v 0 16 }
  | 0x428 => { b with radio.laneA.cntSync := bits v 16 16, radio.laneA.cntHdrBad := bits v 8 8, radio.laneA.cntNoSync := bits v 0 8 }
  | 0x42C => { b with radio.laneB.cntSync := bits v 16 16, radio.laneB.cntHdrBad := bits v 8 8, radio.laneB.cntNoSync := bits v 0 8 }
  | 0x5A0 => { b with mesh.evicts := bits v 16 16 }
  | _ => b

/-- A delivered removal: the owner subtracts what the read returned (R900). -/
def State.linkRemoval (s : State) (off : Nat) (v : Word) : State :=
  match s.readLink off with
  | some w => { s with toBlocks := s.toBlocks.putLinkCounts off (subFields (linkRcFields off) w v) }
  | none => s

/-- A descriptor word written to a slot that is FREE and in the core's range (R233, R286). -/
def State.writeDescriptor (s : State) (n : Fin 16) (w : Nat) (v : Word) : State :=
  if (s.job n).state == .free && !s.link.hostRange n then
    s.setJob n { s.job n with desc := (s.job n).desc.setIfInBounds w v }
  else s

/-- A core or host write reaches the link region at a transfer (R30, R31, R95, R230, R288, R326). -/
def State.deliverLink (s : State) (off : Nat) (v0 : Word) : State :=
  let v := linkNormal off v0
  if 0xA0 ≤ off ∧ off < 0xB0 then (setBits 32 v).foldl (fun s i => s.claimLine (32 * ((off - 0xA0) / 4) + i)) s
  else if 0xB0 ≤ off ∧ off < 0xC0 then (setBits 32 v).foldl (fun s i => s.releaseLine (32 * ((off - 0xB0) / 4) + i)) s
  else if 0x300 ≤ off ∧ off < 0x380 then
    let n := (off - 0x300) / 16
    let sb := s.link.subBands.getD n {}
    let sb1 := match (off - 0x300) / 4 % 4 with
      | 0 => { sb with lo := v }
      | 1 => { sb with hi := v }
      | 2 => { sb with limit := v }
      | _ => sb
    { s with link.subBands := s.link.subBands.setIfInBounds n sb1 }
  else if h : 0x1000 ≤ off ∧ off < 0x1200 then
    s.writeDescriptor ⟨(off - 0x1000) / 32, by omega⟩ ((off - 0x1000) / 4 % 8) v
  else match off with
  | 0x18 => if bitAt v 0 then { s with drip.gap := false } else s
  | 0x30 => s.eachSlot v State.submitJob
  | 0x38 => s.eachSlot v State.cancelJob
  | 0x3C => s.eachSlot v State.freeJob
  | 0x44 => { s with link.rxfiltDropDup := bitAt v 1, link.rxfiltAll := bitAt v 0 }
  | 0x48 => { s with link.hslots := bits v 8 4, link.txEn := bitAt v 1, link.rxAuto := bitAt v 0 }
  | 0x400 => { s with radio.base := v }
  | 0x404 => { s with radio.syncA := v }
  | 0x408 => { s with radio.syncB := v }
  | 0x40C => { s with radio.detRssi := bits v 8 8, radio.s3Wide := bitAt v 4, radio.syncTol := bits v 0 2 }
  | 0x410 => { s with radio.txLevel := bits v 0 6 }
  | 0x414 => { s with radio.fenceLo := v }
  | 0x418 => { s with radio.fenceHi := v }
  | 0x41C => if bitAt v 8 && !s.radio.clipFresh then { s with radio.clip := false } else s
  | 0x500 => { s with mesh.netid := bits v 16 16, mesh.addr := bits v 0 16 }
  | _ => s

end Sys2Proof.Machine
end

