-- ==== Sys2Proof/Machine/Conduit.lean ====
section
/-!
DEFINITION. The conduit: gates, channels, fixed links, consumers, and the route table's checks and application (13_conduit.md).
-/
namespace Sys2Proof.Machine

/-- A word of the applied table; 0 while every route is disabled. -/
def ConduitBlock.word (c : ConduitBlock) (i : Nat) : Word := c.table.getD i 0

/-- Producer mask, mode, gate select, gate inversion, clear producer and consumer mask of channel `n` (R568). -/
def ConduitBlock.producers (c : ConduitBlock) (n : Nat) : BitVec 48 := bits (c.word (9 + 3 * n)) 0 16 ++ c.word (8 + 3 * n)
def ConduitBlock.mode (c : ConduitBlock) (n : Nat) : BitVec 2 := bits (c.word (9 + 3 * n)) 16 2
def ConduitBlock.gate (c : ConduitBlock) (n : Nat) : Nat := (bits (c.word (9 + 3 * n)) 18 5).toNat
def ConduitBlock.inverted (c : ConduitBlock) (n : Nat) : Bool := bitAt (c.word (9 + 3 * n)) 23
def ConduitBlock.clearer (c : ConduitBlock) (n : Nat) : Nat := (bits (c.word (9 + 3 * n)) 24 6).toNat
def ConduitBlock.consumers (c : ConduitBlock) (n : Nat) : BitVec 29 := bits (c.word (10 + 3 * n)) 0 29

/-- A channel that is not off (R561). -/
def ConduitBlock.isOn (c : ConduitBlock) (n : Nat) : Bool := c.consumers n != 0

/-- The live level of a gate signal (R558, R563). -/
def State.gateLevel (s : State) (n : Nat) : Bool :=
  if n = 0 then true
  else if n ≤ 20 then s.periph.gpio.input.getLsbD (n - 1)
  else match n with
  | 21 => s.key.release
  | 22 => bitAt s.radio.stat 1
  | 23 => bitAt s.radio.stat 4
  | 24 => bitAt s.radio.stat 5
  | 25 => bitAt s.key.statWord 1
  | 26 => s.power.bodWarn
  | _ => false

/-- The gate of a channel, inverted when its inversion bit is 1 (R561). -/
def State.channelGate (s : State) (n : Nat) : Bool := s.gateLevel (s.conduit.gate n) != s.conduit.inverted n

/-- The level that C27 takes: its channel's output, 1 when no channel feeds it (R559, R570). -/
def State.releaseGate (s : State) : Bool :=
  match (List.range 16).find? fun n => (s.conduit.consumers n).getLsbD 27 with
  | none => true
  | some n => if s.conduit.mode n = 1 then s.channelGate n else s.conduit.latch.getLsbD n

/-- The 12 fixed links: producer and consumer (R564). -/
def fixedLinks : List (Nat × Nat) :=
  [(8, 12), (9, 8), (10, 9), (13, 26), (17, 13), (18, 14), (11, 10), (15, 11), (0, 12), (26, 21), (32, 28), (28, 0)]

/-- A consumer as a mask. -/
def oneConsumer (n : Nat) : BitVec 29 := 1#29 <<< n

/-- Consumers that the enabled fixed links reach (R564, R565). -/
def ConduitBlock.linked (c : ConduitBlock) (pulses : BitVec 48) : BitVec 29 :=
  (List.range 12).foldl (fun m i =>
    match fixedLinks[i]? with
    | some (p, k) => if bitAt (c.word 1) i && pulses.getLsbD p then m ||| oneConsumer k else m
    | none => m) 0

/-- Consumers that the PULSE channels reach (R561, R565). -/
def State.routed (s : State) (pulses : BitVec 48) : BitVec 29 :=
  (List.range 16).foldl (fun m n =>
    if s.conduit.mode n = 0 && (s.conduit.producers n &&& pulses) != 0 && s.channelGate n then m ||| s.conduit.consumers n else m) 0

/-- The LATCH channels after the pulses: a clear wins over a set (R561, R562). -/
def State.latched (s : State) (pulses : BitVec 48) : BitVec 16 :=
  (List.range 16).foldl (fun m n =>
    let b := 1#16 <<< n
    if s.conduit.mode n != 2 || !s.conduit.isOn n then m
    else if pulses.getLsbD (s.conduit.clearer n) then m &&& ~~~b
    else if (s.conduit.producers n &&& pulses) != 0 && s.channelGate n then m ||| b
    else m) s.conduit.latch

/-- Pin and action of GPIO action slot `k`: 1 set, 2 clear, 3 toggle (R568). -/
def ConduitBlock.slot (c : ConduitBlock) (k : Nat) : Nat × Nat :=
  let b := bits (c.word (2 + k / 4)) (8 * (k % 4)) 8
  ((b.extractLsb' 0 5).toNat, (b.extractLsb' 5 2).toNat)

/-- Pins on which the slots of a consumer mask take one action. -/
def ConduitBlock.slotPins (c : ConduitBlock) (m : BitVec 29) (action : Nat) : Word :=
  bitmap 20 fun pin => (List.range 8).any fun k => m.getLsbD (13 + k) && c.slot k == (pin, action)

/-- GPIO actions of one cycle: clear beats set, and a toggle yields to both (R566). -/
def State.gpioActions (s : State) (m : BitVec 29) : State :=
  let clr := s.conduit.slotPins m 2
  let set := s.conduit.slotPins m 1 &&& ~~~clr
  let tgl := s.conduit.slotPins m 3 &&& ~~~(set ||| clr)
  ((s.gpSet set).gpClr clr).gpTgl tgl

/-- Timer actions of one cycle on timer `n`: the capture acts, and a stop beats a start (R566, R585). -/
def State.timerActions (s : State) (m : BitVec 29) (n : Fin 4) : State :=
  let s1 := if m.getLsbD (8 + n) then s.capture n else s
  let t := s1.periph.timer[n]
  if m.getLsbD (4 + n) then s1.setTimer n { t with en := false }
  else if m.getLsbD n then s1.setTimer n { t with en := true }
  else s1

/-- Every consumer that receives a pulse in one destination cycle acts once (R557, R565). -/
def State.consume (s : State) (m : BitVec 29) : State :=
  let s1 := (List.finRange 4).foldl (fun s (n : Fin 4) => s.timerActions m n) s
  let s2 := if m.getLsbD 12 then s1.adcTrigger else s1
  let s3 := (s2.gpioActions m).pwmLoad (m.extractLsb' 21 6)
  if m.getLsbD 28 then s3.linkTrig else s3

/-- Pulses reach their consumers: the fixed links after 1 destination cycle, the matrix after 2 or 3 (R565, R567). -/
def State.carry (s : State) (pulses : BitVec 48) : State :=
  let s1 := s.consume (s.conduit.linked pulses)
  let l := s1.latched pulses
  let s2 := s1.consume (s1.routed pulses)
  { s2 with conduit.latch := l }

/-- CONDUIT_EVENT: those of `arriving` that have pulsed and not arrived yet reach their consumers in one destination cycle; a pulse that is
produced outside RUN, LISTEN and SERVICE is lost (R553) (DESIGN CHOICE, assumption 25). -/
def execConduitEvent (arriving : BitVec 48) (s : State) : Out :=
  let p := s.conduit.pulses &&& arriving
  let s1 := { s with conduit.pulses := s.conduit.pulses &&& ~~~arriving }
  ok (if s.carriesEvents then s1.carry p else { s with conduit.pulses := 0 })

/-- Producers and gates that a table names (section 6.2): channels that are not off, their LATCH clear producers, enabled fixed links. -/
def ConduitBlock.named (c : ConduitBlock) : BitVec 48 :=
  let chans := (List.range 16).foldl (fun m n =>
    if !c.isOn n then m
    else if c.mode n = 2 then m ||| c.producers n ||| (1#48 <<< c.clearer n)
    else m ||| c.producers n) 0
  (List.range 12).foldl (fun m i =>
    match fixedLinks[i]? with
    | some (p, _) => if bitAt (c.word 1) i then m ||| (1#48 <<< p) else m
    | none => m) chans

/-- Consumers that a table names. -/
def ConduitBlock.namedConsumers (c : ConduitBlock) : BitVec 29 :=
  let chans := (List.range 16).foldl (fun m n => m ||| c.consumers n) 0
  (List.range 12).foldl (fun m i =>
    match fixedLinks[i]? with
    | some (_, k) => if bitAt (c.word 1) i then m ||| oneConsumer k else m
    | none => m) chans

/-- Channels that are not off. -/
def ConduitBlock.onChannels (c : ConduitBlock) : List Nat := (List.range 16).filter c.isOn

/-- Check 6 of R569: C27 on a PULSE channel or on two channels, or another consumer on a LEVEL or LATCH channel. -/
def ConduitBlock.badConsumer (c : ConduitBlock) : Bool :=
  let gates := c.onChannels.filter fun n => (c.consumers n).getLsbD 27
  gates.any (fun n => c.mode n = 0) || decide (1 < gates.length) ||
    c.onChannels.any fun n => c.mode n != 0 && c.consumers n != oneConsumer 27

/-- Check 7 of R569. -/
def ConduitBlock.badPin (c : ConduitBlock) : Bool :=
  ((List.range 8).any fun k =>
    c.namedConsumers.getLsbD (13 + k) && ((c.slot k).2 == 0 || decide (19 < (c.slot k).1))) ||
  ((List.range 16).any fun k =>
    let b := bits (c.word (4 + k / 4)) (8 * (k % 4)) 8
    c.named.getLsbD (32 + k) && (b.extractLsb' 5 2 == 0 || decide (19 < (b.extractLsb' 0 5).toNat)))

/-- The reason for which a table is rejected, 0 when it passes (R569). -/
def ConduitBlock.check (c : ConduitBlock) (hasL : Bool) : BitVec 4 :=
  if bits (c.word 0) 0 8 != 1 then 0x1
  else if c.onChannels.any (fun n => c.mode n = 3 || (c.mode n = 1 && c.producers n != 0)) then 0x2
  else if c.onChannels.any (fun n => decide (26 < c.gate n)) then 0x3
  else if !hasL && ((c.named &&& 0x380000#48) != 0 || c.onChannels.any (fun n => c.gate n == 25)) then 0x4
  else if c.onChannels.any (fun n => c.mode n = 2 && decide (47 < c.clearer n)) then 0x5
  else if c.badConsumer then 0x6
  else if c.badPin then 0x7
  else 0

/-- Apply a table, or none (R569 to R571). -/
def State.applyRoutes (s : State) (t : Option (List Word)) : State :=
  match t with
  | none => { s with conduit := {} }
  | some ws =>
    let c : ConduitBlock := { table := ws, tableId := bits (ws.getD 0 0) 16 16, applied := 1 }
    let r := c.check s.key.hasL
    if r = 0 then { s with conduit := c }
    else ({ s with conduit := { tableId := c.tableId, reason := r, applied := 2 } }).setLeaf .conduitTableReject

/-- CS_ROUTE (R573). -/
def ConduitBlock.route (c : ConduitBlock) : Word := fld 16 c.tableId ||| fld 8 c.reason ||| fld 0 c.applied

end Sys2Proof.Machine
end

