-- ==== Sys2Proof/Machine/Flowstone.lean ====
section
/-!
DEFINITION. The Flowstone store: groups, sectors, records, rings, reclaim, mirrored pairs and retirement (17_flowstone.md).
-/
namespace Sys2Proof.Machine

/-- Lantern's store state. -/
def State.flow (s : State) : FlowBlock := s.lantern.flow
def State.setFlow (s : State) (f : FlowBlock) : State := { s with lantern.flow := f }

/-- Add to a lifetime counter, which holds at 2^48 − 1 (R689). -/
def State.lifeAdd (s : State) (i : Fin 19) (n : Nat) : State :=
  { s with lantern.life := s.lantern.life.set i (satAdd (2 ^ 48 - 1) s.lantern.life[i] n) }

/-- Group g of sector s in the read window (R663). -/
def fsAddr (sec g : Nat) : Nat := 0x38000000 + 512 * sec + 8 * g

def State.group (s : State) (sec g : Nat) : List Byte := memBytes s.mem (fsAddr sec g) 8

/-- A group that reads as uncorrectable (R609). -/
def State.groupBad (s : State) (sec g : Nat) : Bool := s.integ.uncorrGroups.contains (fsAddr sec g)

/-- A group whose 72 bits are all 1 (R663). -/
def State.groupErased (s : State) (sec g : Nat) : Bool :=
  let a := fsAddr sec g
  (s.group sec g).all (· == 0xFF) && !s.integ.onesGroups.contains a && !s.integ.corrGroups.contains a && !s.groupBad sec g

/-- Entries of the group buffer that a program or erase of lo..hi invalidates (R667). -/
def State.dropGroups (s : State) (lo hi : Nat) : State :=
  { s with core.groupBuf := s.core.groupBuf.filter fun l => decide (l.unit < lo) || decide (hi ≤ l.unit) }

/-- Addresses outside lo..hi. -/
def outside (lo hi : Nat) (l : List Nat) : List Nat := l.filter fun a => decide (a < lo) || decide (hi ≤ a)

/-- `n` bytes of undefined content (R647, R673). -/
def State.drawBytes (s : State) : Nat → List Byte × State
  | 0 => ([], s)
  | n + 1 =>
    let (b, s1) := s.draw 256
    let (bs, s2) := s1.drawBytes n
    (BitVec.ofNat 8 b :: bs, s2)

/-- Program one group; whether its read-back is good (R673). -/
def State.programGroup (s : State) (sec g : Nat) (bs : List Byte) : Bool × State :=
  let a := fsAddr sec g
  let s := s.dropGroups a (a + 8)
  if s.integ.deadGroups.contains a then
    let (u, s1) := s.drawBytes 8
    let (k, s2) := s1.draw 3
    let s3 := { s2 with mem := memPutBytes s2.mem a u }
    (false, { s3 with
      integ.onesGroups := a :: s3.integ.onesGroups
      integ.corrGroups := if k = 1 then a :: s3.integ.corrGroups else s3.integ.corrGroups
      integ.uncorrGroups := if k = 2 then a :: s3.integ.uncorrGroups else s3.integ.uncorrGroups })
  else
    let s1 := { s with mem := memPutBytes s.mem a bs }
    (true, if bs.all (· == 0xFF) then { s1 with integ.onesGroups := a :: s1.integ.onesGroups } else s1)

/-- Program consecutive groups until one fails. -/
def State.programGroups (s : State) (sec : Nat) : Nat → List (List Byte) → Bool × State
  | _, [] => (true, s)
  | g, bs :: rest =>
    let (good, s1) := s.programGroup sec g bs
    if good then s1.programGroups sec (g + 1) rest else (false, s1)

/-- Erase a sector; whether its erase verify is good; what a sector that fails it holds is open (R690, R691). -/
def State.eraseFs (s : State) (sec : Nat) : Bool × State :=
  let lo := fsAddr sec 0
  let hi := lo + 512
  let s1 := (s.dropGroups lo hi).lifeAdd 17 1
  let s2 := { s1 with
    mem := memClear s1.mem lo hi
    lantern.flow.worn := s1.lantern.flow.worn.filter (· != sec)
    lantern.flow.noted := outside lo hi s1.lantern.flow.noted
    integ.corrGroups := outside lo hi s1.integ.corrGroups
    integ.uncorrGroups := outside lo hi s1.integ.uncorrGroups
    integ.onesGroups := outside lo hi s1.integ.onesGroups }
  if s.integ.deadSectors.contains lo then
    let (u, s3) := s2.drawBytes 512
    (false, { s3 with mem := memPutBytes s3.mem lo u })
  else (true, s2)

/-- The sector header and the open marker (R671). -/
def headerGroup (ring : Nat) (est : Bool) (erases : Nat) : List Byte :=
  let b := [0xF0#8, 0x5A#8, BitVec.ofNat 8 ring, if est then 1#8 else 0#8] ++ leBytes 3 erases
  b ++ [crc8 b]
def markerGroup (epoch : Nat) : List Byte :=
  let b := leBytes 2 epoch ++ List.replicate 5 0#8
  b ++ [crc8 b]

/-- Ring ID, ESTIMATED and ERASES of a valid header (R671). -/
def State.header (s : State) (sec : Nat) : Option (Nat × Bool × Nat) :=
  let b := s.group sec 0
  if natAt b 0 2 == 0x5AF0 && crc8 (b.take 7) == byteAt b 7 && !s.groupBad sec 0 then
    some ((byteAt b 2).toNat, (byteAt b 3).getLsbD 0, natAt b 4 3)
  else none

/-- The epoch of a valid open marker. -/
def State.marker (s : State) (sec : Nat) : Option Nat :=
  let b := s.group sec 1
  if crc8 (b.take 7) == byteAt b 7 && !s.groupBad sec 1 then some (natAt b 0 2) else none

/-- A sector free within its ring (R671). -/
def State.sectorFree (s : State) (sec : Nat) : Bool := (s.header sec).isSome && s.groupErased sec 1

/-- Slots of a sector, and the first group of a slot (R672). -/
def slotsPer (s8 : Nat) : Nat := 62 / (2 + s8)
def slotGroup (s8 i : Nat) : Nat := 2 + i * (2 + s8)

/-- A record as found in a slot (R672). -/
structure FsRecord where
  epoch : Nat
  seq : Nat
  key : Nat
  len : Nat
  data : List Byte
  sector : Nat
  slot : Nat
  deriving DecidableEq, Repr

/-- What a slot holds (R674). -/
inductive SlotState where
  | unused
  | torn
  | failed (key : Nat)
  | valid (r : FsRecord)

/-- The commit group (R672). -/
def commitGroup : List Byte := 0xC3#8 :: List.replicate 7 0#8

/-- Examine a slot of an open sector (R674). -/
def State.slot (s : State) (s8 epoch sec i : Nat) : SlotState :=
  let g0 := slotGroup s8 i
  if (List.range (2 + s8)).all fun k => s.groupErased sec (g0 + k) then .unused
  else
    let gl := g0 + 1 + s8
    if s.group sec gl != commitGroup || s.groupBad sec gl then .torn
    else
      let h := s.group sec g0
      let d := memBytes s.mem (fsAddr sec (g0 + 1)) (8 * s8)
      if (List.range (1 + s8)).any (fun k => s.groupBad sec (g0 + k)) || crc16 (h.take 6 ++ d) != BitVec.ofNat 16 (natAt h 6 2) then
        .failed (byteAt h 0).toNat
      else .valid { epoch := epoch, seq := natAt h 2 4, key := (byteAt h 0).toNat, len := (byteAt h 1).toNat + 1, data := d, sector := sec, slot := i }

/-- The slots of an open sector. -/
def State.slotsOf (s : State) (s8 sec : Nat) : List SlotState :=
  match s.marker sec with
  | none => []
  | some e => if (s.header sec).isSome then (List.range (slotsPer s8)).map (s.slot s8 e sec) else []

/-- The valid records of a sector. -/
def State.sectorRecords (s : State) (s8 sec : Nat) : List FsRecord :=
  (s.slotsOf s8 sec).filterMap fun x => match x with | .valid r => some r | _ => none

/-- An open sector: both groups are valid (R671). -/
def State.sectorOpen (s : State) (sec : Nat) : Bool := (s.header sec).isSome && (s.marker sec).isSome

/-- The first slot of an open sector after the last used one, when there is one (R678). -/
def State.nextSlot (s : State) (s8 sec : Nat) : Option Nat :=
  let used := (s.slotsOf s8 sec).map fun x => match x with | .unused => false | _ => true
  let n := (used.reverse.dropWhile (· == false)).length
  if n < used.length then some n else none

/-- A ring by ID. -/
def State.ring (s : State) (id : Nat) : Option Ring := s.flow.rings.find? fun r => r.id == id

def State.setRing (s : State) (r : Ring) : State :=
  s.setFlow { s.flow with rings := s.flow.rings.map fun x => if x.id == r.id then r else x }

/-- The later of two records by (EPOCH, SEQ) (R675). -/
def FsRecord.later (a b : FsRecord) : Bool := decide (b.epoch < a.epoch) || (a.epoch == b.epoch && decide (b.seq < a.seq))

/-- The latest record of a list; of equal ones, the first. -/
def latest : List FsRecord → Option FsRecord
  | [] => none
  | r :: rs =>
    match latest rs with
    | none => some r
    | some b => some (if b.later r then b else r)

/-- The current record of a key in one ring (R675). -/
def State.currentIn (s : State) (r : Ring) (key : Nat) : Option FsRecord :=
  latest ((r.sectors.flatMap (s.sectorRecords r.s8)).filter fun x => x.key == key)

/-- The copies of a ring or pair: itself, and copy B (section 5). -/
def State.copies (s : State) (r : Ring) : List Ring := if r.mirror then r :: (s.ring (r.id + 1)).toList else [r]

/-- The pair that a ring belongs to, named by copy A. -/
def State.pairOf (s : State) (r : Ring) : Ring :=
  match s.ring (r.id - 1) with
  | some a => if 0 < r.id && a.mirror then a else r
  | none => r

/-- The current record of a key, the winning copy of a pair (R675, R684). -/
def State.current (s : State) (r : Ring) (key : Nat) : Option FsRecord := latest ((s.copies r).filterMap fun c => s.currentIn c key)

/-- The current epoch of a ring or pair: the highest of its open sectors (R679). -/
def State.ringEpoch (s : State) (r : Ring) : Nat :=
  ((s.copies (s.pairOf r)).flatMap fun c => (c.sectors.filter s.sectorOpen).filterMap s.marker).foldl max 0

/-- The next SEQ of a ring or pair (R679). -/
def State.nextSeq (s : State) (r : Ring) : Nat :=
  let e := s.ringEpoch r
  let recs := (s.copies (s.pairOf r)).flatMap fun c => c.sectors.flatMap (s.sectorRecords c.s8)
  ((recs.filter fun x => x.epoch == e).map (·.seq + 1)).foldl max 0

/-- Write one record into a slot in the order of R673; whether it is committed. -/
def State.writeSlot (s : State) (s8 sec slot key len seq : Nat) (data : List Byte) : Bool × State :=
  let d := padTo (8 * s8) data
  let h := [BitVec.ofNat 8 key, BitVec.ofNat 8 (len - 1)] ++ leBytes 4 seq
  let crc := crc16 (h ++ d)
  let groups := (h ++ leBytes 2 crc.toNat) :: (List.range s8).map fun k => (d.drop (8 * k)).take 8
  let g := slotGroup s8 slot
  let (good, s1) := s.programGroups sec g groups
  if good then s1.programGroup sec (g + 1 + s8) commitGroup else (false, s1)

/-- The sector after `sec` in the cycle of a ring (R678). -/
def Ring.after (r : Ring) (sec : Nat) : Nat :=
  match r.sectors.find? (sec < ·) with
  | some n => n
  | none => r.sectors.headD sec

/-- A ring that is read-only by R692. -/
def Ring.exhausted (r : Ring) : Bool :=
  decide (r.sectors.length < 2) || decide ((r.sectors.length - 1) * slotsPer r.s8 - 1 < r.keys)

/-- Make a ring read-only (R692). -/
def State.ringReadOnly (s : State) (r : Ring) : State := if r.ro then s else (s.setRing { r with ro := true }).setLeaf .nvstoreRingRo

/-- Retire a sector of a ring (R691, R692). -/
def State.retire (s : State) (r : Ring) (sec : Nat) : State :=
  let r1 := { r with sectors := r.sectors.filter (· != sec) }
  let s1 := ((s.setFlow { s.flow with retired := s.flow.retired ++ [sec] }).setRing r1).setLeaf .nvstoreSectorRetired
  if r1.exhausted then s1.ringReadOnly r1 else s1

/-- The highest erase count among some sectors (R690). -/
def State.highestErases (s : State) (secs : List Nat) : Nat := (secs.filterMap fun x => (s.header x).map (·.2.2)).foldl max 0

/-- The ESTIMATED bit and erase count of a sector: without a valid header, the highest count of its ring, or of all sectors when its ring
is not known (R690). -/
def State.erasesOf (s : State) (ring : Option Ring) (sec : Nat) : Bool × Nat :=
  match s.header sec with
  | some (_, est, n) => (est, n)
  | none => (true, s.highestErases (match ring with | some r => r.sectors | none => (List.range 62).map (· + 2)))

/-- Erase a sector and write its header with ERASES + 1, for a ring or for the free pool; whether its erase verify is good (R671, R690). -/
def State.renew (s : State) (ring : Option Ring) (sec : Nat) : Bool × State :=
  let (est, erases) := s.erasesOf ring sec
  let (good, s1) := (s.setFlow { s.flow with orphans := s.flow.orphans.filter (· != sec) }).eraseFs sec
  if good then (true, (s1.programGroup sec 0 (headerGroup ((ring.map (·.id)).getD 0xFF) est (erases + 1))).2) else (false, s1)

/-- Three record writes have failed in a sector (R691). -/
def FlowBlock.isWorn (f : FlowBlock) (sec : Nat) : Bool := decide (3 ≤ f.worn.countP (· == sec))

/-- A sector that is due for erase is retired instead: it has been erased 100,000 times, or three record writes in it have failed (R691). -/
def State.wornOut (s : State) (ring : Option Ring) (sec : Nat) : Bool :=
  decide (100000 ≤ (s.erasesOf ring sec).2) || s.flow.isWorn sec

/-- A sector of no ring is retired (R691). -/
def State.retireFree (s : State) (sec : Nat) : State :=
  (s.setFlow { s.flow with
    retired := s.flow.retired ++ [sec]
    pool := s.flow.pool.filter (· != sec)
    orphans := s.flow.orphans.filter (· != sec) }).setLeaf .nvstoreSectorRetired

/-- Recycle a sector of a ring, or retire it (R678 step 3, R691). -/
def State.recycle (s : State) (r : Ring) (sec : Nat) : State :=
  if s.wornOut (some r) sec then s.retire r sec
  else
    let (good, s1) := s.renew (some r) sec
    if good then s1 else s1.retire r sec

/-- Append one record to the head, when it has room; whether it is committed. A write that fails counts against the sector. -/
def State.appendHead (s : State) (id key len seq : Nat) (data : List Byte) : Bool × State :=
  match s.ring id with
  | none => (false, s)
  | some r =>
    match r.head with
    | none => (false, s)
    | some h =>
      match s.nextSlot r.s8 h with
      | none => (false, s)
      | some i =>
        let (good, s1) := s.writeSlot r.s8 h i key len seq data
        if good then (true, s1) else (false, s1.setFlow { s1.flow with worn := h :: s1.flow.worn })

/-- Copy one record into the head with a new SEQ, in up to three attempts (R673, R678). -/
def State.copyRecord (s : State) (id : Nat) (x : FsRecord) : Nat → Bool × State
  | 0 => (false, s)
  | n + 1 =>
    match s.ring id with
    | none => (false, s)
    | some r =>
      let (good, s1) := s.appendHead id x.key x.len (s.nextSeq r) x.data
      if good then (true, s1) else s1.copyRecord id x n

/-- Copy the current records held in a sector into the head (R678 step 2); whether all were copied. -/
def State.moveRecords (s : State) (id : Nat) : List FsRecord → Bool × State
  | [] => (true, s)
  | x :: xs =>
    match s.ring id with
    | none => (false, s)
    | some r =>
      if s.currentIn r x.key == some x then
        let (good, s1) := s.copyRecord id x 3
        if good then s1.moveRecords id xs else (false, s1)
      else s.moveRecords id xs

/-- Reclaim one sector into the head (R678 steps 2 and 3). -/
def State.reclaimSector (s : State) (id sec : Nat) : Bool × State :=
  match s.ring id with
  | none => (false, s)
  | some r =>
    let (good, s1) := s.moveRecords id (s.sectorRecords r.s8 sec)
    match s1.ring id with
    | none => (false, s1)
    | some r1 => if good then (true, s1.recycle r1 sec) else (false, s1)

/-- Open a free sector as the head under an epoch (R678 step 1); one whose marker cannot be programmed is erased again when it is next due. -/
def State.openHead (s : State) (r : Ring) (sec epoch : Nat) : State :=
  let (good, s1) := s.programGroup sec 1 (markerGroup epoch)
  if good then s1.setRing { r with head := some sec } else s1

/-- The head of a ring has a free slot and a free sector after it (R678). -/
def State.headReady (s : State) (r : Ring) : Bool :=
  match r.head with
  | some h => s.sectorFree (r.after h) && (s.nextSlot r.s8 h).isSome
  | none => false

/-- Bring a ring to a head with room and a free sector after it, reclaiming as R678 states; whether that was reached (R692). -/
def State.makeRoom (s : State) (id : Nat) : Nat → Bool × State
  | 0 => (false, s)
  | fuel + 1 =>
    match s.ring id with
    | none => (false, s)
    | some r =>
      if r.ro then (false, s)
      else if s.headReady r then (true, s)
      else
        match r.head with
        | some h =>
          let n := r.after h
          if s.sectorFree n then (s.openHead r n (s.ringEpoch r)).makeRoom id fuel
          else
            let (good, s1) := s.reclaimSector id n
            if good then s1.makeRoom id fuel else (false, s1)
        | none =>
          match r.sectors.find? s.sectorFree with
          | some sec => (s.openHead r sec (s.ringEpoch r)).makeRoom id fuel
          | none =>
            match r.sectors.find? fun x => !s.sectorOpen x with
            | some sec => (s.recycle r sec).makeRoom id fuel
            | none => (false, s)

/-- Write a record into one copy, in up to three attempts (R673): its SEQ. It keeps `seq` while the head has room; a reclaim on the way
takes later SEQ values, so the record then takes the next (R679, R681). -/
def State.writeCopy (s : State) (id key len seq : Nat) (data : List Byte) : Nat → Option Nat × State
  | 0 => (none, s)
  | n + 1 =>
    match s.ring id with
    | none => (none, s)
    | some r =>
      let ready := s.headReady r
      let (room, s1) := if ready then (true, s) else s.makeRoom id 40
      if !room then (none, s1)
      else
        let seq' := if ready then seq else s1.nextSeq r
        let (good, s2) := s1.appendHead id key len seq' data
        if good then (some seq', s2) else s2.writeCopy id key len seq' data n

/-- Room in each of some copies, and the record written into each, with one SEQ (R678, R679, R682). -/
def State.roomInAll (s : State) : List Ring → Bool × State
  | [] => (true, s)
  | c :: cs =>
    let (room, s1) := s.makeRoom c.id 40
    if room then s1.roomInAll cs else (false, s1)
def State.writeAll (s : State) (key len seq : Nat) (data : List Byte) : List Ring → Option Nat × State
  | [] => (some seq, s)
  | c :: cs =>
    match s.writeCopy c.id key len seq data 3 with
    | (some q, s1) => s1.writeAll key len q data cs
    | (none, s1) => (none, s1)

/-- Write one record of some copies of ring `r` under the next SEQ, which is taken after the reclaim that makes room (R678, R679). -/
def State.writeNext (s : State) (r : Ring) (copies : List Ring) (key len : Nat) (data : List Byte) : Option Nat × State :=
  let (room, s1) := s.roomInAll copies
  if room then s1.writeAll key len (s1.nextSeq r) data copies else (none, s1)

/-- The retirement map as a REPAIR record (R691). -/
def State.retirementMap (s : State) : List Byte :=
  leBytes 8 (s.flow.retired.foldl (fun m sec => m + 2 ^ sec) 0) ++ List.replicate 16 0#8

/-- Commit the retirement map when it has changed since `old` (R691). -/
def State.saveMap (s : State) (old : List Nat) : State :=
  if s.flow.retired == old then s
  else
    match s.ring 9 with
    | none => s
    | some r => (s.writeNext r [r] 4 24 s.retirementMap).2

/-- Compaction of a ring or pair: new heads under EPOCH + 1, then every current record again (R680). -/
def State.compact (s : State) (r : Ring) : State :=
  let recs := (List.range r.keys).filterMap (s.current r)
  let e := s.ringEpoch r
  let s1 := (s.copies r).foldl (fun s c =>
    let s' := (s.makeRoom c.id 40).2
    match s'.ring c.id with
    | some c' => (match c'.head with | some h => s'.openHead c' (c'.after h) (e + 1) | none => s')
    | none => s') s
  recs.foldl (fun s x => (s.writeNext r (s.copies r) x.key x.len x.data).2) s1

/-- Before a write: compaction when the next SEQ would be the last, or read-only at the last epoch (R680). -/
def State.beforeWrite (s : State) (r : Ring) : State :=
  if s.nextSeq r < 0xFFFFFFFF then s
  else if 65535 ≤ s.ringEpoch r then (s.copies r).foldl (fun s c => s.ringReadOnly c) s
  else s.compact r

/-- A ring or pair that refuses writes (R682, R692). -/
def State.isReadOnly (s : State) (r : Ring) : Bool := (s.copies r).any (·.ro)

/-- A disagreement between the copies of a key is resolved: leaf, counts, and the losing copy is rewritten (R683, R684). -/
def State.resolveKey (s : State) (r : Ring) (key : Nat) : State :=
  match s.ring (r.id + 1) with
  | none => s
  | some b =>
    let ra := s.currentIn r key
    let rb := s.currentIn b key
    let agree := match ra, rb with
      | none, none => true
      | some x, some y => x.len == y.len && x.data == y.data
      | _, _ => false
    if agree then s
    else
      let s1 := (s.setFlow { s.flow with
        diverge := satAdd 255 s.flow.diverge 1, divergeValid := true, divergeRing := r.id, divergeKey := key }).setLeaf .nvstoreDiverge
      match latest (ra.toList ++ rb.toList) with
      | none => s1
      | some w =>
        let loser := if ra == some w then b else r
        if s.isReadOnly r || s.power.bodWarn then s1 else (s1.writeNext r [loser] key w.len w.data).2

/-- Write a record of a ring or pair, copy A and then copy B with one SEQ (R673, R682): its SEQ when it is committed. A pair whose copy B
is not committed is compared and resolved (R683). -/
def State.commitRecord (s : State) (id key len : Nat) (data : List Byte) : Option Nat × State :=
  match s.ring id with
  | none => (none, s)
  | some r =>
    let s1 := s.beforeWrite r
    let (seq, s2) := s1.writeNext r (s1.copies r) key len data
    let s3 := if seq.isNone && r.mirror then (match s2.ring id with | some r2 => s2.resolveKey r2 key | none => s2) else s2
    (seq, s3.saveMap s.flow.retired)

/-- Status codes of R709. -/
def stOk : Byte := 0x00
def stEmpty : Byte := 0x01
def stNoRing : Byte := 0x02
def stBadKey : Byte := 0x03
def stBadLen : Byte := 0x04
def stRingRo : Byte := 0x05
def stCounterEnd : Byte := 0x06
def stNvFail : Byte := 0x07
def stAlreadySet : Byte := 0x08
def stProtected : Byte := 0x09
def stBusy : Byte := 0x0A
def stEpochOrder : Byte := 0x0B
def stDupId : Byte := 0x0C
def stDenied : Byte := 0x0D
def stBadReq : Byte := 0x0E
def stBadArg : Byte := 0x0F
def stLowSupply : Byte := 0x10

/-- Write a record and report a status: OK, RING_RO, NV_FAIL (R699). -/
def State.store (s : State) (id key len : Nat) (data : List Byte) : Byte × Nat × State :=
  match s.ring id with
  | none => (stNoRing, 0, s)
  | some r =>
    if s.isReadOnly r then (stRingRo, 0, s)
    else
      match s.commitRecord id key len data with
      | (some seq, s1) => (stOk, seq, s1)
      | (none, s1) => (if ((s1.ring id).map s1.isReadOnly).getD false then stRingRo else stNvFail, 0, s1)

/-- The data of the current record of a key; none when the ring or the record is missing. -/
def State.load (s : State) (id key : Nat) : Option FsRecord := (s.ring id).bind fun r => s.current r key

/-- Resolve every key of a pair. -/
def State.resolvePair (s : State) (r : Ring) : State := (List.range r.keys).foldl (fun s k => s.resolveKey r k) s

/-- Each failed record of a sector is counted and reported once (R674) (DEDUCED, assumption 45). -/
def State.noteFailed (s : State) (r : Ring) (sec : Nat) : State :=
  (s.slotsOf r.s8 sec).zipIdx.foldl (fun s x =>
    let a := fsAddr sec (slotGroup r.s8 x.2)
    match x.1 with
    | .failed _ => whenDo (!s.flow.noted.contains a) s
        ((s.setFlow { s.flow with uncorr := satAdd 255 s.flow.uncorr 1, noted := a :: s.flow.noted }).setLeaf .nvstoreUncorr)
    | _ => s) s

/-- The failed records of a ring or pair. -/
def State.noteRing (s : State) (r : Ring) : State :=
  (s.copies r).foldl (fun s c => c.sectors.foldl (fun s sec => s.noteFailed c sec) s) s

/-- Groups of a record with a corrected error. -/
def State.recordCorrected (s : State) (s8 : Nat) (x : FsRecord) : Bool :=
  (List.range (2 + s8)).any fun k => s.integ.corrGroups.contains (fsAddr x.sector (slotGroup s8 x.slot + k))

/-- FLOWSTONE_RECLAIM: Lantern brings the ring to a head with room (R678). -/
def State.background (s : State) (id : Nat) : State :=
  let old := s.flow.retired
  (s.makeRoom id 40).2.saveMap old

/-- Lantern's Flowstone work runs: the device is out of reset, not in HIBERNATE, and no supply warning holds background work (R701, R731). -/
def State.flowRuns (s : State) : Bool := s.power.hold == .none && s.power.mode != .hibernate
def State.flowBackground (s : State) : Bool := s.flowRuns && !s.power.bodWarn

def execFlowstoneReclaim (ring : Fin 32) (s : State) : Out :=
  ok (match s.ring ring with
    | some r => whenDo (s.flowBackground && r.head.isSome && !r.ro) s (s.background ring)
    | none => s)

/-- A patrol visit of one sector (R693). -/
def State.patrolSector (s : State) (sec : Nat) : State :=
  if sec < 2 then
    let n := (List.range 64).countP fun g => s.integ.corrGroups.contains (fsAddr sec g)
    s.setFlow { s.flow with refresh := satAdd 65535 s.flow.refresh n }
  else
    match s.flow.rings.find? fun r => r.sectors.contains sec with
    | none => s
    | some r =>
      let s1 := s.noteFailed r sec
      let s2 := (s1.sectorRecords r.s8 sec).foldl (fun s x =>
        if s.currentIn r x.key == some x && s.recordCorrected r.s8 x && !r.ro then
          let s' := (s.writeNext r [r] x.key x.len x.data).2
          s'.setFlow { s'.flow with refresh := satAdd 65535 s'.flow.refresh 1 }
        else s) s1
      let a := s2.pairOf r
      if a.mirror then s2.resolvePair a else s2

/-- PATROL_VISIT: the next of the 64 sectors (R693). -/
def execPatrolVisit (s : State) : Out :=
  let old := s.flow.retired
  let s1 := (s.patrolSector s.flow.patrol).saveMap old
  ok (whenDo s.flowBackground s (s1.setFlow { s1.flow with patrol := (s.flow.patrol + 1) % 64 }))

/-- The planned sector count of a system ring (R676). -/
def plannedSectors (id : Nat) : Nat := [3, 2, 3, 3, 3, 8, 8, 4, 4, 2, 2].getD id 0

/-- The system rings as first formatted: ID, S / 8, K, copy A of a pair (R676). -/
def systemRings : List (Nat × Nat × Nat × Bool) :=
  [(0, 8, 2, false), (1, 2, 1, false), (2, 1, 16, false), (3, 5, 8, true), (4, 5, 8, false), (5, 4, 64, true), (6, 4, 64, false),
   (7, 16, 8, true), (8, 16, 8, false), (9, 3, 5, false), (10, 2, 1, false)]

/-- Erase a sector into the free pool, or retire it (R691, R694). -/
def State.toPool (s : State) (sec : Nat) : State :=
  if s.wornOut none sec then s.retireFree sec
  else
    let (good, s1) := s.renew none sec
    if good then s1.setFlow { s1.flow with pool := (s1.flow.pool ++ [sec]).mergeSort (· ≤ ·) } else s1.retireFree sec

/-- Erase an orphan, for the ring it was given to or for the free pool (R694). -/
def State.adoptOrphan (s : State) (sec : Nat) : State :=
  match s.flow.rings.find? fun r => r.sectors.contains sec with
  | some r => s.recycle r sec
  | none => s.toPool sec

/-- ORPHAN_ERASE: the next orphan (R694). -/
def execOrphanErase (s : State) : Out :=
  ok (match s.flow.orphans with
    | [] => s
    | sec :: _ => whenDo s.flowBackground s ((s.adoptOrphan sec).saveMap s.flow.retired))

end Sys2Proof.Machine
end

