-- ==== Sys2Proof/Machine/Integrity.lean ====
section
/-!
DEFINITION. Memory integrity: clearing, reports of corrected errors, scrub and row repair, the line window (15_memory_integrity.md).
-/
namespace Sys2Proof.Machine

/-- A spare serves the SRAM row of a word (R618). -/
def IntegrityBlock.served (g : IntegrityBlock) (a : Nat) : Bool :=
  decide (0x20000000 ≤ a) && ((g.repair.getD ((a - 0x20000000) / 0x10000) {}).spares.toList.contains
    (.serves ((a - 0x20000000) % 0x10000 / 128)))

/-- The cells behind a word fail: they read as uncorrectable whatever is written (R618, R762). -/
def IntegrityBlock.fails (g : IntegrityBlock) (a : Nat) : Bool := g.deadWords.contains a && !g.served a

/-- Clear SRAM or DTCM words of an address range, errors included except those of failing cells (R610). -/
def State.clearWords (s : State) (lo hi : Nat) : State :=
  { s with
    mem := memClear s.mem lo hi
    integ.corrWords := outside lo hi s.integ.corrWords
    integ.uncorrWords := s.integ.uncorrWords.filter fun a => decide (a < lo) || decide (hi ≤ a) || s.integ.fails a }

/-- Clear the gallery: every line 0 with check 0 (R610). -/
def State.clearGallery (s : State) : State :=
  { s with mem := memClear s.mem 0x30000000 0x30004000, integ.lineCheck := Vector.replicate 128 0 }

/-- Where a corrected error was found: 0 SRAM, 1 DTCM, 2 FLASH, 3 FLOWSTONE (CS_ECCREG). -/
def eccRegion (a : Nat) : BitVec 2 :=
  if a < 0x10000000 then 2 else if a < 0x20000000 then 1 else if a < 0x30000000 then 0 else 3

/-- Report a corrected error of a core read (R606, R608, R609). -/
def State.reportCorr (s : State) (a : Nat) : State :=
  { s with integ.corr := satInc s.integ.corr, integ.eccAddr := BitVec.ofNat 32 a, integ.eccReg := eccRegion a }.setLeaf .coreEccCorr

/-- First byte of scrub row `i` (R614). -/
def rowBase (i : Nat) : Nat := if i < 2048 then 0x20000000 + 128 * i else 0x10000000 + 128 * (i - 2048)

/-- Rows that the mode retains (R120, R615). -/
def State.retainedRows (s : State) : Nat :=
  match s.power.mode with
  | .sleep => 512
  | .deep => 128
  | _ => 2304

/-- Words of a row held in a list. -/
def rowWords (i : Nat) (l : List Nat) : List Nat := l.filter fun a => decide (rowBase i ≤ a) && decide (a < rowBase i + 128)

/-- The REPAIR record of a block (R622). -/
def repairRecord (b : Nat) (r : Repair) : List Byte :=
  let used := (r.spares.toList.filter (· != .free)).length
  let entry : Spare → List Byte := fun x => match x with
    | .free => leBytes 2 0xFFFF
    | .serves row => leBytes 2 row
    | .retired => leBytes 2 0xFFFE
  [BitVec.ofNat 8 b, BitVec.ofNat 8 used] ++ r.spares.toList.flatMap entry ++ List.replicate 6 0#8

def State.setRepair (s : State) (b : Fin 4) (r : Repair) : State := { s with integ.repair := s.integ.repair.set b r }

/-- Commit a block's REPAIR record; it waits while a supply warning lasts (R618, R731). -/
def State.saveRepair (s : State) (b : Fin 4) : State :=
  let r := s.integ.repair[b]
  if s.power.bodWarn then s.setRepair b { r with unsaved := true, waiting := true }
  else
    let (st, _, s1) := s.store 9 b 24 (repairRecord b r)
    s1.setRepair b { s1.integ.repair[b] with unsaved := st != stOk, waiting := false }

/-- A record of a block as boot applies it: bad entries, and the lower of two that name one row, are retired (R622). -/
def repairOf (b : List Byte) : Vector Spare 8 :=
  let raw : Nat → Spare := fun i =>
    let v := natAt b (2 + 2 * i) 2
    if v < 0x200 then .serves v else if v = 0xFFFF then .free else .retired
  Vector.ofFn fun (i : Fin 8) =>
    match raw i with
    | .serves row => if (List.range 8).any (fun j => decide (i.val < j) && raw j == .serves row) then .retired else .serves row
    | x => x

/-- Remap SRAM row `row` of block `b` to the lowest free spare; a spare that served it is retired (R618 to R620). The copy corrects the
row's single errors. -/
def State.remapRow (s : State) (b : Fin 4) (row i : Nat) : State :=
  let r := s.integ.repair[b]
  match (List.finRange 8).find? fun (k : Fin 8) => r.spares[k] == .free with
  | none => s.setLeaf .mgmtRamSparesOut
  | some k =>
    let old := r.spares.map fun x => if x == .serves row then .retired else x
    let good := rowWords i s.integ.corrWords
    let s1 := { s with integ.corrWords := s.integ.corrWords.filter fun a => !good.contains a }
    ((s1.setRepair b { r with spares := old.set k (.serves row) }).setLeaf .mgmtRamRemap).saveRepair b

/-- A visit of row `i` (R616, R617, R621). -/
def State.scrubRow (s : State) (i : Nat) : State :=
  let fixed := rowWords i s.integ.corrWords
  let lost := rowWords i s.integ.uncorrWords
  let s1 := { s with integ.corrWords := s.integ.corrWords.filter fun a => !fixed.contains a }
  let s2 := match lost.getLast? with
    | some a => { s1 with integ.scrubErr := BitVec.ofNat 32 a }.setLeaf .mgmtRamUncorr
    | none => s1
  let due := decide (3 ≤ fixed.length) || !lost.isEmpty
  if i < 2048 then
    let b : Fin 4 := Fin.ofNat 4 (i / 512)
    let r := s2.integ.repair[b]
    let s3 := s2.setRepair b { r with corr := BitVec.ofNat 16 (satAdd 65535 r.corr.toNat fixed.length) }
    if due then s3.remapRow b (i % 512) i else s3
  else s2.setLeafIf due .mgmtDtcmWeak

/-- SCRUB_VISIT: the next row that the mode retains (R614 to R616). -/
def State.scrubVisit (s : State) : State :=
  let n := s.retainedRows
  let skip := decide (n ≤ s.integ.scrubRow)
  let i := if skip then 0 else s.integ.scrubRow
  let s1 := s.scrubRow i
  let last := decide (n ≤ i + 1)
  let p1 := if skip then satInc s1.integ.scrubPasses else s1.integ.scrubPasses
  { s1 with integ.scrubRow := if last then 0 else i + 1, integ.scrubPasses := if last then satInc p1 else p1 }

def execScrubVisit (s : State) : Out := ok (whenDo s.flowRuns s s.scrubVisit)

/-- A core read through the line window that touches the last word of a line (R628). -/
def State.verifyLine (s : State) (n : Nat) : State :=
  let put : BitVec 2 → State := fun r => { s with integ.lwLine := BitVec.ofNat 7 n, integ.lwResult := r }
  if s.seen.link.ownerOf n != .core then put 3
  else if s.lineGood n then put 1
  else { put 2 with integ.lwBad := satInc s.integ.lwBad }.setLeaf .coreLineCheck

/-- CS_LWSTAT (R633). -/
def IntegrityBlock.lwStat (g : IntegrityBlock) : Word :=
  fld 24 g.lwBad ||| fld 16 g.lwWrLine ||| flag 15 g.lwWrDisc ||| fld 8 g.lwResult ||| fld 0 g.lwLine

/-- LT_REPAIRn (R633). -/
def Repair.reg (r : Repair) : Word :=
  let n : Spare → Nat := fun x => (r.spares.toList.filter (· == x)).length
  fld 16 r.corr ||| flag 8 r.unsaved ||| nfld 4 (n .retired) ||| nfld 0 (n .free)

end Sys2Proof.Machine
end

