-- ==== Sys2Proof/Machine/Flash.lean ====
section
/-!
DEFINITION. Main flash: command sequence, operations of both ports, the status word of a busy bank (16_flash.md).
-/
namespace Sys2Proof.Machine

/-- First byte of main flash (R634). -/
def flashBase : Nat := 0x08000000

/-- The bank of an address (R634). -/
def bankOf (a : Nat) : Nat := if a < 0x08080000 then 0 else 1

/-- Bank `b` holds the address of the running operation (R648). -/
def FlashBlock.bankBusy (f : FlashBlock) (b : Nat) : Bool := (f.run.map fun o => bankOf o.addr == b).getD false

/-- An address of main flash in a busy bank. -/
def FlashBlock.busyAt (f : FlashBlock) (a : Nat) : Bool := decide (flashBase ≤ a) && decide (a < 0x08100000) && f.bankBusy (bankOf a)

/-- A unit all of whose 137 bits are 1 (R636). -/
def State.unitErased (s : State) (a : Nat) : Bool :=
  (memBytes s.mem a 16).all (· == 0xFF) && !s.integ.onesUnits.contains a && !s.integ.corrUnits.contains a && !s.integ.uncorrUnits.contains a

/-- The first unit of a sector that is not erased. -/
def State.firstProgrammed (s : State) (a : Nat) : Option Nat := ((List.range 256).map fun i => a + 16 * i).find? fun u => !s.unitErased u

/-- Sectors of the data area (R655). -/
def FlashBlock.inDataArea (f : FlashBlock) (sector : Nat) : Bool :=
  decide (f.areaFirst.toNat ≤ sector) && decide (sector < f.areaFirst.toNat + f.areaCount.toNat)

/-- The controller's error codes (R647). -/
def flBadCmd : BitVec 4 := 1
def flAddr : BitVec 4 := 2
def flProtected : BitVec 4 := 3
def flProgOver : BitVec 4 := 4
def flVerify : BitVec 4 := 5
def flNotErased : BitVec 4 := 6

/-- Checks 2 to 4 of a start write (R645, R656): 0 when they pass. -/
def FlashBlock.checkStart (f : FlashBlock) : BitVec 4 :=
  let a := f.addr.toNat
  let sector := (a - flashBase) / 4096
  if f.cmd = 0 || 3 < f.cmd.toNat then flBadCmd
  else if a < flashBase || 0x08100000 ≤ a || (f.cmd = 1 && a % 16 != 0) || (f.cmd != 1 && a % 4096 != 0) then flAddr
  else if f.cmd != 3 && !f.inDataArea sector then flProtected
  else 0

/-- A core-port operation ends: status, result and leaves (R647). -/
def State.flashDone (s : State) (err : BitVec 4) (result : Nat) : State :=
  ({ s with flash.err := err, flash.result := BitVec.ofNat 32 result, flash.done := true }.setLeaf .flashDone).setLeafIf
    (err != 0 && decide (err.toNat ≤ 5)) .flashError

/-- A start write is refused (R638 to R640). -/
def State.flashRefuse (s : State) (why : BitVec 2) : State :=
  { s with flash.refused := true, flash.refwhy := why }.setLeaf .flashRefused

/-- The start write (R645). -/
def State.flashStart (s : State) : State :=
  let s := { s with flash.seq := .closed }
  let f := s.flash
  if f.run.isSome || (!f.waiting.isEmpty && !s.power.bodWarn) then s.flashRefuse 1
  else if s.power.bodWarn then s.flashRefuse 2
  else
    let e := f.checkStart
    let s1 := { s with flash.op := f.cmd }
    if e != 0 then s1.flashDone e f.addr.toNat
    else
      { s1 with
        flash.run := some { port := .core, cmd := f.cmd, addr := f.addr.toNat, data := wordsToBytes f.data.toList }
        flash.toggle := false }

/-- A sequence is cancelled (R644). -/
def State.seqCancel (s : State) : State := { s with flash.seq := .closed, flash.seqErr := true }.setLeaf .flashRefused

/-- Store an FL_ value register (R644, R662). -/
def FlashBlock.put (f : FlashBlock) (off : Nat) (v : Word) : FlashBlock :=
  match off with
  | 0x04 => { f with cmd := bits v 0 4 }
  | 0x08 => { f with addr := v }
  | 0x0C => { f with data := f.data.set 0 v }
  | 0x10 => { f with data := f.data.set 1 v }
  | 0x14 => { f with data := f.data.set 2 v }
  | 0x18 => { f with data := f.data.set 3 v }
  | _ => f

/-- Write-1-to-clear bits of FL_STATUS and FL_LAST (R662). -/
def FlashBlock.clearBits (f : FlashBlock) (off : Nat) (v : Word) : FlashBlock :=
  match off with
  | 0x1C => { f with seqErr := f.seqErr && !bitAt v 10, refused := f.refused && !bitAt v 9, done := f.done && !bitAt v 8 }
  | 0x28 => { f with last := if bitAt v 31 then f.last &&& 0x7FFFFFFF#32 else f.last }
  | _ => f

/-- The register that an open sequence expects next (R642). -/
def FlashSeq.expects : FlashSeq → Option Nat
  | .closed => none
  | .key2 => some 0x00
  | .cmd => some 0x04
  | .addr => some 0x08
  | .data n => some (0x0C + 4 * n.val)

/-- The sequence after the expected write; a command without a data list of its own expects FL_DATA3 (R642). -/
def FlashBlock.advance (f : FlashBlock) : FlashSeq :=
  match f.seq with
  | .key2 => .cmd
  | .cmd => .addr
  | .addr => if f.cmd = 1 then .data 0 else .data 3
  | .data 0 => .data 1
  | .data 1 => .data 2
  | .data 2 => .data 3
  | _ => .closed

/-- A write to an FL_ register arrives (R642 to R644). -/
def State.flashWrite (s : State) (off : Nat) (v : Word) : State :=
  let f := s.flash
  let kept := { s with flash := (f.put off v).clearBits off v }
  if off = 0 && bits v 0 8 = 0xA5 then
    (if f.seq == .closed then { s with flash.seq := .key2 } else { s.seqCancel with flash.seq := .key2 })
  else match f.seq.expects with
  | none => kept
  | some e =>
    if e != off || (off = 0 && bits v 0 8 != 0x5A) then kept.seqCancel
    else if f.seq == .data 3 then kept.flashStart
    else { kept with flash.seq := kept.flash.advance }

/-- The core can write a register: it runs, and the device is not held in reset or stopped (R119). -/
def State.coreRuns (s : State) : Bool :=
  s.power.hold == .none && !s.core.doze && !s.core.stopped &&
    (match s.power.mode with
    | .run | .service | .sump => true
    | _ => false)

/-- FL_KEY: a write of `value` to the key register (R642). -/
def execFlKey (value : Word) (s : State) : Out := ok (whenDo s.coreRuns s (s.flashWrite 0 value))

/-- The start write of a sequence that holds this command (R642, R645). -/
def State.startWrite (s : State) (cmd : BitVec 4) (v : Word) : State :=
  whenDo (s.coreRuns && s.flash.seq == .data 3 && s.flash.cmd == cmd) s (s.flashWrite 0x18 v)

def execProgram (value : Word) (s : State) : Out := ok (s.startWrite 1 value)
def execErase (value : Word) (s : State) : Out := ok (s.startWrite 2 value)
def execBlankCheck (value : Word) (s : State) : Out := ok (s.startWrite 3 value)

/-- FLASH_SEQ_TIMEOUT: 32 CCLK cycles pass without the next write (R643, R644). -/
def execFlashSeqTimeout (s : State) : Out := ok (whenDo (s.flash.seq != .closed) s s.seqCancel)

/-- The content of a unit becomes undefined (R647, R658). -/
def State.scrambleUnit (s : State) (a : Nat) : State :=
  let (u, s1) := s.drawBytes 16
  let (k, s2) := s1.draw 4
  let drop := outside a (a + 16)
  { s2 with
    mem := memPutBytes s2.mem a u
    integ.onesUnits := if k = 1 then a :: drop s2.integ.onesUnits else drop s2.integ.onesUnits
    integ.corrUnits := if k = 2 then a :: drop s2.integ.corrUnits else drop s2.integ.corrUnits
    integ.uncorrUnits := if k = 3 then a :: drop s2.integ.uncorrUnits else drop s2.integ.uncorrUnits }

/-- Every unit of a sector becomes undefined. -/
def State.scrambleSector (s : State) (a : Nat) : State := (List.range 256).foldl (fun s i => s.scrambleUnit (a + 16 * i)) s

/-- Erase a sector. -/
def State.eraseSector (s : State) (a : Nat) : State :=
  { s with
    mem := memClear s.mem a (a + 4096)
    integ.onesUnits := outside a (a + 4096) s.integ.onesUnits
    integ.corrUnits := outside a (a + 4096) s.integ.corrUnits
    integ.uncorrUnits := outside a (a + 4096) s.integ.uncorrUnits }

/-- Flash read buffer lines of a sector are invalidated (R647, R451). -/
def State.dropLines (s : State) (a : Nat) : State :=
  let lo := a - a % 4096
  { s with core.flashBuf := s.core.flashBuf.filter fun l => decide (l.unit < lo) || decide (lo + 4096 ≤ l.unit) }

/-- Carry an operation of the array to its end: error code and the address it names (R646, R647). -/
def State.flashEffect (s : State) (o : FlashOp) : BitVec 4 × Nat × State :=
  match o.cmd with
  | 1 =>
    if !s.unitErased o.addr then (flProgOver, o.addr, s)
    else if s.integ.deadUnits.contains o.addr then (flVerify, o.addr, (s.scrambleUnit o.addr).dropLines o.addr)
    else
      let s1 := { s with mem := memPutBytes s.mem o.addr o.data }
      let s2 := if o.data.all (· == 0xFF) then { s1 with integ.onesUnits := o.addr :: s1.integ.onesUnits } else s1
      (0, o.addr, s2.dropLines o.addr)
  | 2 =>
    let s1 := (s.lifeAdd 16 1).dropLines o.addr
    if s.integ.deadSectors.contains o.addr then
      let (k, s2) := (s1.scrambleSector o.addr).draw 256
      (flVerify, o.addr + 16 * k, s2)
    else (0, o.addr, s1.eraseSector o.addr)
  | _ =>
    match s.firstProgrammed o.addr with
    | some u => (flNotErased, u, s)
    | none => (0, o.addr, s)

/-- The status word that a load from the busy bank returns; each such load inverts TOGGLE (R648). -/
def FlashBlock.statusWord (f : FlashBlock) : Word :=
  let op : BitVec 4 := match f.run with
    | some o => if o.port == .core then o.cmd else 0xF
    | none => 0
  flag 31 true ||| flag 30 f.toggle ||| fld 24 op

/-- FL_STATUS (R662). -/
def FlashBlock.status (f : FlashBlock) : Word :=
  let own := (f.run.map fun o => o.port == .core).getD false
  fld 16 f.refwhy ||| flag 15 own ||| flag 13 (f.bankBusy 1) ||| flag 12 (f.bankBusy 0) ||| flag 11 (f.seq != .closed) |||
    flag 10 f.seqErr ||| flag 9 f.refused ||| flag 8 f.done ||| fld 4 f.op ||| fld 0 f.err

/-- The value of an FL_ register (R662). -/
def FlashBlock.read (f : FlashBlock) (off : Nat) : Option Word :=
  match off with
  | 0x00 => some 0
  | 0x04 => some (fld 0 f.cmd)
  | 0x08 => some f.addr
  | 0x0C => some f.data[0]
  | 0x10 => some f.data[1]
  | 0x14 => some f.data[2]
  | 0x18 => some f.data[3]
  | 0x1C => some f.status
  | 0x20 => some f.result
  | 0x24 => some (fld 16 f.areaCount ||| fld 0 f.areaFirst)
  | 0x28 => some f.last
  | _ => none

/-- A reset cuts the running operation: its unit or sector is undefined and FL_LAST records it (R658). -/
def State.cutFlash (s : State) : State :=
  match s.flash.run with
  | none => s
  | some o =>
    let s1 := match o.cmd with
      | 1 => s.scrambleUnit o.addr
      | 2 => s.scrambleSector o.addr
      | _ => s
    { s1 with
      flash.run := none
      flash.last := flag 31 true ||| flag 30 (o.port == .update) ||| fld 24 o.cmd ||| nfld 0 ((o.addr - flashBase) / 4096) }

end Sys2Proof.Machine
end

