-- ==== Sys2Proof/Machine/Sha.lean ====
section
/-!
DEFINITION. The SHA-256 accelerator (14_peripherals.md, 7).
-/
namespace Sys2Proof.Machine

/-- A byte that the accelerator may read (R598). -/
def shaReadable (a : Nat) : Bool :=
  decide (a < 0x8000) || (decide (0x08000000 ≤ a) && decide (a < 0x08100000)) || (decide (0x10000000 ≤ a) && decide (a < 0x10008000)) ||
    (decide (0x20000000 ≤ a) && decide (a < 0x20040000)) || (decide (0x30000000 ≤ a) && decide (a < 0x30004000))

/-- An uncorrectable error covers a byte (R599). -/
def State.byteBad (s : State) (a : Nat) : Bool :=
  s.integ.uncorrWords.contains (a - a % 4) || s.integ.uncorrUnits.contains (a - a % 16)

/-- The reason for which a byte ends a run, 0 for none; the order of the table (R599). -/
def State.shaByteReason (s : State) (a : Nat) : Byte :=
  if !shaReadable a then 1 else if s.byteBad a then 2 else if s.flash.busyAt a then 3 else 0

/-- The reason for which a run ends, 0 for none: LENGTH, then that of the first failing byte. -/
def State.shaReason (s : State) (mode : BitVec 2) (a len : Nat) : Byte :=
  if !mode.getLsbD 1 && len % 64 != 0 then 4
  else
    match (List.range len).find? fun i => s.shaByteReason (a + i) != 0 with
    | some i => s.shaByteReason (a + i)
    | none => 0

/-- A write of 1 to GP_SHA_CTRL.START (R598, R599). -/
def State.shaStart (s : State) : State :=
  let h := s.periph.sha
  if h.run.isSome then { s with periph.sha := { h with err := true, reason := 5 } }.setLeaf .periphSha
  else
    let a := h.addr.toNat
    let n := h.len.toNat
    let r := s.shaReason h.mode a n
    let src := if r != 0 then [] else memBytes s.mem a n
    { s with periph.sha.run := some { mode := h.mode, addr := a, len := n, bytes := src, reason := r } }

def execShaStart (s : State) : Out := ok (whenDo s.coreRuns s s.shaStart)

/-- Each source byte as hashed: where it changed during the run, either before or after, which is left open (R600). -/
def State.shaSource (s : State) : List Byte → List Byte → List Byte × State
  | b :: bs, c :: cs =>
    if b = c then
      let (r, s1) := s.shaSource bs cs
      (b :: r, s1)
    else
      let (k, s1) := s.draw 2
      let (r, s2) := s1.shaSource bs cs
      ((if k = 0 then b else c) :: r, s2)
  | _, _ => ([], s)

/-- Eight words as a state. -/
def shaState (ws : List Word) : Vector Word 8 := Vector.ofFn fun (i : Fin 8) => ws.getD i 0

/-- `n` words of undefined content. -/
def State.drawWords (s : State) : Nat → List Word × State
  | 0 => ([], s)
  | n + 1 =>
    let (w, s1) := s.draw (2 ^ 32)
    let (ws, s2) := s1.drawWords n
    (BitVec.ofNat 32 w :: ws, s2)

/-- The padding after `n` bytes of this run when `total` bytes have been hashed since NEW (R598). -/
def shaTail (n total : Nat) : List Byte := 0x80#8 :: List.replicate ((119 - n % 64) % 64) 0#8 ++ beBytes 8 (8 * total)

/-- The run ends (R598, R599): `reason` 0 completes it. A run that continues an unusable state has an undefined outcome. -/
def State.shaFinish (s : State) (mode : BitVec 2) (len : Nat) (data : List Byte) (reason : Byte) : State :=
  let h := s.periph.sha
  if reason != 0 then { s with periph.sha := { h with run := none, err := true, reason := reason, broken := true } }.setLeaf .periphSha
  else
    let fresh := !mode.getLsbD 0
    let total := (if fresh then 0 else h.total) + len
    let start := if fresh then shaInit else h.h.toList
    let full := if mode.getLsbD 1 then data ++ shaTail data.length total else data
    let (ws, s1) :=
      if h.broken && !fresh then s.drawWords 8
      else (shaBlocks ((full.length + 63) / 64) start full, s)
    { s1 with periph.sha := { h with
        run := none, done := true, h := shaState ws, total := total, broken := h.broken && !fresh } }.setLeaf .periphSha

/-- SHA_RUN_END (R599, R600). -/
def execShaRunEnd (s : State) : Out :=
  ok (match s.periph.sha.run with
    | none => s
    | some x =>
      if !s.pclkRuns then s else
      let r := if x.reason != 0 then x.reason else s.shaReason x.mode x.addr x.len
      if r != 0 then s.shaFinish x.mode x.len [] r
      else
        let (data, s1) := s.shaSource x.bytes (memBytes s.mem x.addr x.len)
        s1.shaFinish x.mode x.len data 0)

end Sys2Proof.Machine
end

