-- ==== Sys2Proof/Machine/PeriphRegs.lean ====
section
/-!
DEFINITION. The peripheral region 0x4000_0000: what its registers read, what a read removes and what a write does (R394, R604, R662).
-/
namespace Sys2Proof.Machine

/-- A register of two bits per pin, pins 16 × `half` and up (GP_PULL, GP_EDGECFG). -/
def pinPairs (v : Vector (BitVec 2) 20) (half : Nat) : Word :=
  (List.range 16).foldl (fun w i => w ||| fld (2 * i) (v.getD (16 * half + i) 0)) 0#32

/-- The pins of one half of such a register as written. -/
def putPinPairs (v : Vector (BitVec 2) 20) (half : Nat) (w : Word) : Vector (BitVec 2) 20 :=
  Vector.ofFn fun (i : Fin 20) => if i.val / 16 = half then bits w (2 * (i.val % 16)) 2 else v[i]

/-- GP_ registers (R604). -/
def GpioBlock.read (g : GpioBlock) (off : Nat) : Option Word :=
  match off with
  | 0x00 => some g.func
  | 0x04 => some g.dir
  | 0x08 => some g.out
  | 0x0C => some 0
  | 0x10 => some 0
  | 0x14 => some 0
  | 0x18 => some g.input
  | 0x1C => some (pinPairs g.pull 0)
  | 0x20 => some (pinPairs g.pull 1)
  | 0x24 => some (pinPairs g.edgeCfg 0)
  | 0x28 => some (pinPairs g.edgeCfg 1)
  | 0x2C => some g.filt
  | 0x30 => some g.irqEn
  | 0x34 => some g.edge
  | 0x38 => some g.waken
  | 0x3C => some g.wakePin
  | _ => none

def State.gpioWrite (s : State) (off : Nat) (v : Word) : State :=
  let g := s.periph.gpio
  let m := v &&& gpioMask
  match off with
  | 0x00 => s.setGpio { g with func := v &&& gpioFuncMask }
  | 0x04 => s.setGpio { g with dir := m }
  | 0x08 => s.setGpio { g with out := m }
  | 0x0C => s.gpSet v
  | 0x10 => s.gpClr v
  | 0x14 => s.gpTgl v
  | 0x1C => s.setGpio { g with pull := putPinPairs g.pull 0 v }
  | 0x20 => s.setGpio { g with pull := putPinPairs g.pull 1 v }
  | 0x24 => s.setGpio { g with edgeCfg := putPinPairs g.edgeCfg 0 v }
  | 0x28 => s.setGpio { g with edgeCfg := putPinPairs g.edgeCfg 1 v }
  | 0x2C => s.setGpio { g with filt := m }
  | 0x30 => s.setGpio { g with irqEn := m }
  | 0x34 => s.setGpio { g with edge := g.edge &&& ~~~v }
  | 0x38 => s.setGpio { g with waken := m }
  | 0x3C => s.setGpio { g with wakePin := g.wakePin &&& ~~~v }
  | _ => s

/-- TM_ registers of one timer (R604). -/
def TimerBlock.read (t : TimerBlock) (off : Nat) : Option Word :=
  match off with
  | 0x00 => some (flag 10 t.ieCap ||| flag 9 t.ieOvf ||| flag 8 t.ieCmp ||| fld 4 t.presc ||| flag 1 t.oneshot ||| flag 0 t.en)
  | 0x04 => some t.cnt
  | 0x08 => some t.top
  | 0x0C => some t.cmp
  | 0x10 => some t.cap
  | 0x14 => some (flag 3 t.capLost ||| flag 2 t.capFlag ||| flag 1 t.ovf ||| flag 0 t.cmpFlag)
  | _ => none

/-- A write to a timer; CAP in TM_CTRL captures after the other fields are stored (R584). -/
def State.timerWrite (s : State) (n : Fin 4) (off : Nat) (v : Word) : State :=
  let t := s.periph.timer[n]
  match off with
  | 0x00 =>
    let s1 := s.setTimer n { t with
      ieCap := bitAt v 10, ieOvf := bitAt v 9, ieCmp := bitAt v 8, presc := bits v 4 4, oneshot := bitAt v 1, en := bitAt v 0 }
    if bitAt v 2 then s1.capture n else s1
  | 0x04 => s.setTimer n { t with cnt := v }
  | 0x08 => s.setTimer n { t with top := v }
  | 0x0C => s.setTimer n { t with cmp := v }
  | 0x14 => s.setTimer n { t with
      capLost := t.capLost && !bitAt v 3, capFlag := t.capFlag && !bitAt v 2, ovf := t.ovf && !bitAt v 1,
      cmpFlag := t.cmpFlag && !bitAt v 0 }
  | _ => s

/-- PWM_CTRL and the registers of one channel (R604). -/
def PeriphBlock.pwmCtrl (p : PeriphBlock) : Word :=
  bitmap 14 fun i =>
    if 8 ≤ i then (p.pwm.getD (i - 8) {}).load else if i < 6 then (p.pwm.getD i {}).en else false

def PwmBlock.read (p : PwmBlock) (off : Nat) : Option Word :=
  match off with
  | 0x0 => some (flag 5 p.auto ||| flag 4 p.pol ||| fld 0 p.presc)
  | 0x4 => some (fld 0 p.per)
  | 0x8 => some (fld 0 p.duty)
  | 0xC => some (fld 16 p.perCur ||| fld 0 p.dutyCur)
  | _ => none

def State.pwmWrite (s : State) (n : Fin 6) (off : Nat) (v : Word) : State :=
  let p := s.periph.pwm[n]
  match off with
  | 0x0 => s.setPwm n { p with auto := bitAt v 5, pol := bitAt v 4, presc := bits v 0 4 }
  | 0x4 => s.setPwm n { p with per := bits v 0 16 }
  | 0x8 => s.setPwm n { p with duty := bits v 0 16 }
  | _ => s

/-- AD_ registers (R604). -/
def AdcBlock.dataWord (a : AdcBlock) : Word := flag 31 a.new ||| fld 12 a.dataCh ||| fld 0 a.result

def AdcBlock.read (a : AdcBlock) (off : Nat) : Option Word :=
  match off with
  | 0x00 => some (flag 11 a.ieWin ||| flag 10 a.ieDone ||| flag 9 a.winEn ||| flag 8 a.en ||| fld 5 a.sample ||| flag 4 a.ref ||| fld 0 a.ch)
  | 0x04 => some 0
  | 0x08 => some a.dataWord
  | 0x0C => some (flag 4 a.trigLost ||| flag 3 a.overwrite ||| flag 2 a.win ||| flag 1 a.done ||| flag 0 a.busy.isSome)
  | 0x10 => some (fld 16 a.hi ||| fld 0 a.lo)
  | 0x14 => some (fld 0 a.temp)
  | 0x18 => some (fld 0 a.vbat)
  | _ => none

/-- A write to an AD_ register; a reserved CH acts as 0 (R590). -/
def State.adcWrite (s : State) (off : Nat) (v : Word) : State :=
  let a := s.periph.adc
  match off with
  | 0x00 => { s with periph.adc := { a with
      ieWin := bitAt v 11, ieDone := bitAt v 10, winEn := bitAt v 9, en := bitAt v 8, sample := bits v 5 2, ref := bitAt v 4
      ch := if (bits v 0 4).toNat < 10 then bits v 0 4 else 0 } }
  | 0x04 => if bitAt v 0 then s.adcTrigger else s
  | 0x0C => { s with periph.adc := { a with
      trigLost := a.trigLost && !bitAt v 4, overwrite := a.overwrite && !bitAt v 3, win := a.win && !bitAt v 2
      done := a.done && !bitAt v 1 } }
  | 0x10 => { s with periph.adc := { a with hi := bits v 16 12, lo := bits v 0 12 } }
  | _ => s

/-- A read of AD_DATA clears NEW (R592). -/
def State.adcDataRead (s : State) : Word × State := (s.periph.adc.dataWord, { s with periph.adc.new := false })

/-- GP_TRNG, GP_SHA and GP_AES registers (R604). GP_TRNG_DATA is read through `State.trngRead`. The WS bits GP_SHA_CTRL.START and GP_AES_CTRL.START
read 0, each start having been taken at its write (DESIGN CHOICE, assumption 59). -/
def PeriphBlock.readEngines (p : PeriphBlock) (off : Nat) : Option Word :=
  let t := p.trng
  let h := p.sha
  let a := p.aes
  if 0x120 ≤ off ∧ off < 0x140 then some (h.h.getD ((off - 0x120) / 4) 0)
  else if 0x200 ≤ off ∧ off < 0x210 then some 0
  else if 0x210 ≤ off ∧ off < 0x220 then some (a.input.getD ((off - 0x210) / 4) 0)
  else if 0x220 ≤ off ∧ off < 0x230 then some (a.output.getD ((off - 0x220) / 4) 0)
  else match off with
  | 0x000 => some (flag 0 t.en)
  | 0x004 => some (flag 10 t.underrun ||| flag 9 t.stopped ||| flag 8 t.fail ||| nfld 0 t.fifo.length)
  | 0x008 => some (t.fifo.headD 0)
  | 0x100 => some (fld 1 h.mode)
  | 0x104 => some h.addr
  | 0x108 => some h.len
  | 0x10C => some (fld 8 h.reason ||| flag 2 h.err ||| flag 1 h.done ||| flag 0 h.run.isSome)
  | 0x230 => some 0
  | 0x234 => some (flag 2 a.werr ||| flag 1 a.done ||| flag 0 a.busy)
  | _ => none

/-- GP_TRNG_CTRL.EN: going from 0 to 1 restarts a stopped TRNG (R597). -/
def TrngBlock.enable (t : TrngBlock) (en : Bool) : TrngBlock :=
  let restart := en && !t.en
  { t with en := en, stopped := t.stopped && !restart, failures := if restart then 0 else t.failures }

/-- GP_AES_KEY and GP_AES_IN while BUSY set WERR (R602). -/
def State.aesPut (s : State) (off : Nat) (v : Word) : State :=
  let a := s.periph.aes
  if a.busy then { s with periph.aes.werr := true }
  else if off < 0x210 then { s with periph.aes.key := a.key.setIfInBounds ((off - 0x200) / 4) v }
  else { s with periph.aes.input := a.input.setIfInBounds ((off - 0x210) / 4) v }

def State.engineWrite (s : State) (off : Nat) (v : Word) : State :=
  let t := s.periph.trng
  let h := s.periph.sha
  let a := s.periph.aes
  if 0x200 ≤ off ∧ off < 0x220 then s.aesPut off v
  else match off with
  | 0x000 => { s with periph.trng := t.enable (bitAt v 0) }
  | 0x004 => { s with periph.trng := { t with underrun := t.underrun && !bitAt v 10, fail := t.fail && !bitAt v 8 } }
  | 0x100 =>
    let s1 := { s with periph.sha.mode := bits v 1 2 }
    if bitAt v 0 then s1.shaStart else s1
  | 0x104 => { s with periph.sha.addr := v }
  | 0x108 => { s with periph.sha.len := v }
  | 0x10C => { s with periph.sha := { h with err := h.err && !bitAt v 2, done := h.done && !bitAt v 1 } }
  | 0x230 => if bitAt v 0 then s.aesStart else s
  | 0x234 => { s with periph.aes := { a with werr := a.werr && !bitAt v 2, done := a.done && !bitAt v 1 } }
  | _ => s

/-- The value of a register of the peripheral region, by offset from 0x4000_0000; `none` is an unassigned address (R47). -/
def Blocks.readPeriph (b : Blocks) (off : Nat) : Option Word :=
  let p := b.periph
  if off % 4 != 0 then none
  else if 0x1000 ≤ off ∧ off < 0x1040 then p.gpio.read (off - 0x1000)
  else if 0x2000 ≤ off ∧ off < 0x2080 then (p.timer.getD ((off - 0x2000) / 32) {}).read (off % 32)
  else if off = 0x3000 then some p.pwmCtrl
  else if 0x3010 ≤ off ∧ off < 0x3070 then (p.pwm.getD ((off - 0x3010) / 16) {}).read (off % 16)
  else if 0x4000 ≤ off ∧ off < 0x4020 then p.adc.read (off - 0x4000)
  else if 0x5000 ≤ off ∧ off < 0x5240 then p.readEngines (off - 0x5000)
  else if 0x6000 ≤ off ∧ off < 0x6200 then b.key.read (off - 0x6000)
  else if 0x7000 ≤ off ∧ off < 0x702C then b.flash.read (off - 0x7000)
  else none

/-- What a read of a register with an RC field, or of the TRNG's FIFO, removes from the live block (R11, R592, R596). -/
def State.periphReadEffect (s : State) (off : Nat) : State :=
  match off with
  | 0x4008 => s.adcDataRead.2
  | 0x5008 => s.trngRead.2
  | 0x6044 => s.setKey { s.key with irLost := 0 }
  | _ => s

/-- A core read of the peripheral region acts on the live registers (R26). -/
def State.periphRead (s : State) (off : Nat) : Option (Word × State) :=
  (s.readPeriph off).map fun w => (w, s.periphReadEffect off)

/-- A write to the peripheral region takes effect at once (R26). -/
def State.periphWrite (s : State) (off : Nat) (v : Word) : State :=
  if 0x1000 ≤ off ∧ off < 0x1040 then s.gpioWrite (off - 0x1000) v
  else if h : 0x2000 ≤ off ∧ off < 0x2080 then s.timerWrite ⟨(off - 0x2000) / 32, by omega⟩ (off % 32) v
  else if off = 0x3000 then (s.pwmEnable (bits v 0 6)).pwmLoad (bits v 8 6)
  else if h : 0x3010 ≤ off ∧ off < 0x3070 then s.pwmWrite ⟨(off - 0x3010) / 16, by omega⟩ (off % 16) v
  else if 0x4000 ≤ off ∧ off < 0x4020 then s.adcWrite (off - 0x4000) v
  else if 0x5000 ≤ off ∧ off < 0x5240 then s.engineWrite (off - 0x5000) v
  else if 0x6000 ≤ off ∧ off < 0x6200 then s.writeKey (off - 0x6000) v
  else if 0x7000 ≤ off ∧ off < 0x702C then s.flashWrite (off - 0x7000) v
  else s

end Sys2Proof.Machine
end

