-- ==== Sys2Proof/Machine/Flags.lean ====
section
/-!
DEFINITION. Saturation and the sticky flags of the core and of the DSP datapath (R403, R421, R424, R495, R496).
-/
namespace Sys2Proof.Machine

/-- An integer held within the signed range of `w` bits. -/
def clampInt (w : Nat) (x : Int) : Int := max (-(2 ^ (w - 1) : Int)) (min x (2 ^ (w - 1) - 1))

/-- A saturating result of the scalar core, and whether it was clamped (R421). -/
def clamp32 (x : Int) : Word × Bool := (BitVec.ofInt 32 (clampInt 32 x), clampInt 32 x != x)

/-- An accumulator component, and whether it was clamped (R495). -/
def clamp40 (x : Int) : BitVec 40 × Bool := (BitVec.ofInt 40 (clampInt 40 x), clampInt 40 x != x)

/-- CP_STATUS.SAT is set when a result was clamped and is otherwise unchanged (R421). -/
def CoreBlock.noteSat (c : CoreBlock) (clamped : Bool) : CoreBlock := { c with sat := c.sat || clamped }

/-- CP_STATUS.DZ is set by a division by zero (R424). -/
def CoreBlock.noteDz (c : CoreBlock) (divisor : Word) : CoreBlock := { c with dz := c.dz || divisor == 0 }

/-- CP_STATUS as one word (chapter 9, section 2). -/
def CoreBlock.status (c : CoreBlock) : Word :=
  (c.pcsd.setWidth 32 <<< 24) ||| (c.csd.setWidth 32 <<< 20) ||| (if c.dz then 0x20000#32 else 0) |||
  (if c.sat then 0x10000#32 else 0) ||| (c.pipl.setWidth 32 <<< 8) ||| (c.ipl.setWidth 32 <<< 4) |||
  (if c.insvc then 4#32 else 0) ||| (if c.pie then 2#32 else 0) ||| (if c.ie then 1#32 else 0)

/-- Levels 5 to 7 are reserved encodings: the field stores its Reset value 0 (R17). -/
def levelField (x : BitVec 3) : BitVec 3 := if x.toNat ≤ 4 then x else 0

/-- A write of CP_STATUS. -/
def CoreBlock.setStatus (c : CoreBlock) (w : Word) : CoreBlock :=
  { c with
    pcsd := w.extractLsb' 24 4, csd := w.extractLsb' 20 4, dz := w.getLsbD 17, sat := w.getLsbD 16,
    pipl := levelField (w.extractLsb' 8 3), ipl := levelField (w.extractLsb' 4 3),
    insvc := w.getLsbD 2, pie := w.getLsbD 1, ie := w.getLsbD 0 }

end Sys2Proof.Machine
end

