-- ==== Sys2Proof/Machine/DspCompute.lean ====
section
/-!
DEFINITION. Arithmetic of the DSP datapath, its address generators and its writes in flight (R491, R495 to R506).
-/
namespace Sys2Proof.Machine

/-- The I component of a complex word (R491). -/
def iOf (w : Word) : Int := (w.extractLsb' 0 16).toInt

/-- The Q component of a complex word (R491). -/
def qOf (w : Word) : Int := (w.extractLsb' 16 16).toInt

/-- The four multiply operations of major 0x30, numbered as their op field (R494). -/
inductive MacOp where
  | cmac
  | cmacj
  | cmsu
  | cmul
  deriving DecidableEq, Repr

/-- The write to the accumulator that a multiply operation makes with z and m (R494, R495). -/
def MacOp.effect (op : MacOp) (a : Fin 4) (z m : Word) : DspEffect :=
  let pi := iOf z * iOf m - qOf z * qOf m
  let pq := iOf z * qOf m + qOf z * iOf m
  match op with
  | .cmac => .accAdd a pi pq
  | .cmacj => .accAdd a (iOf z * iOf m + qOf z * qOf m) (qOf z * iOf m - iOf z * qOf m)
  | .cmsu => .accAdd a (-pi) (-pq)
  | .cmul => .accSet a (BitVec.ofInt 40 pi) (BitVec.ofInt 40 pq)

/-- One component of ZACC before its clamp: rounding to nearest, ties toward plus infinity (R496). -/
def roundShift (x : Int) (sh : Nat) : Int := if sh = 0 then x else (x + 2 ^ (sh - 1)) / 2 ^ sh

/-- The z word that ZACC writes, and whether a component was clamped (R496). -/
def zaccValue (i q : BitVec 40) (sh : Nat) : Word × Bool :=
  let yi := roundShift i.toInt sh
  let yq := roundShift q.toInt sh
  let ci := clampInt 16 yi
  let cq := clampInt 16 yq
  (BitVec.ofInt 16 cq ++ BitVec.ofInt 16 ci, ci != yi || cq != yq)

/-- One step of an address generator (R497). -/
def AddrGen.step (g : AddrGen) : AddrGen :=
  let p := g.p + sext16 g.s
  let p :=
    if g.l = 0 then p
    else if g.b.toNat + g.l.toNat ≤ p.toNat then p - g.l.setWidth 32
    else if p.toNat < g.b.toNat then p + g.l.setWidth 32
    else p
  { g with p := p }
where sext16 (x : BitVec 16) : Word := x.signExtend 32

/-- `n` steps. -/
def AddrGen.steps (g : AddrGen) : Nat → AddrGen
  | 0 => g
  | n + 1 => (g.steps n).step

/-- The part of an accumulator that ACCGET reads (R494). -/
def accPart (i q : BitVec 40) (part : BitVec 2) : Word :=
  match part with
  | 0 => i.extractLsb' 0 32
  | 1 => q.extractLsb' 0 32
  | 2 => (i.extractLsb' 32 8).signExtend 32
  | _ => (q.extractLsb' 32 8).signExtend 32

/-- Apply one DSP write (R494 to R496). -/
def DspBlock.apply (d : DspBlock) : DspEffect → DspBlock
  | .z n v c => { d with z := d.z.set n v, zsat := d.zsat || c }
  | .accAdd a i q =>
    let ri := clamp40 (d.accI[a].toInt + i)
    let rq := clamp40 (d.accQ[a].toInt + q)
    { d with accI := d.accI.set a ri.1, accQ := d.accQ.set a rq.1, asat := d.asat || ri.2 || rq.2 }
  | .accSet a i q => { d with accI := d.accI.set a i, accQ := d.accQ.set a q }
  | .accPart a part v =>
    match part with
    | 0 => { d with accI := d.accI.set a (d.accI[a].extractLsb' 32 8 ++ v) }
    | 1 => { d with accQ := d.accQ.set a (d.accQ[a].extractLsb' 32 8 ++ v) }
    | 2 => { d with accI := d.accI.set a (v.extractLsb' 0 8 ++ d.accI[a].extractLsb' 0 32) }
    | _ => { d with accQ := d.accQ.set a (v.extractLsb' 0 8 ++ d.accQ[a].extractLsb' 0 32) }

/-- `k` cycles pass: writes whose latency has passed take effect in issue order (R501, R502). -/
def DspBlock.advance (d : DspBlock) (k : Nat) : DspBlock :=
  let due := d.inFlight.filter fun w => decide (w.left ≤ k)
  let rest := (d.inFlight.filter fun w => decide (k < w.left)).map fun w => { w with left := w.left - k }
  { due.foldl (fun d w => d.apply w.effect) { d with inFlight := [] } with inFlight := rest }

/-- A drain point: every write in flight takes effect (R505). -/
def DspBlock.drain (d : DspBlock) : DspBlock :=
  d.inFlight.foldl (fun d w => d.apply w.effect) { d with inFlight := [] }

/-- A DSP instruction that issues now makes this write after `l` cycles (R501). -/
def DspBlock.push (d : DspBlock) (e : DspEffect) (l : Nat) : DspBlock :=
  { d with inFlight := d.inFlight ++ [⟨e, l⟩] }

/-- The word that word `i` of a DSAVE area holds (R521). -/
def DspBlock.saveWord (d : DspBlock) (i : Nat) : Word :=
  if h : i < 8 then d.z[i]
  else if i < 20 then
    let a : Fin 4 := Fin.ofNat 4 ((i - 8) / 3)
    match (i - 8) % 3 with
    | 0 => d.accI[a].extractLsb' 0 32
    | 1 => d.accQ[a].extractLsb' 0 32
    | _ => fld 0 (d.accI[a].extractLsb' 32 8) ||| fld 8 (d.accQ[a].extractLsb' 32 8)
  else if i < 32 then
    let g := d.ag[(Fin.ofNat 4 ((i - 20) / 3))]
    match (i - 20) % 3 with
    | 0 => g.p
    | 1 => g.b
    | _ => fld 0 g.s ||| fld 16 g.l
  else if i = 32 then fld 0 d.gstart ||| flag 16 d.zsat ||| flag 17 d.asat
  else 0

/-- The DSP state that DLOAD writes from the 34 words `w` (R521, R524). -/
def DspBlock.loadWords (d : DspBlock) (w : Nat → Word) : DspBlock :=
  { d with
    z := Vector.ofFn fun (i : Fin 8) => w i.val
    accI := Vector.ofFn fun (a : Fin 4) => (w (10 + 3 * a.val)).extractLsb' 0 8 ++ w (8 + 3 * a.val)
    accQ := Vector.ofFn fun (a : Fin 4) => (w (10 + 3 * a.val)).extractLsb' 8 8 ++ w (9 + 3 * a.val)
    ag := Vector.ofFn fun (n : Fin 4) =>
      { p := w (20 + 3 * n.val), b := w (21 + 3 * n.val),
        s := (w (22 + 3 * n.val)).extractLsb' 0 16, l := (w (22 + 3 * n.val)).extractLsb' 16 16 }
    gstart := (w 32).extractLsb' 0 5
    zsat := (w 32).getLsbD 16
    asat := (w 32).getLsbD 17 }

/-- A word lies in DTCM (R46). -/
def inDtcm (a : Nat) : Bool := decide (0x10000000 ≤ a) && decide (a + 4 ≤ 0x10008000)

end Sys2Proof.Machine
end

