-- ==== Sys2Proof/Machine/CxTable.lean ====
section
/-!
DEFINITION. The decode table of the custom instructions: micro-op formats, validation and table access (R530, R531, R535 to R541, R552).
-/
namespace Sys2Proof.Machine

/-- Fields of a micro-op word (R530). -/
def uOp (w : Word) : Nat := (bits w 26 6).toNat
def uA (w : Word) : Nat := (bits w 23 3).toNat
def uB (w : Word) : Nat := (bits w 20 3).toNat
def uD (w : Word) : Fin 4 := (bits w 18 2).toFin

/-- The bits that the row of an operation uses below OP; none for an unlisted operation (R531). -/
def uUsed (op : Nat) : Option Word :=
  let a := 0x03800000#32
  let b := 0x00700000#32
  let d := 0x000C0000#32
  match op with
  | 0x01 => some (a ||| d)
  | 0x02 | 0x03 | 0x04 | 0x05 | 0x06 | 0x07 | 0x08 | 0x09 | 0x0A => some (a ||| b ||| d)
  | 0x0B | 0x0C => some (d ||| 0xFFFF#32)
  | 0x10 => some (a ||| d ||| 0xFFFF#32)
  | 0x11 => some (d ||| 0x38000#32)
  | 0x12 => some (a ||| b ||| 0xFFFF#32)
  | 0x13 => some (b ||| 0x38000#32)
  | 0x14 => some 0x30000#32
  | 0x18 => some (b ||| 0x3F800#32)
  | 0x19 => some (a ||| 0x3800#32)
  | 0x1A => some (d ||| 0x3800#32)
  | 0x1B => some (d ||| 0xF000#32)
  | 0x1C => some 0xFFE0#32
  | 0x1D => some 0xC000#32
  | 0x20 => some (a ||| 0x30000#32)
  | 0x21 | 0x22 => some a
  | _ => none

/-- A memory micro-op (R534). -/
def uIsMem (w : Word) : Bool := 0x10 ≤ uOp w && uOp w ≤ 0x13

/-- A store micro-op. -/
def uIsStore (w : Word) : Bool := uOp w == 0x12 || uOp w == 0x13

/-- A DSP-writing micro-op (R533). -/
def uIsDspWrite (w : Word) : Bool := [0x18, 0x19, 0x1C, 0x1D].contains (uOp w)

/-- A micro-op's own format: listed operation, zero unused fields, no WRG field 3 (R538). -/
def uWellFormed (w : Word) : Bool :=
  match uUsed (uOp w) with
  | none => false
  | some used => (w &&& ~~~(used ||| 0xFC000000#32)) == 0 && !(uOp w == 0x20 && (bits w 16 2) == 3)

/-- The first position, counted from 1, at which micro-ops fail validation (R538): `dsp` a DSP write came before, `st` and `wr` the stores and register writes so far. -/
def uCheck : List Word → (pos : Nat) → (dsp : Bool) → (st wr : Nat) → Option Nat
  | [], _, _, _, _ => none
  | w :: ws, pos, dsp, st, wr =>
    let st' := if uIsStore w then st + 1 else st
    let wr' := if uOp w == 0x20 then wr + 1 else wr
    if !uWellFormed w || (dsp && uIsMem w) || st' > 4 || wr' > 2 then some pos
    else uCheck ws (pos + 1) (dsp || uIsDspWrite w) st' wr'

/-- The failing position of an entry, 0 for its header (R538). -/
def CxEntry.failing (e : CxEntry) : Option Nat :=
  if e.n = 0 || e.n.toNat > 16 then some 0 else uCheck (e.ops.toList.take e.n.toNat) 1 false 0 0

/-- A write of the header (R538, R539). -/
def CxEntry.writeHeader (e : CxEntry) (w : Word) : CxEntry :=
  let e := { e with n := bits w 0 5 }
  if bitAt w 8 then
    match e.failing with
    | none => { e with valid := true, bad := false, badIdx := 0 }
    | some p => { e with valid := false, bad := true, badIdx := BitVec.ofNat 5 p }
  else { e with valid := false }

/-- The header as read (R536). -/
def CxEntry.header (e : CxEntry) : Word :=
  fld 16 e.badIdx ||| flag 9 e.bad ||| flag 8 e.valid ||| fld 0 e.n

/-- A read of a table word. -/
def CxEntry.read (e : CxEntry) (word : Nat) : Word :=
  if word = 0 then e.header else if word ≤ 16 then e.ops.getD (word - 1) 0 else 0

/-- A write of a table word; a micro-op write makes the entry empty (R539). -/
def CxEntry.write (e : CxEntry) (word : Nat) (v : Word) : CxEntry :=
  if word = 0 then e.writeHeader v
  else if word ≤ 16 then { e with ops := e.ops.setIfInBounds (word - 1) v, valid := false }
  else e

/-- CP_DTADDR advances after an access of CP_DTDATA (R552). -/
def CxBlock.advance (c : CxBlock) : CxBlock :=
  if c.inc && c.word.toNat ≤ 16 then { c with word := if c.word = 16 then 0 else c.word + 1 } else c

/-- An MTS to CP_DTDATA (R540, R541); a write that LOCK refuses advances WORD like any other. -/
def CxBlock.writeData (c : CxBlock) (v : Word) : CxBlock :=
  if c.lock then { c with denied := true }.advance
  else { c with table := c.table.set c.entry (c.table[c.entry].write c.word.toNat v) }.advance

/-- A write of entry `i` by boot ROM services: micro-ops first, header last (R543). -/
def CxBlock.load (c : CxBlock) (i : Fin 8) (words : List Word) : CxBlock :=
  let e := (List.range 16).foldl (fun (e : CxEntry) k => e.write (k + 1) (words.getD (k + 1) 0)) {}
  { c with table := c.table.set i (e.writeHeader (words.getD 0 0)) }

end Sys2Proof.Machine
end

