-- ==== Sys2Proof/Machine/Lantern.lean ====
section
/-!
DEFINITION. Lantern: mailboxes and their queue, requests, calendar, counters, checkpoints, stick detection (18_lantern.md).
-/
namespace Sys2Proof.Machine

/-- The greatest calendar value (R717). -/
def calendarEnd : Nat := 6311433599

/-- The oldest request not yet carried out (R705). -/
def State.nextRequest (s : State) : Option (Nat × LtRequest) :=
  let q := s.lantern.queue
  match q.findIdx? (fun r => r.result.isNone) with
  | none => none
  | some i => (q[i]?).map fun r => (i, r)

/-- The answer of a request: status, result words, output bytes. -/
structure LtAnswer where
  status : Byte
  rv : List Word := []
  out : List Byte := []

/-- The result of a request (section 2.2). -/
def LtRequest.answer (q : LtRequest) (a : LtAnswer) : LtResult :=
  { tag := q.tag, req := q.req, status := a.status, rv := Vector.ofFn fun (i : Fin 4) => a.rv.getD i 0, out := a.out }

/-- A 40-bit number in two argument words. -/
def arg40 (q : LtRequest) : BitVec 40 := (bits q.arg[1] 0 8) ++ q.arg[0]

/-- The calendar reaches or passes an armed alarm (R721): it fires, and wakes a stopped device when enabled (R133). -/
def State.alarmCheck (s : State) : State :=
  if s.lantern.alarmArmed && s.lantern.alarm ≤ s.lantern.calendar then
    ({ s with lantern.alarmArmed := false }.setLeaf .mgmtCalAlarm).noteWake 8
  else s

/-- A CAL_SET result's value takes effect with its delivery, and a set past the alarm fires it (R720, R721). -/
def State.applyCalSet (s : State) (q : LtRequest) (a : LtResult) : State :=
  if q.req == 0x03 && a.status != stBadArg && a.status != stDenied && a.status != stLowSupply then
    { s with lantern.calendar := arg40 q, lantern.stale := false, lantern.calSet := true }.alarmCheck
  else s

/-- A request completes: its result waits for the next transfer, a Keyholder request frees its position, a discarded one too,
which has been carried out all the same (R706, R708). -/
def State.complete (s : State) (i : Nat) (q : LtRequest) (a : LtAnswer) : State :=
  if q.by_ == .key then { s with lantern.queue := s.lantern.queue.eraseIdx i }
  else if q.orphaned then { s.applyCalSet q (q.answer a) with lantern.queue := s.lantern.queue.eraseIdx i }
  else { s with lantern.queue := s.lantern.queue.set i { q with result := some (q.answer a), late := s.isLate } }

/-- Lantern carries out the oldest waiting request when it is of this code: requesters allowed, whether it writes Flowstone, and its work
(R705, R709, R710, R731). -/
def State.serve (s : State) (code : Byte) (allowed : List Requester) (writes : Bool) (work : LtRequest → State → LtAnswer × State) : State :=
  match s.nextRequest with
  | none => s
  | some (i, q) =>
    if q.req != code || !s.flowRuns then s
    else if !allowed.contains q.by_ then s.complete i q { status := stDenied }
    else if writes && s.power.bodWarn then (if q.by_ == .key then s else s.complete i q { status := stLowSupply })
    else
      let (a, s1) := work q s
      s1.complete i q a

/-- A 48-bit number in two argument words. -/
def arg48 (q : LtRequest) : BitVec 48 := (bits q.arg[1] 0 16) ++ q.arg[0]

/-- The low and high words of a number. -/
def word0 (n : Nat) : Word := BitVec.ofNat 32 n
def word1 (n : Nat) : Word := BitVec.ofNat 32 (n / 2 ^ 32)

def coreHost : List Requester := [.core, .host]

/-- Part code (R5). -/
def partCode (o : Orderable) : BitVec 16 :=
  match o with
  | .spx7720 => 0x7720
  | .spx7718 => 0x7718

/-- CP_ID, the first of the identity numbers holding MAJOR and MINOR (DESIGN CHOICE, assumption 4). -/
def State.cpId (s : State) : Word := fld 16 (partCode s.key.orderable) ||| (Config.identity 0 &&& 0xFFFF#32)
def siliconMajor : Nat := (bits (Config.identity 0) 8 8).toNat
def siliconMinor : Nat := (bits (Config.identity 0) 0 8).toNat

/-- EUI-64 of the device (R668). -/
def State.eui (s : State) : List Byte := memBytes s.mem (fsAddr 0 0) 8

/-- The numbers of the running images' slots. -/
def BootBlock.appSlot (b : BootBlock) : Fin 4 := if b.appB then 2 else 0
def BootBlock.linkSlot (b : BootBlock) : Fin 4 := if b.linkB then 3 else 1

def execIdentity (s : State) : Out :=
  ok (s.serve 0x01 coreHost false fun _ s =>
    let v := if s.boot.sump then [0, 0] else [s.boot.version[s.boot.appSlot], s.boot.version[s.boot.linkSlot]]
    ({ status := stOk, rv := [s.cpId, wordAt s.eui 0, wordAt s.eui 4, Config.identity 1], out := wordsToBytes v }, s))

/-- CAL_GET reports the calendar and count of the last transfer (R711, R718). -/
def execCalGet (s : State) : Out :=
  ok (s.serve 0x02 coreHost false fun _ s =>
    let c := s.seen.lantern.calendar.toNat
    let d := s.seen.drip.count.toNat
    ({ status := stOk, rv := [word0 c, word1 c ||| flag 8 s.seen.lantern.stale, word0 d, word1 d] }, s))

/-- A CAL record (R723). -/
def calRecord (cal : Nat) (set : Bool) (drip : Nat) : List Byte :=
  leBytes 5 cal ++ [if set then 1#8 else 0#8] ++ leBytes 6 drip ++ List.replicate 4 0#8

def execCalSet (s : State) : Out :=
  ok (s.serve 0x03 coreHost true fun q s =>
    let v := (arg40 q).toNat
    if calendarEnd < v then ({ status := stBadArg }, s)
    else
      let (st, _, s1) := s.store 1 0 16 (calRecord v true s.drip.count.toNat)
      ({ status := st }, s1))

def execCalAlarm (s : State) : Out :=
  ok (s.serve 0x04 [.core] false fun q s =>
    let v := arg40 q
    ({ status := stOk }, { s with lantern.alarm := v, lantern.alarmArmed := v != 0 }))

def execWakeAt (s : State) : Out :=
  ok (s.serve 0x05 [.core] false fun q s =>
    let d := arg48 q
    if d = 0 then ({ status := stOk }, { s with lantern.wake := none })
    else if d ≤ s.drip.count then ({ status := stBadArg }, s)
    else ({ status := stOk }, { s with lantern.wake := some d }))

def execLifeGet (s : State) : Out :=
  ok (s.serve 0x08 coreHost false fun q s =>
    let i := (bits q.arg[0] 0 8).toNat
    if i = 0xFF then ({ status := stOk, out := s.lantern.life.toList.flatMap (leBytes 6) }, s)
    else
      match s.lantern.life[i]? with
      | some v => ({ status := stOk, rv := [word0 v, word1 v] }, s)
      | none => ({ status := stBadKey }, s))

/-- LIFE_ADD (R716, R689). -/
def execLifeAdd (s : State) : Out :=
  ok (s.serve 0x09 [.core] false fun q s =>
    if bits q.arg[0] 0 8 != 18 then ({ status := stBadKey }, s)
    else if q.arg[1] = 0 then ({ status := stBadArg }, s)
    else
      let sum := s.lantern.life[18] + q.arg[1].toNat
      let s1 := s.lifeAdd 18 q.arg[1].toNat
      let v := s1.lantern.life[18]
      if 2 ^ 48 - 1 < sum then ({ status := stCounterEnd, rv := [word0 v, word1 v] }, s1.setLeaf .nvstoreCounterEnd)
      else ({ status := stOk, rv := [word0 v, word1 v] }, s1))

/-- LIFE records (R727). -/
def State.lifeRecord0 (s : State) : List Byte := (s.lantern.life.toList.take 10).flatMap (leBytes 6) ++ List.replicate 4 0#8
def State.lifeRecord1 (s : State) : List Byte :=
  (s.lantern.life.toList.drop 10).flatMap (leBytes 6) ++ s.lantern.bodHist ++ [0#8, 0#8]

/-- Write both LIFE records (R728). -/
def State.lifeSave (s : State) : Byte × State :=
  let (a, _, s1) := s.store 0 0 64 s.lifeRecord0
  let (b, _, s2) := s1.store 0 1 64 s1.lifeRecord1
  (if a == stOk then b else a, s2)

def execLifeSave (s : State) : Out :=
  ok (s.serve 0x0A [.core] true fun _ s =>
    let (st, s1) := s.lifeSave
    ({ status := st }, s1))

def execBodHist (s : State) : Out :=
  ok (s.serve 0x0B coreHost false fun _ s =>
    ({ status := stOk, rv := [word0 s.lantern.life[2], word0 s.lantern.warnings], out := s.lantern.bodHist }, s))

/-- A ring that a request may name: copy A or a single ring that the plan holds (R698, R712). -/
def State.namedRing (s : State) (id : Nat) : Option Ring :=
  match s.ring id with
  | none => none
  | some r => if r.shown && (s.pairOf r).id == r.id then some r else none

def execRecRead (s : State) : Out :=
  ok (s.serve 0x10 coreHost false fun q s =>
    let id := (bits q.arg[0] 0 8).toNat
    let key := (bits q.arg[0] 8 8).toNat
    if q.by_ == .host && 3 ≤ id && id ≤ 6 then ({ status := stDenied }, s)
    else
      match s.namedRing id with
      | none => ({ status := stNoRing }, s)
      | some r =>
        if r.keys ≤ key then ({ status := stBadKey }, s)
        else
          match s.current r key with
          | none => ({ status := stEmpty }, s.noteRing r)
          | some x => ({ status := stOk, rv := [word0 x.len, word0 x.seq, word0 x.epoch], out := x.data.take x.len }, s.noteRing r))

def execRecWrite (s : State) : Out :=
  ok (s.serve 0x11 [.core] true fun q s =>
    let id := (bits q.arg[0] 0 8).toNat
    let key := (bits q.arg[0] 8 8).toNat
    let len := q.arg[1].toNat
    if id ≤ 10 && id != 7 && id != 8 then ({ status := stDenied }, s)
    else
      match s.namedRing id with
      | none => ({ status := stNoRing }, s)
      | some r =>
        if r.keys ≤ key then ({ status := stBadKey }, s)
        else if len = 0 || 8 * r.s8 < len then ({ status := stBadLen }, s)
        else
          let (st, seq, s1) := s.store id key len (q.input.take len)
          ({ status := st, rv := [0, if st == stOk then word0 seq else 0] }, s1))

/-- A MONO record (R686). -/
def monoRecord (leaseEnd epoch : Nat) : List Byte := leBytes 4 leaseEnd ++ leBytes 2 epoch ++ [0#8, 0#8]

/-- LEASE_END and EPOCH of a MONO record, 0 and 0 when there is none. -/
def State.monoOf (s : State) (n : Nat) : Nat × Nat :=
  match s.load 2 n with
  | some x => (natAt x.data 0 4, natAt x.data 4 2)
  | none => (0, 0)

/-- No lease end goes beyond the end value (R687). -/
def nextLease (l : Nat) : Nat := min 0xFFFFFFFF (l + 1024)

/-- Commit a further lease for counter n of 8 to 15; unchanged when it cannot be committed (R687). -/
def State.extendMono (s : State) (i : Fin 8) : State :=
  let (v, l) := s.lantern.mono[i]
  let (st, _, s1) := s.store 2 (8 + i.val) 8 (monoRecord (nextLease l) 0)
  if st == stOk then { s1 with lantern.mono := s1.lantern.mono.set i (v, nextLease l) } else s1

/-- MONO_INC (R687, R688). -/
def State.monoInc (s : State) (i : Fin 8) : LtAnswer × State :=
  let (v0, l0) := s.lantern.mono[i]
  if 0xFFFFFFFF ≤ v0 then ({ status := stCounterEnd }, s.setLeaf .nvstoreCounterEnd)
  else
    let needs := decide (l0 ≤ v0) || (decide (l0 - (v0 + 1) ≤ 256) && decide (l0 < 0xFFFFFFFF))
    if needs && s.power.bodWarn then ({ status := stLowSupply }, s)
    else
      let s1 := if l0 ≤ v0 then s.extendMono i else s
      let (v, l) := s1.lantern.mono[i]
      if l ≤ v then ({ status := stNvFail }, s1)
      else
        let s2 := { s1 with lantern.mono := s1.lantern.mono.set i (v + 1, l) }
        let s3 := if decide (l - (v + 1) ≤ 256) && decide (l < 0xFFFFFFFF) then s2.extendMono i else s2
        ({ status := stOk, rv := [word0 v] }, s3)

def execMonoInc (s : State) : Out :=
  ok (s.serve 0x18 coreHost false fun q s =>
    let n := q.arg[0].toNat
    if n < 8 || 16 ≤ n then ({ status := stBadKey }, s) else s.monoInc (Fin.ofNat 8 (n - 8)))

def execMonoGet (s : State) : Out :=
  ok (s.serve 0x19 coreHost false fun q s =>
    let n := q.arg[0].toNat
    if 16 ≤ n then ({ status := stBadKey }, s)
    else
      let (l, e) := s.monoOf n
      ({ status := stOk, rv := [word0 (if n < 8 then l else (s.lantern.mono[Fin.ofNat 8 (n - 8)]).1), word0 e] }, s))

/-- A key and epoch of a KEYS record (R676). -/
abbrev KeyEpoch := BitVec 128 × BitVec 16

/-- Current and previous key of a slot as the KEYS rings hold them. -/
def keysOf (b : List Byte) : Option KeyEpoch × Option KeyEpoch :=
  let fl := byteAt b 36
  (if fl.getLsbD 0 then some (BitVec.ofNat 128 (natAt b 0 16), BitVec.ofNat 16 (natAt b 16 2)) else none,
   if fl.getLsbD 1 then some (BitVec.ofNat 128 (natAt b 18 16), BitVec.ofNat 16 (natAt b 34 2)) else none)

def State.storedKeys (s : State) (n : Fin 8) : Option KeyEpoch × Option KeyEpoch :=
  match s.load 3 n with
  | some x => keysOf x.data
  | none => (none, none)

/-- A KEYS record (R676). -/
def keysRecord (cur prev : Option KeyEpoch) : List Byte :=
  let part := fun (x : Option KeyEpoch) =>
    match x with
    | some (k, e) => leBytes 16 k.toNat ++ leBytes 2 e.toNat
    | none => List.replicate 18 0#8
  part cur ++ part prev ++ [(if cur.isSome then 1#8 else 0) ||| (if prev.isSome then 2#8 else 0), 0#8, 0#8, 0#8]

/-- Drop the lease traffic of a slot (R310, R311). -/
def State.dropLease (s : State) (n : Fin 8) : State :=
  { s with
    lantern.leaseAsked := s.lantern.leaseAsked.filter (· != n)
    lantern.leaseAnswers := s.lantern.leaseAnswers.filter fun x => x.1 != n }

/-- The new contents of a slot go to the data plane at the next transfer (R310, R311). -/
def State.queueLoad (s : State) (l : KeyLoad) : State := { s with lantern.keyLoads := s.lantern.keyLoads ++ [l] }

/-- KEY_INSTALL (R308 to R310, R713). -/
def State.keyInstall (s : State) (n : Fin 8) (epoch : Nat) (key : BitVec 128) : LtAnswer × State :=
  let (cur, _) := s.storedKeys n
  let allowed := decide (1 ≤ epoch) && decide (epoch ≤ 65535) &&
    (match cur with
    | none => true
    | some (_, e) => epoch == e.toNat + 1)
  if !allowed then ({ status := stEpochOrder }, s)
  else
    let new : Option KeyEpoch := some (key, BitVec.ofNat 16 epoch)
    let (st, _, s1) := s.store 3 n 40 (keysRecord new cur)
    if st != stOk then ({ status := st }, s1)
    else
      let (st2, _, s2) := s1.store 2 n 8 (monoRecord 1024 epoch)
      if st2 != stOk then ({ status := st2 }, s2)
      else ({ status := stOk }, (s2.dropLease n).queueLoad { slot := n, cur := new, prev := cur, counter := some (0, 1024) })

def execKeyInstall (s : State) : Out :=
  ok (s.serve 0x20 [.core] true fun q s =>
    if 8 ≤ q.arg[0].toNat then ({ status := stBadKey }, s)
    else s.keyInstall (Fin.ofNat 8 q.arg[0].toNat) q.arg[1].toNat (BitVec.ofNat 128 (natAt q.input 0 16)))

/-- KEY_RETIRE and KEY_REMOVE: write the slot's record and load it (R311, R713). -/
def State.keyChange (s : State) (n : Fin 8) (cur prev : Option KeyEpoch) : LtAnswer × State :=
  let (st, _, s1) := s.store 3 n 40 (keysRecord cur prev)
  if st != stOk then ({ status := st }, s1)
  else
    let s2 := if cur.isNone then s1.dropLease n else s1
    ({ status := stOk }, s2.queueLoad { slot := n, cur := cur, prev := prev, counter := none })

def execKeyRetire (s : State) : Out :=
  ok (s.serve 0x21 [.core] true fun q s =>
    if 8 ≤ q.arg[0].toNat then ({ status := stBadKey }, s)
    else
      let n : Fin 8 := Fin.ofNat 8 q.arg[0].toNat
      let (cur, prev) := s.storedKeys n
      if prev.isNone then ({ status := stEmpty }, s) else s.keyChange n cur none)

def execKeyRemove (s : State) : Out :=
  ok (s.serve 0x22 [.core] true fun q s =>
    if 8 ≤ q.arg[0].toNat then ({ status := stBadKey }, s)
    else
      let n : Fin 8 := Fin.ofNat 8 q.arg[0].toNat
      if (s.storedKeys n).1.isNone then ({ status := stEmpty }, s) else s.keyChange n none none)

/-- A token record from its 32 bytes (R377). -/
def tokenOf (b : List Byte) : TokenRec :=
  { id := wordAt b 0, key := BitVec.ofNat 128 (natAt b 4 16), rights := BitVec.ofNat 16 (natAt b 20 2), channels := byteAt b 22,
    state := byteAt b 23, expiry := BitVec.ofNat 40 (natAt b 24 5) }

/-- The token table as the TOKEN rings hold it (R36, R379). -/
def State.storedTokens (s : State) : Vector TokenRec 64 :=
  Vector.ofFn fun (i : Fin 64) =>
    match s.load 5 i with
    | some x => tokenOf x.data
    | none => {}

/-- Another slot holds the ID in a record that is not EMPTY (R378). -/
def State.duplicateToken (s : State) (n : Fin 64) (id : Word) : Bool :=
  (List.finRange 64).any fun i =>
    i != n && (match s.load 5 i with
      | some x => let t := tokenOf x.data; t.id == id && (t.state == 1 || t.state == 2 || t.state == 3)
      | none => false)

/-- Commit a token record; the engine's copy follows at the next transfer (R379, R714). -/
def State.tokenStore (s : State) (n : Fin 64) (b : List Byte) : LtAnswer × State :=
  if 3 < (byteAt b 23).toNat then ({ status := stBadArg }, s)
  else if byteAt b 23 != 0 && s.duplicateToken n (wordAt b 0) then ({ status := stDupId }, s)
  else
    let (st, _, s1) := s.store 5 n 32 (padTo 32 b)
    ({ status := st }, if st == stOk then { s1 with lantern.tokenLoad := true } else s1)

def execTokenWrite (s : State) : Out :=
  ok (s.serve 0x28 [.core, .host, .key] true fun q s =>
    if 64 ≤ q.arg[0].toNat then ({ status := stBadKey }, s) else s.tokenStore (Fin.ofNat 64 q.arg[0].toNat) (q.input.take 32))

def execTokenRevoke (s : State) : Out :=
  ok (s.serve 0x29 coreHost true fun q s =>
    if 64 ≤ q.arg[0].toNat then ({ status := stBadKey }, s)
    else
      let n : Fin 64 := Fin.ofNat 64 q.arg[0].toNat
      match s.load 5 n with
      | none => ({ status := stEmpty }, s)
      | some x =>
        if byteAt x.data 23 == 0 || 3 < (byteAt x.data 23).toNat then ({ status := stEmpty }, s)
        else
          let (st, _, s1) := s.store 5 n 32 (x.data.set 23 2#8)
          ({ status := st }, if st == stOk then { s1 with lantern.tokenLoad := true } else s1))

def execTokenRead (s : State) : Out :=
  ok (s.serve 0x2A coreHost false fun q s =>
    if 64 ≤ q.arg[0].toNat then ({ status := stBadKey }, s)
    else
      let t := ((s.ring 5).map s.noteRing).getD s
      match s.load 5 q.arg[0].toNat with
      | none => ({ status := stEmpty }, t)
      | some x =>
        let b := padTo 32 x.data
        ({ status := stOk, out := if q.by_ == .host then b.take 4 ++ List.replicate 16 0#8 ++ b.drop 20 else b }, t))

/-- PROVISION (R669, R715). -/
def execProvision (s : State) : Out :=
  ok (s.serve 0x30 coreHost true fun q s =>
    let g := q.arg[0].toNat
    if 128 ≤ g then ({ status := stBadArg }, s)
    else if g < 3 || 24 < g then ({ status := stProtected }, s)
    else if !s.groupErased 0 g then ({ status := stAlreadySet }, s)
    else
      let (good, s1) := s.programGroup 0 g (q.input.take 8)
      ({ status := if good then stOk else stNvFail }, s1))

/-- LOCK_WRITE; the engine learns at the next transfer whether it was committed (R25, R370, R373). -/
def execLockWrite (s : State) : Out :=
  ok (s.serve 0x38 [.key] true fun q s =>
    let (st, _, s1) := s.store 10 0 16 (q.input.take 16)
    ({ status := st }, { s1 with lantern.lockResult := some (st == stOk) }))

/-- The request codes of R711. -/
def listedRequests : List Nat :=
  [0x01, 0x02, 0x03, 0x04, 0x05, 0x08, 0x09, 0x0A, 0x0B, 0x10, 0x11, 0x18, 0x19, 0x20, 0x21, 0x22, 0x28, 0x29, 0x2A, 0x30, 0x38]

/-- A request enters the queue; an unlisted code completes at once with BAD_REQ (R704, R710). -/
def State.enqueue (s : State) (q : LtRequest) : State :=
  let q1 := if listedRequests.contains q.req.toNat then q else { q with result := some (q.answer { status := stBadReq }) }
  { s with lantern.queue := s.lantern.queue ++ [q1] }

/-- The request in a mailbox's fields. -/
def Mailbox.request (m : Mailbox) (r : Requester) : LtRequest :=
  { by_ := r, tag := m.tag, req := m.req, arg := m.arg, input := wordsToBytes m.input.toList }

/-- One mailbox's submission at a transfer (R703, R704, R707). -/
def State.submit (s : State) (r : Requester) (m : Mailbox) : State × Mailbox :=
  if !m.go then (s, { m with outcome := 0 })
  else
    let full := decide (4 ≤ s.lantern.queue.length) || (r == .host && decide (2 ≤ (s.lantern.queue.filter fun q => q.by_ == .host).length))
    if full then (s, { m with go := false, subTag := m.tag, outcome := 2 })
    else (s.enqueue (m.request r), { m with go := false, subTag := m.tag, outcome := 1 })

/-- A result release: the area empties and its position frees (R703, R704). -/
def State.releaseResult (s : State) (r : Requester) (m : Mailbox) : State × Mailbox :=
  if !m.release then (s, m)
  else if m.area.isNone then (s, { m with release := false })
  else
    ({ s with lantern.queue := s.lantern.queue.filter fun q => !(q.by_ == r && q.delivered) }, { m with release := false, area := none })

/-- Deliver the oldest completed result of a requester whose area is empty (R706). -/
def State.deliverResult (s : State) (r : Requester) (m : Mailbox) : State × Mailbox :=
  if m.area.isSome then (s, m)
  else
    match s.lantern.queue.findIdx? (fun q => q.by_ == r && q.result.isSome && !q.delivered && !q.late) with
    | none => (s, m)
    | some i =>
      match s.lantern.queue[i]? with
      | none => (s, m)
      | some q =>
        match q.result with
        | none => (s, m)
        | some a =>
          let s1 := { s with lantern.queue := s.lantern.queue.set i { q with delivered := true } }
          ((s1.applyCalSet q a).setLeaf (if r == .core then .mgmtMbResult else .mgmtHostMb), { m with area := some a })

/-- The Keyholder engine's waiting request takes a free position (R24, R704). -/
def State.acceptKey (s : State) : State :=
  match s.key.requests with
  | [] => s
  | x :: rest =>
    if 4 ≤ s.lantern.queue.length || s.inTime.key.requests.isEmpty then s
    else
      let z : Vector Word 4 := Vector.replicate 4 0
      let q : LtRequest := match x with
        | .lock b => { by_ := .key, tag := 0, req := 0x38, arg := z, input := padTo 256 b }
        | .promote n =>
          let b := ((s.load 5 n).map (·.data)).getD []
          { by_ := .key, tag := 0, req := 0x28, arg := z.set 0 (word0 n), input := padTo 256 (b.set 23 1#8) }
      (s.setKey { s.key with requests := rest }).enqueue q

/-- The mailbox traffic of a transfer: releases, deliveries, then the Keyholder, core and host submissions (R704, R706). -/
def State.mailboxes (s : State) : State :=
  let (s1, c1) := s.releaseResult .core s.lantern.core
  let (s2, h1) := s1.releaseResult .host s1.lantern.host
  let (s3, c2) := s2.deliverResult .core c1
  let (s4, h2) := s3.deliverResult .host h1
  let s5 := s4.acceptKey
  let (s6, c3) := s5.submit .core c2
  let (s7, h3) := s6.submit .host h2
  { s7 with lantern.core := c3, lantern.host := h3 }

/-- The persisted lease end of a key slot and the epoch of its current key; a record of an older epoch counts as 0 (R310, R316). -/
def State.leaseBase (s : State) (n : Fin 8) : Nat × Nat :=
  let (l, me) := s.monoOf n
  match (s.storedKeys n).1 with
  | none => (l, me)
  | some (_, e) => if me < e.toNat then (0, e.toNat) else (l, me)

/-- LEASE_COMMIT: Lantern commits a new lease for a slot whose request has reached it, or refuses it (R315, R318). -/
def State.leaseCommit (s : State) (n : Fin 8) : State :=
  let (l, e) := s.leaseBase n
  let s1 := { s with lantern.leaseAsked := s.lantern.leaseAsked.filter (· != n) }
  let (st, _, s2) := s1.store 2 n 8 (monoRecord (nextLease l) e)
  { s2 with lantern.leaseAnswers := s2.lantern.leaseAnswers ++ [(n, if st == stOk then some (word0 (nextLease l)) else none)] }

def execLeaseCommit (slot : Fin 8) (s : State) : Out :=
  ok (whenDo (s.flowBackground && s.lantern.leaseAsked.contains slot) s (s.leaseCommit slot))

/-- A power-on second (R726): counter 0, checkpoints due, confirmation and session times (R755, R776). -/
def State.powerSecond (s : State) : State :=
  let s1 := s.lifeAdd 0 1
  let held := s.power.bodWarn && !s.flash.waiting.isEmpty
  let s2 := { s1 with
    lantern.sinceCkpt := s1.lantern.sinceCkpt + 1
    lantern.confirmLeft := if s1.lantern.confirmPending || s1.link.reloadEdge.isSome then s1.lantern.confirmLeft - 1 else s1.lantern.confirmLeft
    update.quiet := if s1.update.state == UpState.idle || held then s1.update.quiet else s1.update.quiet + 1 }
  s2.setKey s2.key.second

/-- A selected 32.768 kHz crystal that does not oscillate may have started by the end of a second: a free value. It is then active, unless it has
failed before (R113, R115; DESIGN CHOICE, assumption 30). -/
def State.crystalSecond (s : State) : State :=
  let p := s.power
  if p.lfSrcRc || p.lfXoRun then s
  else
    let (x, s1) := s.draw 2
    if x = 0 then s1 else { s1 with power := { p with lfXoRun := true, lfActiveRc := p.lfFailed && p.lfActiveRc } }

/-- CALENDAR_TICK: every 32,768 LFCLK ticks, in every mode (R718, R721, R726); in HIBERNATE only the timekeeper runs (R702), and the presence sensor (R350) (DESIGN CHOICE, assumption 24). -/
def State.calendarTick (s : State) : State :=
  let c := s.lantern.calendar
  let s1 := { s with lantern.calendar := if c.toNat < calendarEnd then c + 1 else c }
  let s2 := (s1.alarmCheck.pulse 29).crystalSecond
  if s.flowRuns then s2.powerSecond
  else if s.power.mode == .hibernate then { s2 with key := s2.key.sensorSecond }
  else s2

def execCalendarTick (s : State) : Out := ok (whenDo (s.power.hold != .brownout) s s.calendarTick)

/-- A CAL checkpoint of the present (R723). -/
def State.calCheckpoint (s : State) : State :=
  (s.store 1 0 16 (calRecord s.lantern.calendar.toNat (!s.lantern.stale) s.drip.count.toNat)).2.2

/-- CAL_CHECKPOINT: every 3,600 power-on seconds, then both LIFE records (R724, R728). -/
def execCalCheckpoint (s : State) : Out :=
  let s1 := s.calCheckpoint.lifeSave.2
  ok (whenDo (s.flowBackground && decide (3600 ≤ s.lantern.sinceCkpt)) s { s1 with lantern.sinceCkpt := 0 })

/-- STICK_INSERT: 512 low ticks of SVC_DET; `sfdp` are the header bytes the stick returns (R733, R734). In a stopped mode the first low
sample is also the SVC wake source (R133) (DEDUCED, assumption 39). -/
def execStickInsert (sfdp : List Byte) (s : State) : Out :=
  let s1 := { s with
    lantern.stickDet := true
    lantern.stickPresent := true
    lantern.sfdpOk := !s.stoppedMode && sfdp.take 4 == [0x53#8, 0x46#8, 0x44#8, 0x50#8] }
  ok (whenDo (s.power.hold == .none && !s.lantern.stickPresent) s ((s1.setLeaf .mgmtStickIn).noteWake 0x20))

/-- CONFIRM_EXPIRED (R757). -/
def execConfirmExpired (s : State) : Out :=
  ok (whenDo (s.flowRuns && s.lantern.confirmPending && s.lantern.confirmLeft == 0) s
    ({ s with lantern.confirmPending := false }.setLeaf .bootConfirmExpired))

end Sys2Proof.Machine
end

