-- ==== Sys2Proof/Machine/Image.lean ====
section
/-!
DEFINITION. Provision values, image headers, validation of a slot, and the test of a pair (17_flowstone.md 2.2; 19_boot_pairing.md 2 to 4).
-/
namespace Sys2Proof.Machine

/-- A provision group is programmed, errors apart (R670). -/
def State.provSet (s : State) (g : Nat) : Bool := !s.groupErased 0 g

/-- Key-hash slot k is programmed without an uncorrectable error, and revoked (R670). -/
def State.keySet (s : State) (k : Nat) : Bool :=
  (List.range 4).all fun i => s.provSet (4 + 4 * k + i) && !s.groupBad 0 (4 + 4 * k + i)
def State.keyRevoked (s : State) (k : Nat) : Bool := s.provSet (20 + k)
def State.keyUsable (s : State) (k : Nat) : Bool := s.keySet k && !s.keyRevoked k
def State.keyHash (s : State) (k : Nat) : List Byte := memBytes s.mem (fsAddr 0 (4 + 4 * k)) 32

/-- Debug is locked (R670). -/
def State.debugLocked (s : State) : Bool := s.provSet 24 || s.groupBad 0 24

/-- Base and size of a slot, and the kind it holds (R635, section 2.1). -/
def slotBase (n : Fin 4) : Nat := [0x08000000, 0x08070000, 0x08080000, 0x080F0000].getD n 0
def slotIsLink (n : Fin 4) : Bool := n.val % 2 == 1
def slotSize (n : Fin 4) : Nat := if slotIsLink n then 0x10000 else 0x70000
def slotKind (n : Fin 4) : Nat := if slotIsLink n then 2 else 1

/-- An image as read from its slot: the 384 bytes of header and signature block (R739). -/
structure Image where
  slot : Fin 4
  head : List Byte

def State.image (s : State) (n : Fin 4) : Image := { slot := n, head := memBytes s.mem (slotBase n) 384 }

def Image.num (i : Image) (off n : Nat) : Nat := natAt i.head off n
def Image.keySlot (i : Image) : Nat := i.num 6 1
def Image.cclk (i : Image) : Nat := i.num 7 1
def Image.version (i : Image) : Nat := i.num 8 4
def Image.len (i : Image) : Nat := i.num 12 4
def Image.ifgen (i : Image) : Nat := i.num 16 2
def Image.silMinor (i : Image) : Nat := i.num 20 1
def Image.setgen (i : Image) : Nat := i.num 22 2
def Image.entry (i : Image) : Nat := i.num 24 4
def Image.daFirst (i : Image) : Nat := i.num 28 1
def Image.daCount (i : Image) : Nat := i.num 29 1
/-- OFFSET and LENGTH of section j, LENGTH 0 when absent. -/
def Image.sect (i : Image) (j : Nat) : Nat × Nat := (i.num (128 + 8 * j) 4, i.num (132 + 8 * j) 4)
/-- KIND, VMIN and VMAX of a TESTED entry. -/
def Image.tested (i : Image) (k : Nat) : Nat × Nat × Nat := (i.num (32 + 12 * k) 1, i.num (36 + 12 * k) 4, i.num (40 + 12 * k) 4)
def Image.recovery (i : Image) : List Byte := (i.head.drop 168).take 24
/-- Header digest and image identity (R740). -/
def Image.digest (i : Image) : List Byte := sha256 (i.head.take 256)
def Image.identity (i : Image) : List Byte := i.digest.take 8
def Image.publicKey (i : Image) : List Byte := (i.head.drop 256).take 64

/-- Bytes of a section; empty when it is absent. -/
def State.section (s : State) (i : Image) (j : Nat) : List Byte :=
  let (off, len) := i.sect j
  if len = 0 then [] else memBytes s.mem (slotBase i.slot + off) len

/-- The entries of a settings defaults section: KEY and data, when they fill it exactly (R794). -/
def defaultsOf : (n : Nat) → List Byte → Option (List (Nat × List Byte))
  | 0, bs => if bs.isEmpty then some [] else none
  | n + 1, bs =>
    if bs.length < 4 then none
    else
      let len := (byteAt bs 1).toNat + 1
      let pad := 4 * ((len + 3) / 4)
      if bs.length < 4 + pad then none
      else (defaultsOf n (bs.drop (4 + pad))).map fun r => ((byteAt bs 0).toNat, (bs.drop 4).take len) :: r

/-- A settings defaults section, when it is well formed (R794). -/
def settingsDefaults (bs : List Byte) : Option (List (Nat × List Byte)) :=
  let n := (byteAt bs 1).toNat
  if byteAt bs 0 != 1 || n = 0 || 3 < n then none
  else
    match defaultsOf n (bs.drop 4) with
    | none => none
    | some es => if es.all (fun e => decide (e.1 ≤ 2)) && (es.map (·.1)).eraseDups.length == n then some es else none

/-- The header is well formed (R741). -/
def State.wellFormed (s : State) (i : Image) : Bool :=
  let present := (List.range 5).filter fun j => (i.sect j).2 != 0
  let len := i.len
  let common := i.num 4 1 == 1 && i.num 5 1 == slotKind i.slot && decide (i.keySlot ≤ 3) &&
    len % 16 == 0 && decide (384 ≤ len) && decide (len ≤ slotSize i.slot) &&
    (present.all fun j => let (o, l) := i.sect j; decide (384 ≤ o) && o % 4 == 0 && decide (o + l ≤ len)) &&
    present.contains 0 && ((List.range 8).all fun k => decide ((i.tested k).1 ≤ 2))
  let (o0, l0) := i.sect 0
  let l1 := (i.sect 1).2
  let l3 := (i.sect 3).2
  if !common then false
  else if slotIsLink i.slot then
    present == [0] && decide (l0 ≤ 16384) && i.cclk == 0 && i.entry == 0 && i.daFirst == 0 && i.daCount == 0
  else
    decide (i.cclk ≤ 5) && i.entry % 4 == 0 && decide (o0 ≤ i.entry) && decide (i.entry < o0 + l0) &&
      (l1 == 0 || l1 == 4 + 68 * ((List.range 8).filter fun b => (byteAt (s.section i 1) 2).getLsbD b).length) &&
      ((i.sect 2).2 == 0 || (i.sect 2).2 == 224) &&
      (l3 == 0 || (decide (4 ≤ l3) && (l3 - 4) % 8 == 0 && decide ((l3 - 4) / 8 ≤ 16))) &&
      ((i.sect 4).2 == 0 || (settingsDefaults (s.section i 4)).isSome) &&
      (i.daCount == 0 || (decide (len ≤ i.daFirst * 4096) && decide (i.daFirst + i.daCount ≤ 112)))

/-- A flash unit of an address range reads as uncorrectable. -/
def State.rangeBad (s : State) (a n : Nat) : Bool := s.integ.uncorrUnits.any fun u => decide (a - 15 ≤ u) && decide (u < a + n) && decide (a < u + 16)

/-- Verdicts of R742, R758 and R759. -/
def vdValid : Byte := 0x00
def vdEmpty : Byte := 0x01
def vdBadMagic : Byte := 0x02
def vdBadHeader : Byte := 0x03
def vdKeySlot : Byte := 0x04
def vdKeyMismatch : Byte := 0x05
def vdEcc : Byte := 0x06
def vdDigest : Byte := 0x07
def vdSignature : Byte := 0x08
def vdGenMismatch : Byte := 0x09
def vdLoadEcc : Byte := 0x0A

/-- Checks 2 to 4 of R742. -/
def State.headerVerdict (s : State) (i : Image) : Byte :=
  if i.head.take 4 != [0x53#8, 0x50#8, 0x58#8, 0x49#8] then vdBadMagic
  else if s.rangeBad (slotBase i.slot) 384 then vdEcc
  else if !s.wellFormed i then vdBadHeader
  else vdValid

/-- Checks 5 to 8 of R742. -/
def State.bodyVerdict (s : State) (i : Image) : Byte :=
  let k := i.keySlot
  if !s.keyUsable k then vdKeySlot
  else if sha256 i.publicKey != s.keyHash k then vdKeyMismatch
  else if s.rangeBad (slotBase i.slot + 384) (i.len - 384) then vdEcc
  else if sha256 (memBytes s.mem (slotBase i.slot + 384) (i.len - 384)) != (i.head.drop 192).take 32 then vdDigest
  else if !ecdsaVerify (beNat (i.publicKey.take 32)) (beNat (i.publicKey.drop 32)) (beNat ((i.head.drop 320).take 32))
      (beNat ((i.head.drop 352).take 32)) i.digest then vdSignature
  else vdValid

/-- The verdict of a slot (R742). -/
def State.verdict4 (s : State) (i : Image) : Byte :=
  if (i.head.take 4).all (· == 0xFF) then vdEmpty
  else if s.headerVerdict i != vdValid then s.headerVerdict i
  else s.bodyVerdict i

/-- Reads of a range report its corrected units, as for any read (R742, R608). -/
def State.reportRange (s : State) (a n : Nat) : State :=
  (((List.range ((n + 15) / 16)).map fun k => a + 16 * k).filter s.integ.corrUnits.contains).foldl State.reportCorr s

/-- How much of an image the checks behind a verdict have read: the body only after the key checks (R742). -/
def Image.readLen (i : Image) (formed : Bool) (v : Byte) : Nat :=
  if formed && v != vdKeySlot && v != vdKeyMismatch then i.len else 384

/-- VERSION lies in a TESTED entry of `a` for the other kind (R746). -/
def Image.covers (i : Image) (kind version : Nat) : Bool :=
  (List.range 8).any fun k => let (t, lo, hi) := i.tested k; t == kind && decide (lo ≤ version) && decide (version ≤ hi)

/-- The silicon major revision lies in the image's range (R746). -/
def Image.fitsSilicon (i : Image) : Bool :=
  decide (i.num 18 1 ≤ (bits (Config.identity 0) 8 8).toNat) &&
    (i.num 19 1 == 0xFF || decide ((bits (Config.identity 0) 8 8).toNat ≤ i.num 19 1))

/-- The pair of application `a` and link `l` is tested (R746). -/
def testedPair (a l : Image) : Bool :=
  a.fitsSilicon && l.fitsSilicon && decide (a.ifgen ≤ l.ifgen) && (a.covers 2 l.version || l.covers 1 a.version)

/-- FS_PROV (R700). -/
def State.fsProv (s : State) : Word :=
  let g1 := memBytes s.mem (fsAddr 0 1) 8
  flag 10 (crc8 (g1.take 7) == byteAt g1 7 && !s.groupBad 0 1) ||| flag 9 (s.provSet 3 && !s.groupBad 0 3) ||| flag 8 s.debugLocked |||
    (bitmap 4 s.keyRevoked <<< 4) ||| bitmap 4 s.keySet

end Sys2Proof.Machine
end

