-- ==== Sys2Proof/Machine/Rings.lean ====
section
/-!
DEFINITION. The boot scan of Flowstone, and ring plans (17_flowstone.md 8, 9).
-/
namespace Sys2Proof.Machine

/-- A system ring with no sectors yet (R676). -/
def systemRing (x : Nat × Nat × Nat × Bool) : Ring :=
  { id := x.1, sectors := [], s8 := x.2.1, n := plannedSectors x.1, keys := x.2.2.1, mirror := x.2.2.2 }

/-- Format one sector for a ring, or 0xFF for the pool; an erase that fails, or a count of 100,000, retires it (R671, R690, R691). -/
def State.formatSector (s : State) (counts : List (Bool × Nat)) (id sec : Nat) : State :=
  let (est, erases) := counts.getD sec (true, 0)
  let (good, s1) := if 100000 ≤ erases then (false, s) else s.eraseFs sec
  if good then (s1.programGroup sec 0 (headerGroup id est (erases + 1))).2
  else
    let f := s1.flow
    (s1.setFlow { f with
      retired := f.retired ++ [sec]
      pool := f.pool.filter (· != sec)
      rings := f.rings.map fun r => { r with sectors := r.sectors.filter (· != sec) } }).setLeaf .nvstoreSectorRetired

/-- Open the first sector of a formatted ring as its head (R678). -/
def State.openFirst (s : State) (id : Nat) : State :=
  match s.ring id with
  | some r => (match r.sectors.find? s.sectorFree with | some sec => s.openHead r sec 0 | none => s)
  | none => s

/-- First format: system rings in sectors 2 to 43, the rest to the free pool (R676, R694). -/
def State.formatAll (s : State) : State :=
  let assign : Nat → Nat × List (Ring) → Nat × List Ring := fun i acc =>
    match systemRings[i]? with
    | some x => (acc.1 + plannedSectors x.1,
        acc.2 ++ [{ systemRing x with sectors := (List.range (plannedSectors x.1)).map fun k => acc.1 + k }])
    | none => acc
  let (next, rings) := (List.range 11).foldl (fun acc i => assign i acc) (2, [])
  let pool := (List.range (64 - next)).map fun k => next + k
  let counts := (List.range 64).map (s.erasesOf none)
  let s1 := s.setFlow { s.flow with rings := rings, pool := pool, retired := [], orphans := [] }
  let s2 := rings.foldl (fun s r => r.sectors.foldl (fun s x => s.formatSector counts r.id x) s) s1
  let s3 := pool.foldl (fun s x => s.formatSector counts 0xFF x) s2
  let s4 := rings.foldl (fun s r => s.openFirst r.id) s3
  (s4.setFlow { s4.flow with rings := s4.flow.rings.map fun r => { r with ro := r.exhausted } }).saveMap []

/-- The head of a ring as the boot scan finds it: the open sector with the latest record, or the one after it when that was opened since
and holds no record; a ring without records has the last sector opened (R678, R694). -/
def State.findHead (s : State) (r : Ring) : Option Nat :=
  let opens := r.sectors.filter s.sectorOpen
  match latest (opens.flatMap (s.sectorRecords r.s8)) with
  | none => (opens.find? fun x => s.nextSlot r.s8 x == some 0).or opens.head?
  | some w =>
    let n := r.after w.sector
    let epoch := (s.marker n).getD 0
    if opens.contains n && (s.sectorRecords r.s8 n).isEmpty &&
        (decide (w.epoch < epoch) || (epoch == w.epoch && (s.nextSlot r.s8 n == some 0 || (s.nextSlot r.s8 w.sector).isNone)))
    then some n else some w.sector

/-- Uncommitted slots of a sector (R674). -/
def State.tornSlots (s : State) (r : Ring) (sec : Nat) : Nat :=
  (s.slotsOf r.s8 sec).countP fun x => match x with | .torn => true | _ => false

/-- The sectors whose headers name a ring. -/
def State.namedSectors (s : State) (id : Nat) : List Nat :=
  ((List.range 62).map (· + 2)).filter fun x => ((s.header x).map (·.1)) == some id

/-- A ring with the sectors whose headers name it. -/
def State.gather (s : State) (gone : List Nat) (r : Ring) : Ring :=
  { r with sectors := (s.namedSectors r.id).filter fun x => !gone.contains x, head := none }

/-- A gathered ring with its head, read-only by R692. -/
def State.withHead (s : State) (r : Ring) : Ring := { r with head := s.findHead r, ro := r.exhausted }

/-- Orphans go to the rings short of the sectors they were formatted with, the lowest ID first; a retired sector is no shortage (R691, R694). -/
def State.giveOrphans (s : State) (gone : List Nat) (rings : List Ring) : List Nat → List Ring
  | [] => rings
  | sec :: rest =>
    match rings.find? fun r => decide (r.sectors.length + ((s.namedSectors r.id).countP gone.contains) < r.n) with
    | some r => s.giveOrphans gone (rings.map fun x => if x.id == r.id then { x with sectors := (x.sectors ++ [sec]).mergeSort (· ≤ ·) } else x) rest
    | none => s.giveOrphans gone rings rest

/-- Sectors of the retirement map (R691). -/
def retiredOf (b : List Byte) : List Nat := (List.range 64).filter fun i => (natAt b 0 8).testBit i

/-- The boot scan (R694): rings, pool, orphans and torn slots; the geometry of user rings is that of `rings` (DEDUCED, assumption 11). -/
def State.bootScan (s : State) : State :=
  let users := s.flow.rings.filter fun r => decide (16 ≤ r.id)
  let heads := ((List.range 62).map (· + 2)).filterMap fun x => (s.header x).map (·.1)
  if !(heads.any fun id => decide (id ≤ 10)) then s.formatAll
  else
    let s0 := s.setFlow { s.flow with rings := [s.gather [] (systemRing (9, 3, 5, false))], worn := [] }
    let gone := ((s0.load 9 4).map fun x => retiredOf x.data).getD []
    let live := ((List.range 62).map (· + 2)).filter fun x => !gone.contains x
    let orphans := live.filter fun x => (s.header x).isNone
    let gathered := (systemRings.map systemRing ++ users.map fun (r : Ring) => { r with shown := false, ro := false }).map (s.gather gone)
    let rings := (s.giveOrphans gone gathered orphans).map s.withHead
    let s1 := s.setFlow { s.flow with
      worn := []
      noted := []
      rings := rings
      retired := gone
      pool := live.filter fun x => ((s.header x).map (·.1)) == some 0xFF
      orphans := orphans }
    let torn := (rings.map fun r => (r.head.map (s1.tornSlots r)).getD 0).sum
    let s2 := s1.setFlow { s1.flow with torn := min 255 torn }
    let s3 := rings.foldl (fun s r => r.sectors.foldl (fun s sec => s.noteFailed r sec) s) s2
    s3.setLeafIf (rings.any (·.ro)) .nvstoreRingRo

/-- Apply the REPAIR records (R622). -/
def State.applyRepair (s : State) : State :=
  (List.finRange 4).foldl (fun s (b : Fin 4) =>
    let r := s.integ.repair[b]
    match s.load 9 b with
    | some x => s.setRepair b { r with spares := repairOf x.data }
    | none => s) s

/-- Resolve every mirrored pair, SETTINGS, KEYS, TOKEN and the plan's (R683, R685). -/
def State.resolveAll (s : State) : State := (s.flow.rings.filter (·.mirror)).foldl State.resolvePair s

/-- An entry of a ring plan (R696). -/
structure PlanEntry where
  id : Nat
  n : Nat
  s8 : Nat
  keys : Nat
  mirror : Bool
  deriving DecidableEq

def planEntries (b : List Byte) : List PlanEntry :=
  (List.range (byteAt b 1).toNat).map fun i =>
    let f : Nat → Nat := fun k => (byteAt b (4 + 8 * i + k)).toNat
    { id := f 0, n := f 1, s8 := f 2, keys := f 3 + 1, mirror := (byteAt b (8 + 8 * i)).getLsbD 0 }

/-- Copy A's entry is followed by its copy B (R697). -/
def mirrorsOk : List PlanEntry → Bool
  | [] => true
  | e :: rest =>
    (!e.mirror || (e.id % 2 == 0 && (match rest with
      | f :: _ => f.id == e.id + 1 && f.n == e.n && f.s8 == e.s8 && f.keys == e.keys && !f.mirror
      | [] => false))) && mirrorsOk rest

/-- An entry names a stored ring of other geometry or pairing (R697). -/
def State.planChanged (s : State) (es : List PlanEntry) (e : PlanEntry) : Bool :=
  match s.ring e.id with
  | none => false
  | some r =>
    let copyB := es.any fun a => a.mirror && a.id + 1 == e.id
    let storedB := s.flow.rings.any fun a => a.mirror && a.id + 1 == e.id
    r.n != e.n || r.s8 != e.s8 || r.keys != e.keys || r.mirror != e.mirror || copyB != storedB

/-- Entries that no stored ring matches. -/
def State.newRings (s : State) (es : List PlanEntry) : List PlanEntry := es.filter fun e => (s.ring e.id).isNone

/-- The reason for which a plan is rejected, 0 when it passes (R697, R677). -/
def State.planCheck (s : State) (b : List Byte) : BitVec 4 :=
  let es := planEntries b
  if byteAt b 0 != 1 then 1
  else if 16 < (byteAt b 1).toNat then 2
  else if es.any (fun e => decide (e.id < 16) || decide (31 < e.id)) || (es.map (·.id)).eraseDups.length != es.length then 3
  else if es.any (fun e => decide (e.n < 2) || decide (16 < e.n) || e.s8 == 0 || decide (32 < e.s8) ||
      decide ((e.n - 1) * slotsPer e.s8 - 1 < e.keys)) then 4
  else if !mirrorsOk es then 5
  else if es.any (s.planChanged es) then 6
  else if s.flow.pool.length < ((s.newRings es).map (·.n)).sum then 7
  else 0

/-- Take the lowest sector of the pool for a ring: erase it and write its header; an erase that fails retires it. -/
def State.assignSector (s : State) (id : Nat) : State :=
  match s.flow.pool with
  | [] => s
  | sec :: rest =>
    let s0 := s.setFlow { s.flow with pool := rest }
    let (good, s1) := if s.wornOut none sec then (false, s0) else s0.renew (s.ring id) sec
    if !good then s1.retireFree sec
    else s1.setFlow { s1.flow with rings := s1.flow.rings.map fun r => if r.id == id then { r with sectors := r.sectors ++ [sec] } else r }

/-- Format one ring of the plan (R698). -/
def State.formatRing (s : State) (e : PlanEntry) : State :=
  let r : Ring := { id := e.id, sectors := [], s8 := e.s8, n := e.n, keys := e.keys, mirror := e.mirror }
  let s1 := s.setFlow { s.flow with rings := s.flow.rings ++ [r] }
  ((List.range e.n).foldl (fun s _ => s.assignSector e.id) s1).openFirst e.id

/-- Apply the ring plan of an application image, or none (R697, R698). -/
def State.applyPlan (s : State) (b : List Byte) : State :=
  let hide := s.setFlow { s.flow with
    rings := s.flow.rings.map fun r => if 16 ≤ r.id then { r with shown := false } else r }
  if b.isEmpty then hide.setFlow { hide.flow with plan := 0, planReason := 0 }
  else
    let why := s.planCheck b
    if why != 0 then (hide.setFlow { hide.flow with plan := 2, planReason := why }).setLeaf .nvstorePlanReject
    else
      let es := planEntries b
      let old := hide.flow.retired
      let s1 := ((s.newRings es).foldl State.formatRing hide).saveMap old
      s1.setFlow { s1.flow with
        plan := 1, planReason := 0
        rings := s1.flow.rings.map fun r => if 16 ≤ r.id then { r with shown := es.any fun e => e.id == r.id } else r }

/-- Confirmation of the running image releases the stored rings its plan omits (R698). -/
def State.releaseRings (s : State) : State :=
  if s.flow.plan != 1 then s
  else
    let out := s.flow.rings.filter fun r => !r.shown
    let s1 := s.setFlow { s.flow with rings := s.flow.rings.filter (·.shown) }
    (out.flatMap (·.sectors)).foldl State.toPool s1

/-- FS_STAT, FS_EVENTS, FS_DIVERGE, FS_WEAR and FS_RINGn (R700). -/
def FlowBlock.stat (f : FlowBlock) : Word :=
  fld 24 f.planReason ||| fld 22 f.plan ||| nfld 16 f.retired.length ||| nfld 8 f.torn ||| nfld 0 f.pool.length
def FlowBlock.events (f : FlowBlock) : Word := nfld 16 f.refresh ||| nfld 8 f.uncorr ||| nfld 0 f.diverge
def FlowBlock.divergeWord (f : FlowBlock) : Word := flag 16 f.divergeValid ||| nfld 8 f.divergeRing ||| nfld 0 f.divergeKey

/-- FS_WEAR: the live sector with the highest erase count; of equal ones the lowest. -/
def State.fsWear (s : State) : Word :=
  let live := ((List.range 62).map (· + 2)).filter fun x => !s.flow.retired.contains x
  let best := live.foldl (fun (b : Nat × Nat) x =>
    let e := ((s.header x).map (·.2.2)).getD 0
    if b.2 < e then (x, e) else b) (0, 0)
  nfld 24 best.1 ||| nfld 0 best.2

def FlowBlock.ringWord (f : FlowBlock) (n : Nat) : Word :=
  match f.rings.find? fun r => r.id == n && r.shown with
  | none => 0
  | some r =>
    flag 31 true ||| flag 30 r.ro ||| flag 29 r.mirror ||| nfld 24 r.sectors.length ||| nfld 16 (r.keys - 1) ||| nfld 8 (r.s8 - 1)

end Sys2Proof.Machine
end

