-- ==== Sys2Proof/Machine/Settings.lean ====
section
/-!
DEFINITION. The boot record, and settings: defaults, save, restore (19_boot_pairing.md 5; 20_update.md 6).
-/
namespace Sys2Proof.Machine

/-- The boot record (R750). -/
structure BootRecord where
  trial : Bool := false
  /-- CONF and TRIAL bytes. -/
  conf : Byte := 0
  pair : Byte := 0
  confApp : List Byte := List.replicate 8 0#8
  confLink : List Byte := List.replicate 8 0#8
  trialApp : List Byte := List.replicate 8 0#8
  trialLink : List Byte := List.replicate 8 0#8
  rej : List (List Byte) := List.replicate 4 (List.replicate 8 0#8)
  deriving DecidableEq

/-- The record as it stands; one that is EMPTY or does not match is SETTLED with nothing else (R750). -/
def State.bootRecord (s : State) : BootRecord :=
  match s.load 7 7 with
  | none => {}
  | some x =>
    let b := x.data
    let id : Nat → List Byte := fun o => (b.drop o).take 8
    if natAt b 0 2 != 0xB007 || byteAt b 2 != 1 then {}
    else
      { trial := byteAt b 3 == 1, conf := byteAt b 4, pair := byteAt b 5, confApp := id 8, confLink := id 16, trialApp := id 24,
        trialLink := id 32, rej := (List.range 4).map fun n => id (40 + 8 * n) }

def BootRecord.bytes (r : BootRecord) : List Byte :=
  leBytes 2 0xB007 ++ [1#8, if r.trial then 1#8 else 0#8, r.conf, r.pair, 0#8, 0#8] ++ r.confApp ++ r.confLink ++ r.trialApp ++ r.trialLink ++
    r.rej.flatten ++ List.replicate 56 0#8

/-- Commit a boot record; whether the status was OK. -/
def State.saveRecord (s : State) (r : BootRecord) : Bool × State :=
  let (st, _, s1) := s.store 7 7 128 r.bytes
  (st == stOk, s1)

/-- Boot ROM's write of the boot record, which Lantern ends with LOW_SUPPLY during a supply warning (R731, R754). -/
def State.bootSave (s : State) (r : BootRecord) : Bool × State := if s.power.bodWarn then (false, s) else s.saveRecord r

/-- A pair byte: application slot, link slot, VALID (R750). -/
def pairByte (a l : Fin 4) : Byte := (if a == 2 then 1#8 else 0#8) ||| (if l == 3 then 2#8 else 0#8) ||| 0x80#8

/-- The confirmed identity of an image's kind, when there is one. -/
def BootRecord.confirmed (r : BootRecord) (link : Bool) : Option (List Byte) :=
  if r.conf.getLsbD 7 then some (if link then r.confLink else r.confApp) else none

/-- The image is rejected in its slot (R751). -/
def BootRecord.rejects (r : BootRecord) (i : Image) : Bool := r.rej.getD i.slot [] == i.identity

/-- Set REJ of a slot. -/
def BootRecord.reject (r : BootRecord) (n : Fin 4) (id : List Byte) : BootRecord := { r with rej := r.rej.set n id }

/-- The rollback of a trial (R752). -/
def BootRecord.rollback (r : BootRecord) : BootRecord :=
  let a : Fin 4 := if r.pair.getLsbD 0 then 2 else 0
  let l : Fin 4 := if r.pair.getLsbD 1 then 3 else 1
  let r1 := if r.confirmed false == some r.trialApp then r else r.reject a r.trialApp
  let r2 := if r.confirmed true == some r.trialLink then r1 else r1.reject l r.trialLink
  { r2 with trial := false }

/-- The record that puts a pair on trial (R753). -/
def BootRecord.onTrial (r : BootRecord) (a l : Image) : BootRecord :=
  { r with trial := true, pair := pairByte a.slot l.slot, trialApp := a.identity, trialLink := l.identity }

/-- The record that settles a confirmed trial (R756). -/
def BootRecord.settled (r : BootRecord) : BootRecord :=
  { r with trial := false, conf := r.pair, confApp := r.trialApp, confLink := r.trialLink }

/-- Write one settings key; the state after it and whether the status was OK so far. -/
def State.putKey (acc : Bool × State) (key : Nat) (data : List Byte) : Bool × State :=
  let (st, _, s1) := acc.2.store 7 key data.length data
  (acc.1 && st == stOk, s1)

/-- Bytes of a settings key, when it has a record. -/
def State.setting (s : State) (key : Nat) : Option (List Byte) := (s.load 7 key).map fun x => x.data.take x.len

/-- The control record is SAVED; its SETGEN and identity (R793). -/
def State.savedFor (s : State) : Option (List Byte) :=
  match s.setting 6 with
  | some b => if byteAt b 0 == 1 then some ((b.drop 4).take 8) else none
  | none => none

/-- Clear the saved copies (R793). -/
def State.clearSaved (acc : Bool × State) : Bool × State :=
  let a := [3, 4, 5].foldl (fun a k => State.putKey a k [0#8]) acc
  State.putKey a 6 (List.replicate 16 0#8)

/-- Copy three settings keys from `src` up to `dst` up; one that is EMPTY is copied as one byte 0 (DEDUCED, assumption 47). -/
def State.copyKeys (acc : Bool × State) (src dst : Nat) : Bool × State :=
  [0, 1, 2].foldl (fun a k => State.putKey a (dst + k) ((a.2.setting (src + k)).getD [0#8])) acc

/-- Key 0 as an image's defaults give it (R795). -/
def State.defaultKey0 (s : State) (a : Image) : List Byte :=
  let es := (settingsDefaults (s.section a 4)).getD []
  let e := ((es.find? fun x => x.1 == 0).map (·.2)).getD []
  leBytes 2 a.setgen ++ (padTo (max 4 e.length) e).drop 2

/-- Write an image's defaults (R795). -/
def State.writeDefaults (acc : Bool × State) (a : Image) : Bool × State :=
  let es := (settingsDefaults (acc.2.section a 4)).getD []
  let other : Nat → List Byte := fun k => ((es.find? fun x => x.1 == k).map (·.2)).getD [0#8]
  State.putKey (State.putKey (State.putKey acc 0 (acc.2.defaultKey0 a)) 1 (other 1)) 2 (other 2)

/-- The defaults apply to the new application: key 0 is EMPTY or of another SETGEN (R797). -/
def State.defaultsApply (s : State) (a : Image) : Bool :=
  match s.setting 0 with
  | none => true
  | some b => natAt b 0 2 != a.setgen

/-- The save of R797: keys 0 to 2 into 3 to 5, then the control record. -/
def State.saveSettings (acc : Bool × State) (a : Image) (trial : Bool) : Bool × State :=
  match acc.2.setting 0 with
  | none => acc
  | some b =>
    if !trial || acc.2.savedFor.isSome then acc
    else State.putKey (State.copyKeys acc 0 3) 6 ([1#8, 0#8] ++ b.take 2 ++ a.identity ++ List.replicate 4 0#8)

/-- PW_CFG and STICK_AUTO from the bytes of key 0 (R792, R796). -/
def State.applyKey0 (s : State) (b : List Byte) : State :=
  { s with power.cfg := (byteAt b 2).extractLsb' 0 3, update.stickAuto := (byteAt b 3).getLsbD 0 }

/-- The settings steps of boot for application `c` (R796 to R799); Lantern ends their writes with LOW_SUPPLY during a supply warning (R731). -/
def State.bootSettings (s : State) (r : BootRecord) (c : Image) (trial : Bool) : State :=
  let a0 : Bool × State := (true, s)
  let wrote := fun (a : Bool × State) => if s.power.bodWarn then (false, s) else a
  let (a1, restored) := match s.savedFor with
    | none => (a0, false)
    | some id =>
      if r.confirmed false == some id then (wrote (State.clearSaved a0), false)
      else if id != c.identity then (wrote (State.clearSaved (State.copyKeys a0 3 0)), true)
      else (a0, false)
  let live := if restored then s.setting 3 else s.setting 0
  let needs := match live with
    | none => true
    | some b => natAt b 0 2 != c.setgen
  let (good, s2) := if needs then wrote (State.writeDefaults (State.saveSettings a1 c trial) c) else a1
  let meant := if needs then s2.defaultKey0 c else live.getD []
  let s3 := (s2.setLeafIf needs .updateSettingsReset).setLeafIf (!good) .updateSettingsFail
  s3.applyKey0 meant

/-- The settings writes of a hitless activation; on a failure those made are undone (R786, R797). -/
def State.activationSettings (s : State) (a : Image) : Bool × State :=
  if s.defaultsApply a then State.writeDefaults (State.saveSettings (true, s) a true) a else (true, s)

/-- Undo the settings writes of an activation, in reverse order: the live keys from their copies, and the saved copies cleared (R786). -/
def State.undoSettings (s old : State) : State :=
  let back := [2, 1, 0].foldl (fun (a : Bool × State) k =>
    if a.2.setting k == old.setting k then a
    else State.putKey a k ((old.setting k).getD [0#8])) (true, s)
  (if back.2.savedFor == old.savedFor then back else State.clearSaved back).2

end Sys2Proof.Machine
end

