-- ==== Sys2Proof/Machine/Boot.lean ====
section
/-!
DEFINITION. Reset, the boot sequence, and SUMP (00_scope.md 3.1; 02_drip.md 3.2; 18_lantern.md 4, 5; 19_boot_pairing.md).
-/
namespace Sys2Proof.Machine

/-- Bytes that keep their content through a reset: main flash and Flowstone. -/
def isStorage (a : Nat) : Bool :=
  (decide (0x08000000 ≤ a) && decide (a < 0x08100000)) || (decide (0x38000000 ≤ a) && decide (a < 0x38008000))

/-- The integrity state after a reset: marks of the storage arrays stay, RAM is cleared (R610). -/
def IntegrityBlock.kept (g : IntegrityBlock) : IntegrityBlock :=
  { corrUnits := g.corrUnits, corrGroups := g.corrGroups, uncorrUnits := g.uncorrUnits, uncorrGroups := g.uncorrGroups,
    onesUnits := g.onesUnits, onesGroups := g.onesGroups, deadUnits := g.deadUnits, deadGroups := g.deadGroups,
    deadSectors := g.deadSectors, deadWords := g.deadWords }

/-- Lantern after a reset: the Cold class, and the counters of its own state, survive every reset but a Cold one (R12, R120, R719, R721,
R728); the geometry of user rings is kept with the store (DEDUCED, assumption 11). -/
def LanternBlock.kept (l : LanternBlock) (cold : Bool) (cause : ResetCause) : LanternBlock :=
  let rings := l.flow.rings.filter fun r => decide (16 ≤ r.id)
  let base : LanternBlock := { cause := cause, stickDet := l.stickDet, flow := { rings := rings } }
  if cold then base
  else { base with
    calendar := l.calendar, stale := l.stale, calHi := l.calHi, alarm := l.alarm, alarmArmed := l.alarmArmed, life := l.life, bodHist := l.bodHist }

/-- A System reset, Cold or not, with its cause: every register at its Reset value but those of surviving classes; SRAM, DTCM and gallery
cleared; storage, pins and cells as they are (R12, R34, R120, R157, R610, R658, R902). -/
def State.afterReset (s0 : State) (cold : Bool) (cause : ResetCause) (hold : ResetHold) : State :=
  let s := s0.cutFlash
  let p := s.power
  let power : PowerBlock := { vpaPinLow := p.vpaPinLow, vpaLow := p.vpaPinLow, hold := hold, nresetLow := p.nresetLow }
  let d : DripBlock := {}
  let gpio : GpioBlock := { level := s.periph.gpio.level }
  let b : State := { State.reset with
    mem := s.mem.filter fun c => isStorage c.1
    integ := s.integ.kept
    lantern := s.lantern.kept cold cause
    key.orderable := s.key.orderable
    free := s.free
    pending := s.pending
    power := if cold then power else { power with
      wakeSrc := p.wakeSrc, lfSrcRc := p.lfSrcRc, lfActiveRc := p.lfActiveRc, lfXoRun := p.lfXoRun, lfFailed := p.lfFailed, bodWarn := p.bodWarn }
    drip := if cold then d else { d with
      stopEdge := if s.drip.running then s.drip.count else s.drip.stopEdge
      stopCycles := if s.drip.running then none else s.drip.stopCycles
      stopRan := s.drip.running || s.drip.stopRan
      keptC := s.drip.keptC }
    periph.gpio := if cold then gpio else { gpio with wakePin := s.periph.gpio.wakePin }
    chain := s.chain.kept
    flash.last := if cold then 0 else s.flash.last }
  { b with seen := b.toBlocks }

/-- The lifetime counter of a reset cause (R729). -/
def ResetCause.counter : ResetCause → Option (Fin 19)
  | .powerOn => some 1
  | .brownout => some 2
  | .clock => some 7
  | .vector => some 6
  | .pin => some 3
  | .resetUnit => some 4
  | .software => some 5
  | .hibernate => none

/-- The lifetime counters and the brownout history as the LIFE ring holds them (R727, R728). -/
def State.restoreLife (s : State) : State :=
  let k0 := ((s.load 0 0).map (·.data)).getD []
  let k1 := ((s.load 0 1).map (·.data)).getD (List.replicate 54 0#8 ++ List.replicate 10 0xFF#8)
  { s with
    lantern.life := Vector.ofFn fun (i : Fin 19) => if i.val < 10 then natAt k0 (6 * i) 6 else natAt k1 (6 * (i - 10)) 6
    lantern.bodHist := padTo 8 (k1.drop 54) }

/-- Restore the counters and count a reset (R726, R728, R729, R732); `ticks` are the LFCLK ticks in HIBERNATE. -/
def State.bootLife (s : State) (cold : Bool) (ticks : Nat) : State :=
  let c := s.lantern.cause
  let s1 := if cold || c == .hibernate then s.restoreLife else s
  let s2 := match c.counter with
    | some i => s1.lifeAdd i 1
    | none => s1.lifeAdd 0 (ticks / 32768)
  if c == .brownout then
    { s2 with lantern.bodHist := leBytes 4 (s2.lantern.life[0] / 60) ++ s2.lantern.bodHist.take 4 }.setLeaf .powerBodReset
  else s2

/-- The LIFE records of a boot, once every counter of the reset is counted, the SUMP entry among them (R728); they wait during a supply
warning (R731). -/
def State.saveBootLife (s : State) : State := if s.power.bodWarn then { s with lantern.lifeDue := true } else s.lifeSave.2

/-- Leases of counters 8 to 15 at boot (R687); during a supply warning the first increment after it commits one (R731). -/
def State.bootMono (s : State) : State :=
  (List.finRange 8).foldl (fun s (i : Fin 8) =>
    let p := (s.monoOf (8 + i)).1
    if s.power.bodWarn then { s with lantern.mono := s.lantern.mono.set i (p, p) }
    else
      let (st, _, s1) := s.store 2 (8 + i) 8 (monoRecord (nextLease p) 0)
      { s1 with lantern.mono := s1.lantern.mono.set i (p, if st == stOk then nextLease p else p) }) s

/-- Key and lease load of a slot at boot; MS_LEASEn reads 0 until the first grant (R310, R316, R318, R326). During a supply warning the lease waits, and none is granted yet (R731). -/
def State.bootSlot (s : State) (n : Fin 8) : State :=
  let (cur, prev) := s.storedKeys n
  match cur with
  | none => s.queueLoad { slot := n, cur := none, prev := none, counter := none }
  | some (_, e) =>
    let p := (s.leaseBase n).1
    if s.power.bodWarn then
      { s.queueLoad { slot := n, cur := cur, prev := prev, counter := some (word0 p, 0) } with
        lantern.leaseAsked := s.lantern.leaseAsked ++ [n] }
    else
    let (st, _, s1) := s.store 2 n 8 (monoRecord (nextLease p) e.toNat)
    let good := st == stOk
    let s2 := s1.queueLoad { slot := n, cur := cur, prev := prev, counter := some (word0 p, if good then word0 (nextLease p) else 0) }
    if good then s2 else { s2 with lantern.leaseAnswers := s2.lantern.leaseAnswers ++ [(n, none)] }

/-- Loads for the other planes that the first transfer delivers (R36, R328). -/
def State.bootLoads (s : State) : State :=
  let s1 := (List.finRange 8).foldl State.bootSlot s.bootMono
  { s1 with lantern.tokenLoad := true, lantern.lockLoad := some (((s1.load 10 0).map fun x => x.data.take 16).getD []) }

/-- The calendar and the drip count after a Cold reset, from the CAL ring (R79, R719). -/
def State.coldTime (s : State) : State :=
  match s.load 1 0 with
  | none => { s with lantern.calendar := 0, lantern.stale := true, drip.count := 0, drip.phase := 0, drip.gap := true, drip.running := true }
  | some x =>
    let k := natAt x.data 6 6 + 14400000
    { s with
      lantern.calendar := BitVec.ofNat 40 (natAt x.data 0 5), lantern.stale := true
      drip.count := BitVec.ofNat 48 (min k (2 ^ 48 - 1)), drip.phase := 0, drip.gap := true, drip.running := true }

/-- SRAM words that read as uncorrectable once the repair map is applied: failing cells in rows that no spare serves (R610, R762). -/
def State.markDead (s : State) : State :=
  { s with integ.uncorrWords := s.integ.deadWords.filter fun a => !s.integ.served a }

/-- Validate the four slots (R742 to R744). -/
def State.validate (s : State) : State :=
  let noKey := !((List.range 4).any s.keyUsable)
  let s1 := (List.finRange 4).foldl (fun s (n : Fin 4) =>
    let i := s.image n
    let v := if noKey && !(i.head.take 4).all (· == 0xFF) then vdKeySlot else s.verdict4 i
    let formed := v != vdEmpty && !noKey && s.headerVerdict i == vdValid
    let s' := if v == vdEmpty || noKey then s else s.reportRange (slotBase n) (i.readLen formed v)
    { s' with
      boot.verdict := s'.boot.verdict.set n v
      boot.version := s'.boot.version.set n (if formed then word0 i.version else 0)
      boot.ifgen := s'.boot.ifgen.set n (if formed then BitVec.ofNat 16 i.ifgen else 0) }) s
  s1.setLeafIf (s1.boot.verdict.toList.any fun v => v != vdValid && v != vdEmpty) .bootImageBad

/-- The usable images of a kind, in rank order (R745). -/
def State.usable (s : State) (r : BootRecord) (link : Bool) : List Image :=
  let slots : List (Fin 4) := if link then [1, 3] else [0, 2]
  let is := (slots.filter fun n => s.boot.verdict[n] == vdValid).map s.image
  let us := is.filter fun i => !r.rejects i
  match us with
  | [a, b] =>
    if a.version < b.version then [b, a]
    else if b.version < a.version then [a, b]
    else if r.confirmed link == some b.identity && r.confirmed link != some a.identity then [b, a]
    else [a, b]
  | _ => us

/-- Candidates in order, and the first tested one with its position (R747). -/
def State.choose (s : State) (r : BootRecord) : Option (Nat × Image × Image) :=
  let cs := (s.usable r false).flatMap fun a => (s.usable r true).map fun l => (a, l)
  match cs.findIdx? fun c => testedPair c.1 c.2 with
  | none => none
  | some k => (cs[k]?).map fun c => (k, c.1, c.2)

/-- SUMP reasons (R748). -/
def State.noPairReason (s : State) (r : BootRecord) : Byte :=
  if (s.usable r false).isEmpty then 2 else if (s.usable r true).isEmpty then 3 else 4

/-- One of these sections of an image meets an uncorrectable error while it is loaded (R759). -/
def State.loadEcc (s : State) (i : Image) (sections : List Nat) : Bool :=
  sections.any fun j => let (o, l) := i.sect j; l != 0 && s.rangeBad (slotBase i.slot + o) l

/-- Make an image unusable with a verdict at load (R758, R759). -/
def State.loadFails (s : State) (i : Image) (v : Byte) : State :=
  { s with boot.verdict := s.boot.verdict.set i.slot v }.setLeaf .bootImageBad

/-- Load the microcode of a link image: GEN and VERSION as the code reports them (R283, R758). -/
def State.loadUcode (s : State) (l : Image) : State :=
  let w := Config.ucode (s.section l 0)
  { s with link.ucodeVersion := bits w 16 16, link.ucodeGen := bits w 0 16 }

/-- The CX section loaded into an empty table (R542, R543). -/
def State.loadCx (s : State) (a : Image) : State :=
  let b := s.section a 1
  let s0 := { s with core.cx := {} }
  if b.isEmpty then s0
  else if byteAt b 0 != 1 then s0.setLeaf .coreCxReject
  else
    let present := byteAt b 2
    let c := (List.finRange 8).foldl (fun (acc : Nat × CxBlock) (e : Fin 8) =>
      if present.getLsbD e then (acc.1 + 68, acc.2.load e (bytesToWords 17 (b.drop acc.1))) else acc) (4, s0.core.cx)
    let bad := (List.finRange 8).any fun (e : Fin 8) => present.getLsbD e && !(c.2.table[e]).valid
    { s0 with core.cx := { c.2 with lock := (byteAt b 1).getLsbD 0 } }.setLeafIf bad .coreCxReject

/-- The core's entry state (R760, R788). -/
def State.startCore (s : State) (a l : Image) (hitless : Bool) : State :=
  let g := (((Vector.replicate 32 0#32).set 1 (word0 (slotBase a.slot))).set 2 (word0 (slotBase l.slot))).set 30 0x20040000#32
  let c : CoreBlock := {
    g := if hitless then g.set 3 1#32 else g
    pc := word0 (slotBase a.slot + a.entry)
    dripHi := s.drip.count.extractLsb' 32 16
    cx := s.core.cx }
  { s with core := c }

/-- FL_DAREA for an application image (R655). -/
def State.setDataArea (s : State) (a : Image) : State :=
  if a.daCount = 0 then { s with flash.areaFirst := 0, flash.areaCount := 0 }
  else { s with
    flash.areaFirst := BitVec.ofNat 8 ((slotBase a.slot - flashBase) / 4096 + a.daFirst), flash.areaCount := BitVec.ofNat 8 a.daCount }

/-- The route table of an application image (R568, R571). -/
def State.routesOf (s : State) (a : Image) : Option (List Word) :=
  let b := s.section a 2
  if b.isEmpty then none else some (bytesToWords 56 b)

/-- LT_BOOT and LT_SLOTn for the running pair (R769). -/
def BootBlock.choosePair (b : BootBlock) (k : Nat) (a l : Image) : BootBlock :=
  { b with
    pairIdx := k, fallback := k != 0, appB := a.slot == 2, linkB := l.slot == 3
    paired := Vector.ofFn fun (n : Fin 4) => n == a.slot || n == l.slot }

/-- The pair is the confirmed one (R753). -/
def BootRecord.confirms (r : BootRecord) (a l : Image) : Bool :=
  r.confirmed false == some a.identity && r.confirmed true == some l.identity

/-- A trial runs, or none does. -/
def State.setTrial (s : State) (on : Bool) : State :=
  { s with lantern.confirmPending := on, lantern.confirmLeft := if on then 60 else s.lantern.confirmLeft, boot.trial := on }

/-- Commit the record of the chosen pair: for the confirmed pair where it changed, on trial for another (R753, R754); whether a trial begins. -/
def State.recordPair (s : State) (r : BootRecord) (changed : Bool) (a l : Image) : Bool × State :=
  if r.confirms a l then
    if changed then
      let (good, s1) := s.bootSave r
      (false, (s1.setTrial false).setLeafIf (!good) .bootRecordFail)
    else (false, s.setTrial false)
  else
    let (good, s1) := s.bootSave (r.onTrial a l)
    (true, (s1.setTrial good).setLeafIf (!good) .bootRecordFail)

/-- Steps 4 and 5 for the chosen pair (R736, R747, R749). -/
def State.setUpPair (s : State) (r : BootRecord) (changed : Bool) (k : Nat) (a l : Image) : State :=
  let s1 := { s with boot := s.boot.choosePair k a l }
  let minor := (bits (Config.identity 0) 0 8).toNat
  let s2 := (s1.setLeafIf (k != 0) .bootFallback).setLeafIf (minor != a.silMinor || minor != l.silMinor) .bootSiliconMinor
  let (trial, s3) := s2.recordPair r changed a l
  let s4 := (s3.bootSettings r a trial).setDataArea a
  let f := BitVec.ofNat 3 a.cclk
  let s5 := { s4 with power.cclkFreq := f }
  (((s5.applyPlan (s5.section a 3)).applyRoutes (s5.routesOf a)).loadCx a).loadUcode l

/-- The RECOVERY parameters: the valid application with the highest VERSION, or the defaults (R765). -/
def State.recoveryBytes (s : State) : List Byte :=
  let va := s.boot.verdict[0] == vdValid
  let vc := s.boot.verdict[2] == vdValid
  if va && vc then (if (s.image 0).version < (s.image 2).version then (s.image 2).recovery else (s.image 0).recovery)
  else if va then (s.image 0).recovery
  else if vc then (s.image 2).recovery
  else leBytes 4 863000000 ++ leBytes 4 0xB4E17A23 ++ [0#8, 0#8, 0#8, 10#8] ++ leBytes 2 0 ++ [0#8, 0#8] ++ List.replicate 8 0#8

/-- The recovery ADDR (R765). -/
def recoveryAddr (addr eui : BitVec 16) : BitVec 16 :=
  let bad : BitVec 16 → Bool := fun x => x == 0 || x == 0xFFFF
  if !bad addr then addr else if bad eui then 0xFFFE else eui

/-- The recovery radio (R766): its LISTEN job is ACTIVE in slot 0. A POWER below -20 dBm
is an encoding of RF_TXPWR.LEVEL that acts as +10 dBm (R17, R224). -/
def State.recoveryRadio (s : State) : State :=
  let b := s.recoveryBytes
  let power : Int := min 14 (byteAt b 11).toInt
  let addr := recoveryAddr (BitVec.ofNat 16 (natAt b 14 2)) (BitVec.ofNat 16 (natAt s.eui 0 2))
  let mode := PhyMode.ofBits ((byteAt b 10).extractLsb' 0 2)
  let ch := natAt b 8 2
  let s1 := { s with
    radio.base := wordAt b 0
    radio.syncA := wordAt b 4
    radio.txLevel := if power < -20 then 10#6 else BitVec.ofInt 6 power
    mesh.netid := BitVec.ofNat 16 (natAt b 12 2), mesh.addr := addr
    link.ucodeVersion := 0, link.ucodeGen := 1, link.rxAuto := true, link.txEn := false }
  let (lo, hi) := s1.radio.band mode ch
  let sb : SubBand := { lo := BitVec.ofInt 32 lo, hi := BitVec.ofInt 32 hi, limit := 36000000#32 }
  let w0 := 3#32 ||| fld 5 mode.toBits ||| (BitVec.ofNat 32 (ch % 4096) <<< 8)
  let job : Job := { state := .active, desc := (Vector.replicate 8 0#32).set 0 w0 }
  let s2 := { s1 with
    radio.fenceLo := BitVec.ofInt 32 lo, radio.fenceHi := BitVec.ofInt 32 hi
    link.subBands := s1.link.subBands.set 0 sb
    link.jobs := s1.link.jobs.set 0 job
    radio.laneA.job := some 0
    link.beaconSeq := 0
    link.beaconDrip := s1.drip.count + 40000 }
  s2.applyLanes true

/-- Entry to SUMP (R762, R763). -/
def State.enterSump (s : State) (why : Byte) : State :=
  let s1 := (s.lifeAdd 8 1).setLeaf .bootSump
  let b := s1.boot
  let s2 := { s1 with
    power.mode := .sump
    power.cclkFreq := 3
    boot := { b with sump := true, sumpWhy := why, paired := Vector.replicate 4 false }
    conduit := {}
    core := { dripHi := s.drip.count.extractLsb' 32 16 }
    flash.areaFirst := 0, flash.areaCount := 0 }
  (s2.applyPlan []).recoveryRadio

/-- The clearing left an uncorrectable row of DTCM or of the first 16 KB of SRAM (R762). -/
def State.integrityLost (s : State) : Bool :=
  s.integ.uncorrWords.any fun a => decide (a < 0x20004000)

/-- No pair can run (R748, R752, R762). -/
def State.noPair (s : State) (r : BootRecord) (changed : Bool) : State :=
  let why := s.noPairReason r
  let s1 := if changed then
      let (good, t) := s.bootSave r
      t.setLeafIf (!good) .bootRecordFail
    else s
  ((s1.setTrial false).setLeafIf (why == 4) .bootUntestedPair).enterSump why

/-- Pairing and the steps for each choice; an image that fails to load is dropped, and pairing runs again with the record as R752 left it
(R747, R758, R759) (DEDUCED, assumption 47). `changed`: the stored record differs from `r`. -/
def State.pairUp (s : State) (r : BootRecord) (changed : Bool) : Nat → State
  | 0 => s.noPair r changed
  | n + 1 =>
    match s.choose r with
    | none => s.noPair r changed
    | some (k, a, l) =>
      if s.loadEcc a [1, 2, 3, 4] then (s.loadFails a vdLoadEcc).pairUp r changed n
      else if s.loadEcc l [0] then (s.loadFails l vdLoadEcc).pairUp r changed n
      else
        let t := s.setUpPair r changed k a l
        if t.link.ucodeGen.toNat != l.ifgen then (t.loadFails l vdGenMismatch).pairUp r (changed || !r.confirms a l) n
        else t.startCore a l false

/-- Steps 3 to 6 (R736). -/
def State.bootImages (s : State) : State :=
  let s1 := s.validate
  if s1.integrityLost then s1.enterSump 5
  else if !((List.range 4).any s1.keyUsable) then s1.enterSump 1
  else
    let r0 := s1.bootRecord
    let r := if r0.trial then r0.rollback else r0
    let s2 := if r0.trial then { s1 with boot.rollback := true }.setLeaf .bootRollback else s1
    let rejected : Vector Bool 4 := Vector.ofFn fun (n : Fin 4) =>
      s2.boot.verdict[n] != vdEmpty && r.rejects (s2.image n)
    ({ s2 with boot.rejected := rejected }).pairUp r r0.trial 5

/-- The transfers that pass while boot runs make what it did visible (R738). -/
def State.publish (s : State) : State :=
  let s1 := { s with cause := s.cause.transfer fun _ => 0#32 }
  { s1 with seen := s1.toBlocks, crossing := if 7968 ≤ s.drip.phase then some s1.toBlocks else none }

/-- The reset before this boot was a Cold one. -/
def State.coldBoot (s : State) : Bool := s.lantern.cause == .powerOn || s.lantern.cause == .brownout

/-- LK_DRIP_LO and LK_DRIP_HI hold the count with which the drip starts (R77, R79, R95). -/
def State.loadDripHi (s : State) : State := { s with drip.hiLatch := s.drip.count.extractLsb' 32 16 }

/-- The boot sequence of a device out of reset with a stable crystal (R736); `ticks` are those of the stopped interval (DESIGN CHOICE, assumption 17). -/
def State.boot6 (s : State) (ticks : Nat) : State :=
  let cold := s.coldBoot
  let s1 := { s with power.hold := .none, power.xoOk := true, power.pllLock := true }
  let s2 := (s1.bootScan.applyRepair.resolveAll).markDead
  let s3 := s2.bootLife cold ticks
  let s4 := (if cold then s3.coldTime else s3).loadDripHi
  s4.bootLoads.bootImages.saveBootLife.publish

/-- LT_BOOT, LT_SLOTn and LT_SLOTVERn (R769). -/
def BootBlock.word (b : BootBlock) : Word :=
  fld 24 b.sumpWhy ||| nfld 16 b.pairIdx ||| flag 9 b.linkB ||| flag 8 b.appB ||| flag 3 b.trial ||| flag 2 b.rollback |||
    flag 1 b.fallback ||| flag 0 b.sump
def BootBlock.slotWord (b : BootBlock) (n : Nat) : Word :=
  fld 16 (b.ifgen.getD n 0) ||| flag 9 (b.paired.getD n false) ||| flag 8 (b.rejected.getD n false) ||| fld 0 (b.verdict.getD n 0)

end Sys2Proof.Machine
end

