-- ==== Sys2Proof/Machine/Update.lean ====
section
/-!
DEFINITION. The update engine: sessions, blocks, verification, activation requests, the service stick (20_update.md).
-/
namespace Sys2Proof.Machine

/-- Statuses (R778). -/
def upOk : Byte := 0x00
def upDup : Byte := 0x01
def upState : Byte := 0x02
def upOwner : Byte := 0x03
def upSessionBusy : Byte := 0x04
def upBadArg : Byte := 0x05
def upBadOffset : Byte := 0x06
def upBadCrc : Byte := 0x07
def upDupDiff : Byte := 0x08
def upFlashFail : Byte := 0x09
def upMissing : Byte := 0x0A
def upBadImage : Byte := 0x0B
def upRejected : Byte := 0x0C
def upInUse : Byte := 0x0D
def upTrialPending : Byte := 0x0E
def upUntested : Byte := 0x0F
def upLowSupply : Byte := 0x10
def upTimeout : Byte := 0x11
def upGenMismatch : Byte := 0x12
def upStickRemoved : Byte := 0x13
def upAborted : Byte := 0x14
def upBusy : Byte := 0x15
def upMode : Byte := 0x16
def upNvFail : Byte := 0x17
def upExtra : Byte := 0x18

/-- The statuses that fail the session (R778). -/
def upFails (st : Byte) : Bool := [0x08, 0x09, 0x0B, 0x0C, 0x11, 0x12, 0x13, 0x18].contains st.toNat

def UpState.code : UpState → BitVec 4
  | .idle => 0
  | .erasing => 1
  | .receiving => 2
  | .verifying => 3
  | .ready => 4
  | .activating => 5

def UpOwner.code : UpOwner → BitVec 2
  | .none => 0
  | .core => 1
  | .host => 2
  | .stick => 3

def State.setUpdate (s : State) (u : UpdateBlock) : State := { s with update := u }

/-- A command completes: LT_UPSTAT, and CMD_DONE for the core or a result for the host's response (R779, R839). -/
def State.upDone (s : State) (c : UpCommand) (st : Byte) : State :=
  let u := s.update
  let s1 := s.setUpdate { u with status := st, lastCmd := c.cmd }
  match c.owner with
  | .core => s1.setLeaf .updateCmdDone
  | .host => s1.setUpdate { s1.update with hostDone := s1.update.hostDone ++ [{ tag := c.tag, cmd := c.cmd, status := st }] }
  | _ => s1

/-- The session ends; a SERVICE mode that it entered ends at the next transfer (R773, R775). -/
def State.endSession (s : State) : State :=
  let u := s.update
  let kept : Activation := match u.activation with
    | .restart d => .restart d
    | _ => .none
  { s with
    update := { u with
      state := .idle, owner := .none, open_ := none, block := none, aborting := none, activation := kept, sectorsLeft := 0
      enterService := u.service }
    flash.waiting := s.flash.waiting.filter fun o => o.port != .update }

/-- The session fails with a status: pending commands end with it, and UPDATE.FAILED is set when the status fails the session (R775). -/
def State.failSession (s : State) (st : Byte) : State :=
  let pendings := s.update.open_.toList ++ (s.update.block.map (·.1)).toList ++ s.update.aborting.toList
  let s1 := pendings.foldl (fun s c => s.upDone c st) s
  ((s1.setUpdate { s1.update with status := st }).endSession).setLeafIf (upFails st) .updateFailed

/-- The oldest accepted command, when it has this code and no block is being programmed (R779). -/
def State.upHead (s : State) (cmd : BitVec 4) : Option UpCommand :=
  match s.update.queue with
  | c :: _ => if c.cmd == cmd && s.update.block.isNone then some c else none
  | [] => none

/-- The head command leaves the queue. -/
def State.upPop (s : State) : State := s.setUpdate { s.update with queue := s.update.queue.drop 1 }

/-- Refusals that come before a command's own checks: OWNER, then STATE (R774, R778). -/
def State.upGate (s : State) (c : UpCommand) (states : List UpState) : Option Byte :=
  let u := s.update
  if u.state == .idle then some upState
  else if u.owner != c.owner then some upOwner
  else if !states.contains u.state then some upState
  else none

/-- The bank of the running application slot (R657). -/
def State.appBank (s : State) : Nat := bankOf (slotBase s.boot.appSlot)

/-- The target slot of an OPEN (R771). -/
def State.upTarget (s : State) (kind slot : Nat) : Fin 4 :=
  let a : Fin 4 := if kind = 2 then 1 else 0
  let b : Fin 4 := if kind = 2 then 3 else 2
  if slot = 1 then a
  else if slot = 2 then b
  else if s.boot.sump then
    let va := s.boot.verdict[a] == vdValid
    let vb := s.boot.verdict[b] == vdValid
    if !va then a else if !vb then b
    else if (s.boot.version[a]).toNat < (s.boot.version[b]).toNat then a else b
  else if kind = 2 then (if s.boot.linkB then a else b)
  else (if s.boot.appB then a else b)

/-- The first refusal of an OPEN (R772). -/
def State.upRefuseOpen (s : State) (c : UpCommand) : Option Byte :=
  let t := s.upTarget c.kind.toNat c.slot.toNat
  let sump := s.boot.sump
  if s.update.state != .idle then some upSessionBusy
  else if c.kind == 0 || c.kind == 3 || c.slot == 3 then some upBadArg
  else if !sump && s.bootRecord.trial then some upTrialPending
  else if !sump && (t == s.boot.appSlot || t == s.boot.linkSlot || bankOf (slotBase t) == s.appBank) then some upInUse
  else if c.service && s.power.mode != .run && s.power.mode != .service then some upMode
  else if s.power.bodWarn then some upLowSupply
  else none

/-- Ask the flash controller to erase the next sector of the target slot (R773, R639). -/
def State.askErase (s : State) : State :=
  let u := s.update
  let total := slotSize u.target / 4096
  let a := slotBase u.target + 4096 * (total - u.sectorsLeft)
  { s with flash.waiting := s.flash.waiting ++ [{ port := .update, cmd := 2, addr := a, data := [] }] }

/-- An accepted OPEN (R773). -/
def State.upOpen (s : State) (c : UpCommand) : State :=
  let t := s.upTarget c.kind.toNat c.slot.toNat
  let u := s.update
  let s1 := { s with
    boot.verdict := s.boot.verdict.set t vdEmpty
    update := { u with
      state := .erasing, owner := c.owner, target := t, service := c.service, tested := false, verdict := 0, bitmap := 0, dups := 0
      quiet := 0, open_ := some c, enterService := u.enterService || c.service, sectorsLeft := slotSize t / 4096 } }
  s1.askErase

def execOpenOp (s : State) : Out :=
  ok (match s.upHead 1 with
    | none => s
    | some c =>
      let s1 := s.upPop
      match s1.upRefuseOpen c with
      | some st => s1.upDone c st
      | none => s1.upOpen c)

/-- SLOT_ERASE_DONE (R773). -/
def execSlotEraseDone (s : State) : Out :=
  ok (match s.update.open_ with
    | none => s
    | some c =>
      whenDo (s.update.state == .erasing && s.update.sectorsLeft == 0) s
        ((s.setUpdate { s.update with state := .receiving, open_ := none }).upDone c upOk))

/-- The next unit of a block to program, from unit `i` on (R782). -/
def nextUnit (data : List Byte) (i : Nat) : Option Nat :=
  (List.range 16).find? fun k => decide (i ≤ k) && !((data.drop (16 * k)).take 16).all (· == 0xFF)

/-- Continue a block at unit `i`: ask for the next program, or complete it (R782). -/
def State.blockFrom (s : State) (c : UpCommand) (i : Nat) : State :=
  let u := s.update
  match nextUnit c.data i with
  | some k =>
    let op : FlashOp := { port := .update, cmd := 1, addr := slotBase u.target + c.offset.toNat + 16 * k, data := (c.data.drop (16 * k)).take 16 }
    { s with update := { u with block := some (c, k) }, flash.waiting := s.flash.waiting ++ [op] }
  | none =>
    (s.setUpdate { u with block := none, bitmap := u.bitmap ||| (1 <<< (c.offset.toNat / 256)) }).upDone c upOk

/-- The checks of a BLOCK in its order (R781). -/
def State.upBlock (s : State) (c : UpCommand) : State :=
  let u := s.update
  let off := c.offset.toNat
  let a := slotBase u.target + off
  match s.upGate c [.receiving] with
  | some st => s.upDone c st
  | none =>
    let s0 := s.setUpdate { u with quiet := 0 }
    if off % 256 != 0 || slotSize u.target ≤ off then s0.upDone c upBadOffset
    else if crc32 (leBytes 4 off ++ c.data) != c.crc then s0.upDone c upBadCrc
    else if u.bitmap.getLsbD (off / 256) then
      if memBytes s.mem a 256 == c.data then
        (s0.setUpdate { s0.update with dups := u.dups + 1 }).upDone c upDup
      else (s0.upDone c upDupDiff).failSession upDupDiff
    else s0.blockFrom c 0

/-- The engine's reads of a bank wait while an operation runs there (R652). -/
def State.upReads (s : State) : Bool := !s.flash.bankBusy (bankOf (slotBase s.update.target))

def execBlock (s : State) : Out :=
  ok (match s.upHead 2 with
    | some c => whenDo s.upReads s (s.upPop.upBlock c)
    | none => s)

/-- The lowest OFFSET below `len` that has not been received. -/
def UpdateBlock.firstMissing (u : UpdateBlock) (len : Nat) : Option Nat :=
  ((List.range ((len + 255) / 256)).find? fun i => !u.bitmap.getLsbD i).map (256 * ·)

/-- A received block lies at or above the image's end rounded up (R783). -/
def UpdateBlock.extra (u : UpdateBlock) (len : Nat) : Bool :=
  (List.range 1792).any fun i => decide ((len + 255) / 256 ≤ i) && u.bitmap.getLsbD i

/-- Checks 1 to 4 of a CLOSE (R783). -/
def State.upClose (s : State) (c : UpCommand) : State :=
  match s.upGate c [.receiving] with
  | some st => s.upDone c st
  | none =>
    let u := s.update
    let s0 := s.setUpdate { u with quiet := 0 }
    let i := s.image u.target
    let v := s.headerVerdict i
    if !u.bitmap.getLsbD 0 then (s0.setUpdate { s0.update with miss := 0 }).upDone c upMissing
    else if v != vdValid then ((s0.setUpdate { s0.update with verdict := v }).upDone c upBadImage).failSession upBadImage
    else if u.extra i.len then (s0.upDone c upExtra).failSession upExtra
    else
      match u.firstMissing i.len with
      | some m => (s0.setUpdate { s0.update with miss := word0 m }).upDone c upMissing
      | none => s0.setUpdate { s0.update with state := .verifying, open_ := some c }

def execCloseOp (s : State) : Out :=
  ok (match s.upHead 3 with
    | some c => whenDo s.upReads s (s.upPop.upClose c)
    | none => s)

/-- The image in a slot and the running image of the other kind form a tested pair (R783, R746). -/
def State.testedWithRunning (s : State) (t : Fin 4) : Bool :=
  if slotIsLink t then testedPair (s.image s.boot.appSlot) (s.image t) else testedPair (s.image t) (s.image s.boot.linkSlot)

/-- Checks 5 and 6 of a CLOSE (R783): the status and the state after the verdict registers. -/
def State.verifyBody (s : State) : Byte × State :=
  let t := s.update.target
  let i := s.image t
  let v := s.bodyVerdict i
  let s0 := s.reportRange (slotBase t) (i.readLen true v)
  if v != vdValid then (upBadImage, s0.setUpdate { s0.update with verdict := v })
  else if s.bootRecord.rejects i then (upRejected, s0)
  else
    (upOk, { s0 with
      boot.verdict := s0.boot.verdict.set t vdValid
      boot.version := s0.boot.version.set t (word0 i.version)
      boot.ifgen := s0.boot.ifgen.set t (BitVec.ofNat 16 i.ifgen)
      update.state := .ready, update.tested := !s.boot.sump && s.testedWithRunning t })

/-- VERIFY_DONE (R783). -/
def State.verifyDone (s : State) (c : UpCommand) : State :=
  if s.update.aborting.isSome then s.failSession upAborted
  else
    let (st, s1) := s.verifyBody
    if st == upOk then (s1.setUpdate { s1.update with open_ := none }).upDone c upOk else s1.failSession st

def execVerifyDone (s : State) : Out :=
  ok (match s.update.open_ with
    | some c => whenDo (s.update.state == .verifying && s.upReads) s (s.verifyDone c)
    | none => s)

/-- ABORT (R774): at once, or at the end of the current erase or digest step. -/
def State.upAbort (s : State) (c : UpCommand) : State :=
  match s.upGate c [.erasing, .receiving, .verifying, .ready] with
  | some st => s.upDone c st
  | none =>
    let u := s.update
    let erasing := (s.flash.run.map fun o => o.port == .update).getD false
    let s1 := s.setUpdate { u with aborting := some c, quiet := 0 }
    if u.state == .verifying || (u.state == .erasing && erasing) then s1 else s1.failSession upAborted

def execAbortOp (s : State) : Out :=
  ok (match s.upHead 5 with
    | some c => s.upPop.upAbort c
    | none => s)

/-- The first refusal of an ACTIVATE after its state (R784). -/
def State.upRefuseActivate (s : State) : Option Byte :=
  if !s.boot.sump && s.bootRecord.trial then some upTrialPending
  else if !s.boot.sump && !s.update.tested then some upUntested
  else if s.power.bodWarn then some upLowSupply
  else none

/-- The edge U of an activation committed now: the first whose commit phase follows (R786). -/
def State.nextEdge (s : State) : BitVec 48 := s.drip.count + (if s.isLate then 2 else 1)

/-- The writes of an accepted ACTIVATE outside SUMP (R786, R789). -/
def State.upActivateRun (s : State) (c : UpCommand) : State :=
  let t := s.update.target
  let r := s.bootRecord
  if slotIsLink t then
    let (good, s1) := s.saveRecord (r.onTrial (s.image s.boot.appSlot) (s.image t))
    if good then s1.setUpdate { s1.update with state := .activating, activation := .link, open_ := some c }
    else s1.upDone c upNvFail
  else
    let a := s.image t
    let (g1, s1) := s.activationSettings a
    let (g2, s2) := if g1 then s1.saveRecord (r.onTrial a (s.image s.boot.linkSlot)) else (false, s1)
    if g2 then s2.setUpdate { s2.update with state := .activating, activation := .atEdge s.nextEdge, open_ := some c }
    else (s2.undoSettings s).upDone c upNvFail

/-- An ACTIVATE that passed its gate (R784 to R786). -/
def State.upActivate (s : State) (c : UpCommand) : State :=
  match s.upRefuseActivate with
  | some st => s.upDone c st
  | none =>
    if s.boot.sump then ({ s with lantern.resetReq := true }.upDone c upOk).endSession
    else s.upActivateRun c

def execActivate (s : State) : Out :=
  ok (match s.upHead 4 with
    | some c =>
      let s1 := s.upPop
      match s1.upGate c [.ready] with
      | some st => s1.upDone c st
      | none => (s1.setUpdate { s1.update with quiet := 0 }).upActivate c
    | none => s)

/-- SESSION_TIMEOUT (R776). -/
def execSessionTimeout (s : State) : Out :=
  ok (whenDo ((s.update.owner == .core || s.update.owner == .host) && s.update.state != .activating && decide (300 ≤ s.update.quiet)) s
    (s.failSession upTimeout))

/-- An operation of the update port ends (R773, R782): error code of R647. -/
def State.updateOpEnd (s : State) (o : FlashOp) (err : BitVec 4) : State :=
  let u := s.update
  if u.state == .idle then s
  else if u.aborting.isSome then s.failSession upAborted
  else if err != 0 then s.failSession upFlashFail
  else if o.cmd == 2 then
    let s1 := s.setUpdate { u with sectorsLeft := u.sectorsLeft - 1 }
    if u.sectorsLeft ≤ 1 then s1 else s1.askErase
  else
    match u.block with
    | some (c, k) => s.blockFrom c (k + 1)
    | none => s

/-- FLASH_OP_END (R647, R773, R782). -/
def execFlashOpEnd (s : State) : Out :=
  ok (match s.flash.run with
    | none => s
    | some o =>
      let (err, at_, s1) := s.flashEffect o
      let s2 := { s1 with flash.run := none }
      if o.port == .core then s2.flashDone err at_ else s2.updateOpEnd o err)

/-- UPDATE_PORT_OP: the oldest update-port request starts on an idle array; in the bank of the running application it is refused outside
SUMP (R639, R640, R657). -/
def execUpdatePortOp (s : State) : Out :=
  ok (match s.flash.waiting with
    | [] => s
    | o :: rest =>
      if s.flash.run.isSome || s.power.bodWarn then s
      else
        let s1 := { s with flash.waiting := rest }
        if !s.boot.sump && bankOf o.addr == s.appBank then s1.failSession upFlashFail
        else { s1 with flash.run := some o, flash.toggle := false })

/-- A submission of the core's LT_UP registers at a transfer (R779). -/
def UpdateBlock.coreCommand (u : UpdateBlock) : UpCommand :=
  { owner := .core, cmd := bits u.cmdReg 0 4, kind := bits u.cmdReg 8 2, slot := bits u.cmdReg 10 2, service := bitAt u.cmdReg 12,
    offset := u.offReg, crc := u.crcReg, data := wordsToBytes u.buf.toList }

/-- Block buffers in use (R779). -/
def UpdateBlock.buffers (u : UpdateBlock) : Nat := (u.queue.filter fun c => c.cmd == 2).length + (if u.block.isSome then 1 else 0)

/-- A command is accepted, a BLOCK only while one of the two buffers is free; an unlisted CMD ends with BAD_ARG (R779; DEDUCED, assumption 14). -/
def State.upSubmit (s : State) : State :=
  let u := s.update
  if !u.go then s
  else
    let c := u.coreCommand
    let s1 := s.setUpdate { u with go := false }
    if c.cmd == 0 || 5 < c.cmd.toNat then s1.upDone c upBadArg
    else if c.cmd == 2 && decide (2 ≤ u.buffers) then s1.upDone c upBusy
    else s1.setUpdate { s1.update with queue := s1.update.queue ++ [c] }

/-- An entry of the service-stick directory (R800). -/
structure StickEntry where
  kind : Nat
  auto : Bool
  activate : Bool
  part : Nat
  offset : Nat
  len : Nat
  version : Nat
  identity : List Byte

def stickEntries (b : List Byte) : List StickEntry :=
  (List.range (byteAt b 5).toNat).map fun e =>
    let x := b.drop (16 + 32 * e)
    { kind := natAt x 0 1, auto := (byteAt x 1).getLsbD 0, activate := (byteAt x 1).getLsbD 1, part := natAt x 2 2, offset := natAt x 4 4,
      len := natAt x 8 4, version := natAt x 12 4, identity := (x.drop 16).take 8 }

/-- A valid directory (R800). -/
def stickValid (b : List Byte) : Bool :=
  let n := (byteAt b 5).toNat
  b.take 4 == [0x53#8, 0x50#8, 0x58#8, 0x44#8] && byteAt b 4 == 1 && decide (1 ≤ n) && decide (n ≤ 8) && decide (16 + 32 * n ≤ b.length) &&
    crc32 ((b.drop 16).take (32 * n)) == wordAt b 8

def StickEntry.valid (e : StickEntry) : Bool :=
  (e.kind == 1 || e.kind == 2) && e.offset % 256 == 0 && decide (e.offset + e.len ≤ 2 ^ 24) &&
    decide (e.len ≤ (if e.kind = 2 then 0x10000 else 0x70000))

/-- The entry of a kind that the engine considers: AUTO, a matching PART, the highest VERSION, the lowest position (R802). -/
def State.stickPick (s : State) (b : List Byte) (kind : Nat) : Option StickEntry :=
  let es := (stickEntries b).filter fun e =>
    e.valid && e.auto && e.kind == kind && (e.part == 0xFFFF || e.part == (partCode s.key.orderable).toNat)
  es.foldl (fun acc e =>
    match acc with
    | none => some e
    | some x => if x.version < e.version then some e else acc) none

/-- Program the units of one block outside the port's queue, as the stick session does; false when one ends with an error. -/
def State.programUnits (s : State) (a : Nat) : List (List Byte) → Bool × State
  | [] => (true, s)
  | u :: rest =>
    if u.all (· == 0xFF) then s.programUnits (a + 16) rest
    else
      let (err, _, s1) := s.flashEffect { port := .update, cmd := 1, addr := a, data := u }
      if err != 0 then (false, s1) else s1.programUnits (a + 16) rest

/-- Blocks of a stick image from block `i` on: OK, FLASH_FAIL, or STICK_REMOVED where the stick's bytes end (R802, R804). -/
def State.stickBlocks (s : State) (t : Fin 4) (src : List Byte) (i : Nat) : Nat → Byte × State
  | 0 => (upOk, s)
  | n + 1 =>
    let d := (src.drop (256 * i)).take 256
    if d.length < 256 then (upStickRemoved, s)
    else
      let units := (List.range 16).map fun k => (d.drop (16 * k)).take 16
      let (good, s1) := s.programUnits (slotBase t + 256 * i) units
      if !good then (upFlashFail, s1)
      else (s1.setUpdate { s1.update with bitmap := s1.update.bitmap ||| (1 <<< i) }).stickBlocks t src (i + 1) n

/-- Erase every sector of a slot; false when one ends with VERIFY. -/
def State.eraseSlot (s : State) (t : Fin 4) : Bool × State :=
  (List.range (slotSize t / 4096)).foldl (fun (acc : Bool × State) i =>
    if acc.1 then
      let (err, _, s1) := acc.2.flashEffect { port := .update, cmd := 2, addr := slotBase t + 4096 * i, data := [] }
      (err == 0, s1)
    else acc) (true, s)

/-- Install one entry as a stick session: its status and whether header and directory disagree (R802). The session is READY on OK. -/
def State.stickInstall (s : State) (b : List Byte) (e : StickEntry) : Byte × Bool × State :=
  let c : UpCommand := { owner := .stick, cmd := 1, kind := BitVec.ofNat 2 e.kind }
  match s.upRefuseOpen c with
  | some st => (st, false, s)
  | none =>
    let t := s.upTarget e.kind 0
    let s0 := s.upOpen c
    let s1 := { s0 with update.open_ := none, flash.waiting := s.flash.waiting }
    let (good, s2) := s1.eraseSlot t
    if !good then (upFlashFail, false, s2.failSession upFlashFail)
    else
      let src := (b.drop e.offset)
      let head := { slot := t, head := src.take 384 : Image }
      if src.length < 384 then (upStickRemoved, false, s2.failSession upStickRemoved)
      else if head.version != e.version || head.identity != e.identity then (upBadImage, true, s2.failSession upBadImage)
      else
        let (st, s3) := s2.stickBlocks t src 0 ((e.len + 255) / 256)
        if st != upOk then (st, false, s3.failSession st)
        else
          let i := s3.image t
          let v := s3.headerVerdict i
          let u := s3.update
          if v != vdValid then (upBadImage, false, (s3.setUpdate { u with verdict := v }).failSession upBadImage)
          else if u.extra i.len then (upExtra, false, s3.failSession upExtra)
          else if (u.firstMissing i.len).isSome then (upMissing, false, s3.failSession upMissing)
          else
            let (st2, s4) := s3.verifyBody
            if st2 != upOk then (st2, false, s4.failSession st2) else (upOk, false, s4.setUpdate { s4.update with status := upOk })

/-- Whether an entry is installed (R802). -/
def State.stickWants (s : State) (e : StickEntry) : Bool :=
  let running := if e.kind = 2 then s.boot.version[s.boot.linkSlot] else s.boot.version[s.boot.appSlot]
  let t := s.upTarget e.kind 0
  (s.boot.sump || decide (running.toNat < e.version)) && s.bootRecord.rej.getD t [] != e.identity

/-- Install the entry of a kind when it qualifies: status, disagreement, and whether it was installed with its ACTIVATE flag (R802). -/
def State.stickKind (s : State) (b : List Byte) (kind : Nat) : Byte × Bool × Option Bool × State :=
  match s.stickPick b kind with
  | none => (0xFF, false, none, s)
  | some e =>
    if !s.stickWants e then (0xFF, false, none, s)
    else
      let (st, mism, s1) := s.stickInstall b e
      (st, mism, if st == upOk then some e.activate else none, s1)

/-- The evaluation of a stick (R801 to R803). `stick` holds its bytes from address 0, to where a removal cut the reading. -/
def State.stickEvaluate (s : State) (stick : List Byte) : State :=
  if !stickValid stick then
    (s.setUpdate { s.update with evaluated := true, stickLink := 0xFF, stickApp := 0xFF, stickResult := 2 }).setLeaf .updateStickDone
  else
    let (stL, mL, l, s1) := s.stickKind stick 2
    let s2 := if l.isSome then s1.endSession else s1
    let (stA, mA, a, s3) := s2.stickKind stick 1
    let u := s3.update
    let s4 := s3.setUpdate { u with
      evaluated := true, stickLink := stL, stickApp := stA, stickResult := if mL || mA then 3 else 1 }
    let s5 := s4.setLeaf .updateStickDone
    let c : UpCommand := { owner := .stick, cmd := 4 }
    let count := l.toList.length + a.toList.length
    if (l == some true && a == some true) || (s.boot.sump && 0 < count) then { s5 with lantern.resetReq := true }.endSession
    else if count = 1 && (l == some true || a == some true) then
      -- the session of the one image installed is READY; it is the link's again when the link was installed
      let s6 := if l.isSome then s5.setUpdate { s5.update with
          state := .ready, owner := .stick, target := s.upTarget 2 0, tested := s5.testedWithRunning (s.upTarget 2 0) } else s5
      let s7 := s6.upActivate c
      if s7.update.state == .activating then s7 else s7.endSession
    else s5.endSession

/-- STICK_EVALUATION (R801). -/
def execStickEvaluation (stick : List Byte) (s : State) : Out :=
  ok (whenDo (s.lantern.sfdpOk && !s.update.evaluated && s.update.state == .idle && !s.stoppedMode && s.power.hold == .none &&
      (s.update.stickAuto || s.boot.sump) && s.flash.run.isNone) s (s.stickEvaluate stick))

/-- STICK_REMOVE: 32 high ticks of SVC_DET (R733, R804). -/
def execStickRemove (s : State) : Out :=
  let s1 := { s with lantern.stickDet := false, lantern.stickPresent := false, lantern.sfdpOk := false, update.evaluated := false }
  let s2 := s1.setLeaf .mgmtStickOut
  ok (whenDo (s.power.hold == .none && s.lantern.stickPresent) s
    (if s.update.owner == .stick && s.update.state != .activating then s2.failSession upStickRemoved else s2))

/-- LT_UPSTAT, LT_UPCOUNT and LT_UPSTICK (R806). -/
def UpdateBlock.stat (u : UpdateBlock) : Word :=
  fld 24 u.status ||| fld 20 u.lastCmd ||| fld 16 u.state.code ||| fld 14 u.owner.code ||| flag 13 u.tested ||| flag 12 u.service |||
    nfld 8 u.target.val ||| fld 0 u.verdict
def UpdateBlock.count (u : UpdateBlock) : Word :=
  nfld 16 (u.dups % 65536) ||| nfld 0 (((List.range 1792).filter fun i => u.bitmap.getLsbD i).length)
def UpdateBlock.stick (u : UpdateBlock) : Word := fld 24 u.stickLink ||| fld 16 u.stickApp ||| fld 0 u.stickResult

end Sys2Proof.Machine
end

