-- ==== Sys2Proof/Machine/Regs.lean ====
section
/-!
DEFINITION. The Lantern region 0x6000_0000, the core-private region 0xE000_0000, and core and host accesses to I/O registers
(R26 to R31, R44, R45, R47, R63, R900).
-/
namespace Sys2Proof.Machine

/-- The encoding of PW_MODE (R143). -/
def Mode.code : Mode → BitVec 4
  | .run => 0
  | .listen => 1
  | .sleep => 2
  | .deep => 3
  | .hibernate => 4
  | .service => 5
  | .sump => 7

/-- LT_RESET.CAUSE (R729). -/
def ResetCause.code : ResetCause → BitVec 4
  | .powerOn => 1
  | .brownout => 2
  | .clock => 3
  | .vector => 4
  | .pin => 5
  | .resetUnit => 6
  | .software => 7
  | .hibernate => 8

/-- PW_MODE, PW_STAT, CK_CCLK and CK_LF (R143). -/
def PowerBlock.modeWord (p : PowerBlock) : Word := flag 16 p.go ||| fld 8 p.mode.code ||| fld 0 p.target
def PowerBlock.stat (p : PowerBlock) : Word := fld 8 p.lastEntry ||| flag 2 p.paLimit ||| flag 1 p.bypass ||| flag 0 p.bodWarn
def PowerBlock.cclk (p : PowerBlock) : Word := fld 8 p.cclkCur ||| fld 0 p.cclkFreq
def PowerBlock.lf (p : PowerBlock) : Word := flag 2 p.lfXoRun ||| flag 1 p.lfActiveRc ||| flag 0 p.lfSrcRc

/-- TKCLK runs while a channel is at work (R108, R119; DEDUCED, assumption 15). -/
def KeyBlock.clockOn (k : KeyBlock) : Bool := k.lAct != .idle || k.oAct != .idle || k.rawRun.isSome

/-- FCLK runs for a program or an erase of the flash array (R112); an operation of Flowstone lies within one command, so no state shows its
FCLK (DESIGN CHOICE, assumption 50). -/
def FlashBlock.fclkOn (f : FlashBlock) : Bool := (f.run.map fun o => o.cmd == 1 || o.cmd == 2).getD false

/-- CK_STAT (R111, R112, R143). -/
def Blocks.ckStat (b : Blocks) : Word :=
  flag 4 b.key.clockOn ||| flag 3 b.flash.fclkOn ||| flag 2 b.radio.synthOn ||| flag 1 b.power.pllLock ||| flag 0 b.power.xoOk

/-- CH_UNIT (R848). -/
def ChainBlock.unit (c : ChainBlock) : Word := fld 24 c.hostMajor ||| fld 16 c.hostMinor ||| flag 8 (c.addr != 0) ||| fld 0 c.addr

/-- The value of a register of the Lantern region, by offset; `none` is an unassigned address (R47, R143, R633, R700, R735, R769, R806, R848). -/
def Blocks.readLantern (b : Blocks) (off : Nat) : Option Word :=
  let l := b.lantern
  let m := l.core
  let u := b.update
  let p := b.power
  let a := m.area.getD {}
  if off % 4 != 0 then none
  else if 0x004 ≤ off ∧ off < 0x014 then some (m.arg.getD ((off - 4) / 4) 0)
  else if 0x024 ≤ off ∧ off < 0x034 then some (a.rv.getD ((off - 0x24) / 4) 0)
  else if 0x100 ≤ off ∧ off < 0x200 then some (m.input.getD ((off - 0x100) / 4) 0)
  else if 0x200 ≤ off ∧ off < 0x300 then some (wordAt a.out (off - 0x200))
  else if 0x910 ≤ off ∧ off < 0x920 then some (b.integ.repair.getD ((off - 0x910) / 4) {}).reg
  else if 0xA40 ≤ off ∧ off < 0xAC0 then some (l.flow.ringWord ((off - 0xA40) / 4))
  else if 0xC10 ≤ off ∧ off < 0xC20 then some (b.boot.slotWord ((off - 0xC10) / 4))
  else if 0xC20 ≤ off ∧ off < 0xC30 then some (b.boot.version.getD ((off - 0xC20) / 4) 0)
  else if 0xE00 ≤ off ∧ off < 0xF00 then some (u.buf.getD ((off - 0xE00) / 4) 0)
  else match off with
  | 0x000 => some (fld 16 m.tag ||| fld 0 m.req)
  | 0x014 => some 0
  | 0x018 => some (fld 16 m.subTag ||| fld 8 m.outcome ||| nfld 0 l.queue.length)
  | 0x020 => some (flag 31 m.area.isSome ||| fld 16 a.tag ||| fld 8 a.req ||| fld 0 a.status)
  | 0x034 => some 0
  | 0x800 => some p.modeWord
  | 0x804 => some p.stat
  | 0x808 => some (fld 0 p.wakeEn)
  | 0x80C => some (fld 0 p.wakeSrc)
  | 0x810 => some (fld 0 p.cfg)
  | 0x820 => some p.cclk
  | 0x824 => some p.lf
  | 0x828 => some b.ckStat
  | 0x900 => some (fld 16 b.integ.scrubPasses ||| nfld 0 b.integ.scrubRow)
  | 0x904 => some b.integ.scrubErr
  | 0xA00 => some l.flow.stat
  | 0xA04 => some l.flow.events
  | 0xA08 => some l.flow.divergeWord
  | 0xA0C => some l.flow.wear
  | 0xA10 => some l.flow.prov
  | 0xB00 => some (l.calendar.extractLsb' 0 32)
  | 0xB04 => some (flag 31 l.stale ||| fld 0 l.calHi)
  | 0xB08 => some (l.alarm.extractLsb' 0 32)
  | 0xB0C => some (flag 31 l.alarmArmed ||| fld 0 (l.alarm.extractLsb' 32 8))
  | 0xB10 => some ((l.wake.getD 0).extractLsb' 0 32)
  | 0xB14 => some (flag 31 l.wake.isSome ||| fld 0 ((l.wake.getD 0).extractLsb' 32 16))
  | 0xB20 => some (fld 0 l.cause.code)
  | 0xB24 => some 0
  | 0xB28 => some (flag 2 l.sfdpOk ||| flag 1 l.stickPresent ||| flag 0 l.stickDet)
  | 0xC00 => some (nfld 16 l.confirmLeft ||| flag 1 l.confirmPending)
  | 0xC04 => some b.boot.word
  | 0xD00 => some u.cmdReg
  | 0xD04 => some u.offReg
  | 0xD08 => some u.crcReg
  | 0xD0C => some 0
  | 0xD10 => some u.stat
  | 0xD14 => some u.miss
  | 0xD18 => some u.count
  | 0xD1C => some (flag 0 u.stickAuto)
  | 0xD20 => some u.stick
  | 0xF00 => some (flag 0 b.chain.dbgOpen)
  | 0xF04 => some b.chain.unit
  | _ => none

/-- The bits of a Lantern-region register that read back what the core wrote until it is delivered: RW and WS fields (R31). -/
def lanternReadback (off : Nat) : Word :=
  if 0x004 ≤ off ∧ off < 0x014 then 0xFFFFFFFF
  else if 0x100 ≤ off ∧ off < 0x200 then 0xFFFFFFFF
  else if 0xE00 ≤ off ∧ off < 0xF00 then 0xFFFFFFFF
  else match off with
  | 0x000 => 0x00FF00FF
  | 0x014 => 1
  | 0x034 => 1
  | 0x800 => 0x1000F
  | 0x808 => 0x3F
  | 0x810 => 7
  | 0x820 => 7
  | 0x824 => 1
  | 0xC00 => 1
  | 0xD00 => 0x1F0F
  | 0xD04 => 0xFFFFFFFF
  | 0xD08 => 0xFFFFFFFF
  | 0xD0C => 1
  | 0xF00 => 1
  | _ => 0

/-- WS bits of a link or Lantern register, which a write of 0 leaves (R8). -/
def wsBits (addr : Nat) : Word :=
  if 0x500000A0 ≤ addr ∧ addr < 0x500000D0 then 0xFFFFFFFF
  else match addr with
  | 0x50000030 => 0xFFFF
  | 0x50000038 => 0xFFFF
  | 0x5000003C => 0xFFFF
  | 0x60000014 => 1
  | 0x60000034 => 1
  | 0x60000800 => 0x10000
  | 0x60000C00 => 1
  | 0x60000D0C => 1
  | _ => 0

/-- The value as a Lantern register stores it: an unlisted encoding is replaced by the field's Reset value (R17, R128, R806). -/
def lanternNormal (hasL : Bool) (off : Nat) (v : Word) : Word :=
  match off with
  | 0x800 => if (bits v 0 4).toNat ≤ 5 then v else v &&& 0xFFFFFFF0#32
  | 0x808 => if hasL then v else v &&& 0xFFFFFFFD#32
  | 0x820 => if (bits v 0 3).toNat ≤ 5 then v else (v &&& 0xFFFFFFF8#32) ||| 3
  | 0xD00 =>
    let a := if (bits v 0 4).toNat ≤ 5 then v else v &&& 0xFFFFFFF0#32
    let b := if (bits v 8 2).toNat = 3 then a &&& 0xFFFFFCFF#32 else a
    if (bits v 10 2).toNat = 3 then b &&& 0xFFFFF3FF#32 else b
  | _ => v

/-- The key of LT_RESETREQ (R730) and of CH_DBGCTL (R848). -/
def resetKey : BitVec 16 := 0x5AC3
def debugKey : BitVec 16 := 0xD3B6

/-- CH_DBGCTL (R848). -/
def ChainBlock.dbgCtl (c : ChainBlock) (v : Word) : ChainBlock :=
  if !bitAt v 0 then { c with dbgOpen := false }
  else if bits v 16 16 = debugKey then { c with dbgOpen := true } else c

/-- A confirmation delivered at a transfer; during a supply warning its write waits for the end of the warning (R756, R698, R731, R798; DEDUCED,
assumption 46). -/
def State.confirm (s : State) : State :=
  if !(s.lantern.confirmPending && decide (0 < s.lantern.confirmLeft)) || s.lantern.confirmDone then s
  else if s.power.bodWarn then { s with lantern.confirmWaits := true }
  else
    let (good, s1) := s.saveRecord s.bootRecord.settled
    if !good then s1.setLeaf .bootRecordFail
    else
      let s2 := { s1 with lantern.confirmDone := true }
      (if s2.savedFor == some (s2.image s2.boot.appSlot).identity then (State.clearSaved (true, s2)).2 else s2).releaseRings

/-- PW_CFG: bypass is a state of the selected buck converter (R97, R99). -/
def PowerBlock.setCfg (p : PowerBlock) (v : BitVec 3) : PowerBlock := { p with cfg := v, bypass := p.bypass && v.getLsbD 0 }

/-- CK_LF.SRC (R113, R115). The crystal becomes active at once when it oscillates; one that does not yet starts, and one that has failed
stays out of use until it has started and SRC is written again. A write of 1 leaves XO_RUN as it stands (DESIGN CHOICE, assumption 30). -/
def PowerBlock.setLf (p : PowerBlock) (rc : Bool) : PowerBlock :=
  if rc then { p with lfSrcRc := true, lfActiveRc := true, lfFailed := false }
  else if p.lfXoRun then { p with lfSrcRc := false, lfActiveRc := false, lfFailed := false }
  else { p with lfSrcRc := false }

/-- A core write reaches the Lantern region at a transfer (R31). -/
def State.deliverLantern (s : State) (off : Nat) (v0 : Word) : State :=
  let v := lanternNormal s.key.hasL off v0
  let m := s.lantern.core
  if 0x004 ≤ off ∧ off < 0x014 then { s with lantern.core.arg := m.arg.setIfInBounds ((off - 4) / 4) v }
  else if 0x100 ≤ off ∧ off < 0x200 then { s with lantern.core.input := m.input.setIfInBounds ((off - 0x100) / 4) v }
  else if 0xE00 ≤ off ∧ off < 0xF00 then { s with update.buf := s.update.buf.setIfInBounds ((off - 0xE00) / 4) v }
  else match off with
  | 0x000 => { s with lantern.core := { m with tag := bits v 16 8, req := bits v 0 8 } }
  | 0x014 => { s with lantern.core.go := m.go || bitAt v 0 }
  | 0x034 => { s with lantern.core.release := m.release || bitAt v 0 }
  | 0x800 =>
    let p := { s.power with target := bits v 0 4 }
    { s with power := if bitAt v 16 then { p with go := true, requested := true, requestTarget := bits v 0 4, wakeLatched := false } else p }
  | 0x808 => { s with power.wakeEn := bits v 0 6 }
  | 0x80C => { s with power.wakeSrc := s.power.wakeSrc &&& ~~~(bits v 0 7) }
  | 0x810 => { s with power := s.power.setCfg (bits v 0 3) }
  | 0x820 => { s with power.cclkFreq := bits v 0 3 }
  | 0x824 => { s with power := s.power.setLf (bitAt v 0) }
  | 0xB24 => if bits v 16 16 = resetKey && bitAt v 0 then { s with lantern.resetReq := true } else s
  | 0xC00 => if bitAt v 0 then s.confirm else s
  | 0xD00 => { s with update.cmdReg := v &&& 0x1F0F }
  | 0xD04 => { s with update.offReg := v }
  | 0xD08 => { s with update.crcReg := v }
  | 0xD0C => { s with update.go := s.update.go || bitAt v 0 }
  | 0xF00 => { s with chain := s.chain.dbgCtl v }
  | _ => s

/-- RC count fields of a link or Lantern register (R900). -/
def rcFields (addr : Nat) : List (Nat × Nat) :=
  if addr = 0x60000A04 then [(16, 16), (8, 8), (0, 8)]
  else if addr = 0x40006044 then [(16, 16)]
  else if addr = 0xE0004000 then [(16, 16)]
  else if addr = 0xE000400C then [(24, 8)]
  else if addr = 0x40004008 then [(31, 1)]
  else if 0x50000000 ≤ addr ∧ addr < 0x50010000 then linkRcFields (addr - 0x50000000) else []

/-- What `b` shows at an address of the link or Lantern region. -/
def Blocks.readFar (b : Blocks) (addr : Nat) : Option Word :=
  if addr % 4 != 0 then none
  else if 0x50000000 ≤ addr ∧ addr < 0x50010000 then b.readLink (addr - 0x50000000)
  else if 0x60000000 ≤ addr ∧ addr < 0x60010000 then b.readLantern (addr - 0x60000000)
  else none

/-- The value as the register stores it. -/
def farNormal (hasL : Bool) (addr : Nat) (v : Word) : Word :=
  if addr < 0x60000000 then linkNormal (addr - 0x50000000) v else lanternNormal hasL (addr - 0x60000000) v

/-- The bits that a pending write of the reader's own shows (R31). -/
def farReadback (addr : Nat) : Word :=
  if addr < 0x60000000 then linkReadback (addr - 0x50000000) else lanternReadback (addr - 0x60000000)

/-- A pending write over the value of a register (R8, R31). -/
def overlay (hasL : Bool) (addr : Nat) (w : Word) (p : PendingWrite) : Word :=
  if p.addr != addr then w
  else
    let rb := farReadback addr
    (w &&& ~~~(rb &&& ~~~wsBits addr)) ||| (farNormal hasL addr p.value &&& rb)

/-- LK_RXQ in a reader's view, without the heads it has removed (R262). -/
def LinkBlock.rxqWord (k : LinkBlock) (gone : List PendingWrite) : Word :=
  match k.rxq.filter fun n => !gone.any fun p => p.addr == 0x50000040 && p.value == BitVec.ofNat 32 n with
  | [] => flag 31 true
  | n :: ns => nfld 8 ns.length ||| nfld 0 n

/-- The view of the last transfer, with the high halves that live reads have captured (R95, R735). -/
def State.latchedView (s : State) : Blocks :=
  { s.seen with drip.hiLatch := s.drip.hiLatch, lantern.calHi := s.lantern.calHi }

/-- A register of the link or Lantern region in the view of a reader with pending writes `mine` and removals `gone` (R31, R900). -/
def State.farValue (s : State) (mine gone : List PendingWrite) (addr : Nat) : Option Word :=
  if addr = 0x50000040 then some (s.seen.link.rxqWord gone)
  else
    (s.latchedView.readFar addr).map fun w =>
      let w1 := gone.foldl (fun w p => if p.addr == addr then subFields (rcFields addr) w p.value else w) w
      mine.foldl (overlay s.key.hasL addr) w1

/-- What a read of a register of another plane removes (R900, R262). -/
def farRemoval (addr : Nat) (w : Word) : Option PendingWrite :=
  if addr = 0x50000040 then (if bitAt w 31 then none else some ⟨addr, fld 0 (bits w 0 7)⟩)
  else if (rcFields addr).isEmpty then none
  else some ⟨addr, (rcFields addr).foldl (fun x f => x ||| (w &&& (nfld f.1 (2 ^ f.2 - 1)))) 0#32⟩

/-- LK_DRIP_LO and LT_CAL_LO capture their high halves (R95, R735). -/
def State.farCapture (s : State) (addr : Nat) : State :=
  match addr with
  | 0x50000010 => { s with drip.hiLatch := s.seen.drip.count.extractLsb' 32 16 }
  | 0x60000B00 => { s with lantern.calHi := s.seen.lantern.calendar.extractLsb' 32 8 }
  | _ => s

/-- A core read of the link or Lantern region (R31, R63, R900). -/
def State.coreReadFar (s : State) (addr : Nat) : Option (Word × State) :=
  (s.farValue (s.coreWrites ++ s.coreWritesLate) (s.coreRemovals ++ s.coreRemovalsLate) addr).map fun w =>
    let s1 := s.farCapture addr
    (w, match farRemoval addr w with
      | none => s1
      | some r => if s1.isLate then { s1 with coreRemovalsLate := s1.coreRemovalsLate ++ [r] }
                  else { s1 with coreRemovals := s1.coreRemovals ++ [r] })

/-- A core write to the link or Lantern region waits for the transfer that delivers it (R31, R63). -/
def State.coreWriteFar (s : State) (addr : Nat) (v : Word) : State :=
  let w : PendingWrite := ⟨addr, v⟩
  if s.isLate then { s with coreWritesLate := s.coreWritesLate ++ [w] } else { s with coreWrites := s.coreWrites ++ [w] }

/-- A host or DEBUG write waits likewise (R30, R63). -/
def State.hostWrite (s : State) (addr : Nat) (v : Word) : State :=
  let w : PendingWrite := ⟨addr, v⟩
  if s.isLate then { s with hostWritesLate := s.hostWritesLate ++ [w] } else { s with hostWrites := s.hostWrites ++ [w] }

/-- DS_STAT (R526). -/
def CoreBlock.dsStat (c : CoreBlock) : Word := flag 1 c.dsp.asat ||| flag 0 c.dsp.zsat

/-- Replace the DSP state; a flag that rises sets its leaf (R854). -/
def State.setDsp (s : State) (d : DspBlock) : State :=
  let o := s.core.dsp
  ({ s with core.dsp := d }.setLeafIf (d.asat && !o.asat) .dspAsat).setLeafIf (d.zsat && !o.zsat) .dspZsat

/-- A drain point: every DSP write in flight takes effect (R505). -/
def State.drainDsp (s : State) : State := s.setDsp s.core.dsp.drain

/-- A register of the core-private region without side effects, from the state of `s` and the given blocks (R573, R633, R867). -/
def privateValue (b : Blocks) (c : CoreBlock) (off : Nat) : Option Word :=
  if off % 4 != 0 then none
  else if h : 0x1000 ≤ off ∧ off < 0x103C then some (b.cause.coreView ⟨(off - 0x1000) / 4, by omega⟩)
  else if h : 0x1080 ≤ off ∧ off < 0x10BC then some (b.cause.cmask[(off - 0x1080) / 4]'(by omega))
  else match off with
  | 0x103C => some 0
  | 0x1040 => some b.cause.coreSummary
  | 0x1044 => some b.cause.pend
  | 0x1048 => some b.cause.hostMask
  | 0x2000 => some c.dsStat
  | 0x3000 => some b.conduit.route
  | 0x4000 => some (fld 16 b.integ.corr)
  | 0x4004 => some b.integ.eccAddr
  | 0x4008 => some (fld 0 b.integ.eccReg)
  | 0x400C => some b.integ.lwStat
  | _ => none

/-- A core read of the core-private region; RC fields clear at once (R11, R505). -/
def State.privateRead (s : State) (off : Nat) : Option (Word × State) :=
  let s0 := if off = 0x2000 then s.drainDsp else s
  (privateValue s0.toBlocks s0.core off).map fun w =>
    (w, match off with
      | 0x4000 => { s0 with integ.corr := 0 }
      | 0x400C => { s0 with integ.lwBad := 0 }
      | _ => s0)

/-- A core write to CAUSE_g (R862): at once for a control-plane group, else at the next transfer. -/
def State.causeClear (s : State) (g : Fin 15) (mask : Word) : State :=
  let c := s.cause
  if groupIsControl g then
    let hold := if g = 13 && s.periph.gpio.condition then Leaf.periphGpio.mask else 0
    { s with cause := c.clearNow g mask hold }
  else if s.isLate then { s with cause.coreClearLate := c.coreClearLate.set g (c.coreClearLate[g] ||| (mask &&& leafMask g)) }
  else { s with cause.coreClear := c.coreClear.set g (c.coreClear[g] ||| (mask &&& leafMask g)) }

/-- A core write to CS_CMASKg (R860). -/
def State.setCmask (s : State) (g : Fin 15) (v : Word) : State := { s with cause.cmask := s.cause.cmask.set g (v &&& leafMask g) }

/-- A write to the core-private region (R50, R526, R633, R867). -/
def State.privateWrite (s : State) (off : Nat) (v : Word) : State :=
  if h : 0x1000 ≤ off ∧ off < 0x103C then s.causeClear ⟨(off - 0x1000) / 4, by omega⟩ v
  else if h : 0x1080 ≤ off ∧ off < 0x10BC then s.setCmask ⟨(off - 0x1080) / 4, by omega⟩ v
  else match off with
  | 0x2000 =>
    let d := s.core.dsp
    { s with core.dsp := { d with asat := d.asat && !bitAt v 1, zsat := d.zsat && !bitAt v 0 } }
  | 0x400C => { s with integ.lwWrDisc := s.integ.lwWrDisc && !bitAt v 15 }
  | _ => s

/-- An address of the I/O region (R46). -/
def isIo (a : Nat) : Bool :=
  [0x4000, 0x5000, 0x6000, 0xE000].contains (a / 0x10000)

/-- A register exists at this address for an access of the core (R47). -/
def State.ioExists (s : State) (a : Nat) : Bool :=
  let off := a % 0x10000
  match a / 0x10000 with
  | 0x4000 => (s.readPeriph off).isSome
  | 0xE000 => (privateValue s.toBlocks s.core off).isSome
  | _ => a == 0x50000040 || (s.readFar a).isSome

/-- A 32-bit core read of an I/O register: its value and the state with what the read captured and removed (R26, R31, R900). -/
def State.ioRead (s : State) (a : Nat) : Option (Word × State) :=
  match a / 0x10000 with
  | 0x4000 => s.periphRead (a % 0x10000)
  | 0xE000 => s.privateRead (a % 0x10000)
  | _ => s.coreReadFar a

/-- A 32-bit core write to an I/O register that exists (R26, R31). -/
def State.ioWrite (s : State) (a : Nat) (v : Word) : State :=
  match a / 0x10000 with
  | 0x4000 => s.periphWrite (a % 0x10000) v
  | 0xE000 => s.privateWrite (a % 0x10000) v
  | _ => s.coreWriteFar a v

/-- A removal of the DEBUG reader waits for the transfer that delivers it (R900, R63). -/
def State.debugRemoves (s : State) (r : Option PendingWrite) : State :=
  match r with
  | none => s
  | some r => if s.isLate then { s with hostRemovalsLate := s.hostRemovalsLate ++ [r] } else { s with hostRemovals := s.hostRemovals ++ [r] }

/-- GP_TRNG_DATA as DEBUG reads it: the next word of the last transfer's view; that it found none reaches the TRNG at the next transfer, under
the address of GP_TRNG_STAT (R19, R30, R596, R900). -/
def State.debugTrng (s : State) : Word × State :=
  let gone := ((s.hostRemovals ++ s.hostRemovalsLate).filter fun p => p.addr == 0x40005008).length
  match s.seen.periph.trng.fifo.drop gone with
  | [] => (0, s.debugRemoves (some ⟨0x40005004, 0⟩))
  | w :: _ => (w, s.debugRemoves (some ⟨0x40005008, w⟩))

/-- The value a DEBUG read of an I/O register returns: that of the last transfer (R30, R31, R844), with its own pending removals and writes. -/
def State.debugIoRead (s : State) (a : Nat) : Option (Word × State) :=
  let mine := s.hostWrites ++ s.hostWritesLate
  let gone := s.hostRemovals ++ s.hostRemovalsLate
  let off := a % 0x10000
  let less : Word → Word := fun w => gone.foldl (fun w p => if p.addr == a then subFields (rcFields a) w p.value else w) w
  if a = 0x40005008 then some s.debugTrng
  else
    let v := match a / 0x10000 with
      | 0x4000 => (s.seen.readPeriph off).map less
      | 0xE000 => if off = 0x2000 then some s.seenDsStat else (privateValue s.seen s.core off).map less
      | _ => s.farValue mine gone a
    v.map fun w => (w, (s.farCapture a).debugRemoves (farRemoval a w))

/-- A count without what a read returned of it (R900). -/
def lessCount {w : Nat} (x y : BitVec w) : BitVec w := if x < y then 0 else x - y

/-- A removal reaches its owner (R900). -/
def State.deliverRemoval (s : State) (r : PendingWrite) : State :=
  match r.addr with
  | 0x50000040 => { s with link.rxq := s.link.rxq.filter fun n => r.value != BitVec.ofNat 32 n }
  | 0x60000A04 =>
    let w := subFields (rcFields r.addr) s.lantern.flow.events r.value
    { s with lantern.flow.refresh := (bits w 16 16).toNat, lantern.flow.uncorr := (bits w 8 8).toNat, lantern.flow.diverge := (bits w 0 8).toNat }
  | 0x40006044 => s.setKey { s.key with irLost := lessCount s.key.irLost (bits r.value 16 16) }
  | 0xE0004000 => { s with integ.corr := lessCount s.integ.corr (bits r.value 16 16) }
  | 0xE000400C => { s with integ.lwBad := lessCount s.integ.lwBad (bits r.value 24 8) }
  | 0x40004008 => if s.periph.adc.newFresh then s else { s with periph.adc.new := false }
  | 0x40005004 => { s with periph.trng.underrun := true }
  | 0x40005008 => { s with periph.trng.fifo := s.periph.trng.fifo.erase r.value }
  | _ => s.linkRemoval (r.addr - 0x50000000) r.value

/-- Bits that LK_GIVE writes of a transfer name, register by register (R263). -/
def givenLines (ws : List PendingWrite) : List Nat :=
  let words := (List.range 4).map fun g =>
    (ws.filter fun p => p.addr == 0x500000C0 + 4 * g).foldl (fun w p => w ||| p.value) 0#32
  (List.range 128).filter fun n => (words.getD (n / 32) 0).getLsbD (n % 32)

/-- A clear by the host of leaves of group `g`, applied at this transfer on the host's view (R44, R45). -/
def State.hostClears (s : State) (g : Fin 15) (mask : Word) : State :=
  { s with cause.hostClear := s.cause.hostClear.set g (s.cause.hostClear[g] ||| (mask &&& leafMask g)) }

/-- A write of the core or the host reaches its owner at a transfer (R30, R31). Only DEBUG writes of CAUSE_g come this way (R862). -/
def State.deliverWrite (s : State) (p : PendingWrite) : State :=
  if h : 0xE0001000 ≤ p.addr ∧ p.addr < 0xE000103C then s.hostClears ⟨(p.addr - 0xE0001000) / 4, by omega⟩ p.value
  else match p.addr / 0x10000 with
  | 0x5000 => s.deliverLink (p.addr % 0x10000) p.value
  | 0x6000 => s.deliverLantern (p.addr % 0x10000) p.value
  | 0x4000 => s.periphWrite (p.addr % 0x10000) p.value
  | 0xE000 => s.privateWrite (p.addr % 0x10000) p.value
  | _ => s

/-- Writes in the order in which they were made, a change of the host range first, since it holds for every submission of its transfer (R287), and
the lines given among them last (R263). Two writes that submit one slot are two submissions (DESIGN CHOICE, assumption 58). -/
def State.deliverWrites (s : State) (ws : List PendingWrite) : State :=
  let range (w : PendingWrite) : Bool := w.addr == 0x50000048
  let s1 := (ws.filter range ++ ws.filter fun w => !range w).foldl State.deliverWrite s
  let given := givenLines ws
  if given.isEmpty then s1 else s1.giveLines given

/-- FS_WEAR and FS_PROV as this transfer makes them visible (R700). -/
def State.refreshFs (s : State) : State := { s with lantern.flow.wear := s.fsWear, lantern.flow.prov := s.fsProv }

end Sys2Proof.Machine
end

