-- ==== Sys2Proof/Machine/Bus.lean ====
section
/-!
DEFINITION. The core's address space as loads, stores and DEBUG accesses meet it (R46 to R49, R465, R470, R605 to R609, R625 to R628).
-/
namespace Sys2Proof.Machine

/-- What an address names (R46). -/
inductive Region where
  | rom
  | flash
  | dtcm
  | sram
  | gallery
  | window
  | flowstone
  | io
  /-- No range holds the address (R47). -/
  | none
  deriving DecidableEq, Repr

/-- The range that holds a byte (R46). -/
def regionOf (a : Nat) : Region :=
  if a < 0x8000 then .rom
  else if 0x08000000 ≤ a ∧ a < 0x08100000 then .flash
  else if 0x10000000 ≤ a ∧ a < 0x10008000 then .dtcm
  else if 0x20000000 ≤ a ∧ a < 0x20040000 then .sram
  else if 0x30000000 ≤ a ∧ a < 0x30004000 then .gallery
  else if 0x30010000 ≤ a ∧ a < 0x30014000 then .window
  else if 0x38000000 ≤ a ∧ a < 0x38008000 then .flowstone
  else if isIo a then .io
  else .none

/-- Byte address of a gallery byte in the direct view, for either view (R46). -/
def directView (a : Nat) : Nat := if 0x30010000 ≤ a then a - 0x10000 else a

/-- The line that holds a gallery byte. -/
def lineOf (a : Nat) : Nat := (directView a - 0x30000000) / 128

/-- An access of `size` bytes raises BUS_FAULT as a load (R47, R48). -/
def State.loadFaults (s : State) (a size : Nat) : Bool :=
  match regionOf a with
  | .none => true
  | .io => size != 4 || !s.ioExists a
  | _ => false

/-- An access of `size` bytes raises BUS_FAULT as a store (R47 to R49). -/
def State.storeFaults (s : State) (a size : Nat) : Bool :=
  match regionOf a with
  | .none => true
  | .rom => true
  | .flash => true
  | .window => true
  | .flowstone => true
  | .io => size != 4 || !s.ioExists a
  | _ => false

/-- The little-endian value of `size` stored bytes (R7). -/
def State.rawLoad (s : State) (a size : Nat) : Word := BitVec.ofNat 32 (leNat (memBytes s.mem (directView a) size))

/-- A word of SRAM or DTCM is rewritten whole: it holds no error any more, except where its cells are dead (R607). -/
def IntegrityBlock.wordWritten (g : IntegrityBlock) (w : Nat) : IntegrityBlock :=
  { g with
    corrWords := g.corrWords.filter (· != w)
    uncorrWords := if g.fails w then g.uncorrWords else g.uncorrWords.filter (· != w) }

/-- A store reaches SRAM or DTCM; a narrow one merges into the word it reads (R470, R606, R607). -/
def State.storeRam (s : State) (a size : Nat) (v : Word) : State :=
  let w := a - a % 4
  let put := { s with mem := memPutBytes s.mem a ((wordBytes v).take size) }
  if size = 4 then { put with integ := put.integ.wordWritten w }
  else if s.integ.uncorrWords.contains w then put.setLeaf .coreStoreEcc
  else if s.integ.corrWords.contains w then { put.reportCorr w with integ := (put.reportCorr w).integ.wordWritten w }
  else put

/-- A store reaches a gallery line; one to a line that is not CORE is discarded (R39, R625, R626). -/
def State.storeLine (s : State) (a size : Nat) (v : Word) : State :=
  let n := lineOf a
  if s.link.ownerOf n = .core then s.writeLine n (a % 128) ((wordBytes v).take size)
  else { s with integ.lwWrDisc := true, integ.lwWrLine := BitVec.ofNat 7 n }.setLeaf .coreLineOwner

/-- A store that has raised no fault reaches its target (R465). -/
def State.storeAt (s : State) (a size : Nat) (v : Word) : State :=
  match regionOf a with
  | .dtcm => s.storeRam a size v
  | .sram => s.storeRam a size v
  | .gallery => s.storeLine a size v
  | .io => s.ioWrite a v
  | _ => s

/-- A load from the busy bank returns the status word and inverts its TOGGLE (R648). -/
def State.busyLoad (s : State) (a size : Nat) : Word × State :=
  let w := s.flash.statusWord
  (BitVec.ofNat 32 ((w.toNat >>> (8 * (a % 4))) % 2 ^ (8 * size)), { s with flash.toggle := !s.flash.toggle })

/-- A load through the line window that takes bytes of a line's last word verifies the line (R628). -/
def State.windowEffect (s : State) (a size : Nat) : State :=
  if 0x7C ≤ (a + size - 1) % 128 then s.verifyLine (lineOf a) else s

/-- One word as DEBUG reads it; `none` where the access would raise BUS_FAULT (R844). -/
def State.debugLoad (s : State) (a : Nat) : Option (Word × State) :=
  match regionOf a with
  | .none => none
  | .io => s.debugIoRead a
  | .flash => if s.flash.busyAt a then some (s.busyLoad a 4) else some (s.rawLoad a 4, s)
  | .window => some (s.rawLoad a 4, s.windowEffect a 4)
  | _ => some (s.rawLoad a 4, s)

/-- One word as DEBUG writes it (R30, R844). -/
def State.debugStore (s : State) (a : Nat) (v : Word) : Option State :=
  if s.storeFaults a 4 then none
  else if isIo a then some (s.hostWrite a v)
  else some (s.storeAt a 4 v)

end Sys2Proof.Machine
end

