-- ==== Sys2Proof/Machine/Operands.lean ====
section
/-!
DEFINITION. Operand forms of the core: register reads and writes, immediates, effective addresses, targets, access widths (R395, R406, R412, R418).
-/
namespace Sys2Proof.Machine

/-- A general register; g0 reads as 0 (R395). -/
def CoreBlock.reg (c : CoreBlock) (r : GReg) : Word := if r = 0 then 0 else c.g[r]

/-- Write a general register; a write to g0 is discarded (R395). -/
def CoreBlock.setReg (c : CoreBlock) (r : GReg) (v : Word) : CoreBlock :=
  if r = 0 then c else { c with g := c.g.set r v }

/-- Sign extension of a 16-bit immediate (R422). -/
def sext16 (imm : BitVec 16) : Word := imm.signExtend 32

/-- Zero extension of a 16-bit immediate (R422). -/
def zext16 (imm : BitVec 16) : Word := imm.setWidth 32

/-- Effective address of a load or store (R412). -/
def effective (base : Word) (off : BitVec 16) : Word := base + sext16 off

/-- Target of a branch at `pc` (R418). -/
def branchTarget (pc : Word) (off : BitVec 16) : Word := pc + (sext16 off <<< 2)

/-- Target of J or JAL at `pc` (R418). -/
def jumpTarget (pc : Word) (off : BitVec 26) : Word := pc + (off.signExtend 32 <<< 2)

/-- What a load or store moves: its width in bytes and how a narrow load extends (R426). -/
inductive Width where
  | word
  | half
  | halfU
  | byte
  | byteU
  deriving DecidableEq, Repr

/-- Bytes of an access. -/
def Width.size : Width → Nat
  | .word => 4
  | .half | .halfU => 2
  | .byte | .byteU => 1

/-- The value a load of the low bytes of `w` gives its destination (R426). -/
def Width.extend : Width → Word → Word
  | .word, w => w
  | .half, w => (w.extractLsb' 0 16).signExtend 32
  | .halfU, w => (w.extractLsb' 0 16).setWidth 32
  | .byte, w => (w.extractLsb' 0 8).signExtend 32
  | .byteU, w => (w.extractLsb' 0 8).setWidth 32

/-- Alignment (R413). -/
def aligned (a : Word) (size : Nat) : Bool := a.toNat % size == 0

end Sys2Proof.Machine
end

