-- ==== Sys2Proof/Machine/CoreMem.lean ====
section
/-!
DEFINITION. The core's memory paths: store buffer, loads, instruction fetch and the buffers beside them (09_kraura_isa.md 5;
10_core_execution.md 1, 3; 15_memory_integrity.md 1; 16_flash.md 4).
-/
namespace Sys2Proof.Machine

/-- Exception codes (R471). -/
def xReservedOp : BitVec 5 := 0x01
def xCxEmpty : BitVec 5 := 0x02
def xGatherFault : BitVec 5 := 0x03
def xBusFault : BitVec 5 := 0x04
def xAlign : BitVec 5 := 0x05
def xBankBusy : BitVec 5 := 0x06
def xEccUncorr : BitVec 5 := 0x07
def xSyscall : BitVec 5 := 0x08
def xBreak : BitVec 5 := 0x09
def xDrip : BitVec 5 := 0x0A

/-- A synchronous exception and what its entry reports (R404, R471, R489). -/
structure Exc where
  code : BitVec 5
  fetch : Bool := false
  store : Bool := false
  badInst : Option Word := none
  badAddr : Option Word := none
  /-- The return address lies after the instruction (R433). -/
  after : Bool := false
  deriving DecidableEq, Repr

/-- What an instruction's own effect answers: the state it leaves, or the exception it raises with the state that stays. -/
inductive Ran where
  | done (s : State)
  | raise (x : Exc) (s : State)

-- Time

/-- CCLK in MHz (CK_CCLK). -/
def cclkMhz (f : BitVec 3) : Nat := [8, 16, 24, 32, 48, 64].getD f.toNat 8

/-- Wait states of the flash array (R450). -/
def State.waits (s : State) : Nat :=
  let f := cclkMhz s.power.cclkCur
  if f ≤ 24 then 0 else if f ≤ 48 then 1 else 2

/-- `k` cycles pass in an episode. -/
def Episode.pass (e : Episode) (k : Nat) : Episode :=
  { e with
    left := e.left - k
    misses := (e.misses.map (· - k)).filter (· != 0)
    late := (e.late.filter fun (p : GReg × Nat) => decide (k < p.2)).map fun (p : GReg × Nat) => (p.1, p.2 - k) }

/-- `k` cycles pass in a read buffer. -/
def BufferLine.pass (l : BufferLine) (k : Nat) : BufferLine := { l with left := l.left - k }

/-- `k` cycles pass in the core, DSP writes in flight apart: latencies, the divider, reads of flash and Flowstone storage, and the slow loads and
divisions that complete, in program order (R405, R440, R446, R450, R905) (DESIGN CHOICE, assumptions 18 and 19). -/
def CoreBlock.pass (c : CoreBlock) (k : Nat) : CoreBlock :=
  let n := c.cycle.toNat + k
  { c with
    cycle := if n < 2 ^ 64 then BitVec.ofNat 64 n else BitVec.allOnes 64
    late := (c.late.filter fun (p : GReg × Nat) => decide (k < p.2)).map fun (p : GReg × Nat) => (p.1, p.2 - k)
    divider := c.divider - k
    outs := (c.outs.map fun (o : Outstanding) => { o with left := o.left - k }).dropWhile fun (o : Outstanding) => o.left == 0
    flashBuf := c.flashBuf.map (·.pass k)
    groupBuf := c.groupBuf.map (·.pass k)
    flashNext := c.flashNext - k
    episode := c.episode.map (·.pass k) }

/-- `k` CCLK cycles reach the core (R405, R440, R501) (DESIGN CHOICE, assumption 18). -/
def State.tick (s : State) (k : Nat) : State :=
  let s1 := { s with core := s.core.pass k }
  s1.setDsp (s1.core.dsp.advance k)

/-- Cycles until every outstanding load and division has completed. -/
def CoreBlock.outsLeft (c : CoreBlock) : Nat := c.outs.foldl (fun n o => max n o.left) 0

/-- Every outstanding load and division completes (R446). -/
def State.settle (s : State) : State := s.tick s.core.outsLeft

/-- Cycles until every register of `rs` is readable (R398, R444) (DESIGN CHOICE, assumption 18). -/
def CoreBlock.waitFor (c : CoreBlock) (rs : List GReg) : Nat :=
  (c.late.filter fun p => rs.contains p.1).foldl (fun n p => max n p.2) 0

/-- A result of latency `l` goes to `r` (R440). -/
def State.result (s : State) (r : GReg) (v : Word) (l : Nat) : State :=
  let c := s.core.setReg r v
  { s with core := { c with late := if l ≤ 1 then c.late.filter (·.1 != r) else (r, l) :: c.late.filter (·.1 != r) } }

-- The store buffer

/-- The oldest entry drains (R465). -/
def State.drainOne (s : State) : State :=
  match s.core.stores with
  | [] => s
  | e :: rest => ({ s with core.stores := rest }).storeAt e.addr e.size e.value

/-- Cycles that draining an entry takes (R465). -/
def StoreEntry.cycles (e : StoreEntry) : Nat :=
  match regionOf e.addr with
  | .gallery => 2
  | .io => 3
  | _ => 1

/-- Every entry is younger than an instruction that has not completed: none may drain (R446, R472). -/
def CoreBlock.storesHeld (c : CoreBlock) : Bool :=
  match c.outs with
  | o :: _ => decide (c.stores.length ≤ o.younger)
  | [] => false

/-- The core stalls until the oldest entry has drained (R428, R444, R465, R466). -/
def State.awaitDrain (s : State) : State :=
  let s1 := if s.core.storesHeld then s.settle else s
  match s1.core.stores with
  | [] => s1
  | e :: _ => (s1.tick e.cycles).drainOne

/-- Entries drain, oldest first, until `p` holds of none; at most `n` of them. -/
def State.drainWhile (p : StoreEntry → Bool) : Nat → State → State
  | 0, s => s
  | n + 1, s => if s.core.stores.any p then State.drainWhile p n s.awaitDrain else s

/-- The buffer empties (R436, R467). -/
def State.drainStores (s : State) : State := State.drainWhile (fun _ => true) s.core.stores.length s

/-- A store takes an entry; with 8 occupied the oldest drains first (R428). -/
def State.pushStore (s : State) (a size : Nat) (v : Word) : State :=
  let s1 := if s.core.stores.length < 8 then s else s.awaitDrain
  { s1 with core.stores := s1.core.stores ++ [⟨a, size, v⟩],
            core.outs := s1.core.outs.map fun (o : Outstanding) => { o with younger := o.younger + 1 } }

/-- An entry holds a byte of the access. -/
def StoreEntry.overlaps (e : StoreEntry) (a size : Nat) : Bool := decide (a < e.addr + e.size) && decide (e.addr < a + size)

/-- The bytes of an access that one entry holds whole (R466). -/
def StoreEntry.forward (e : StoreEntry) (a size : Nat) : Option Word :=
  if e.addr ≤ a && a + size ≤ e.addr + e.size then
    some (BitVec.ofNat 32 (natAt (wordBytes e.value) (a - e.addr) size))
  else none

/-- R466 for an access of `size` bytes: the value one entry gives, or the state once no entry overlaps it. -/
def State.forwarded (s : State) (a size : Nat) : Option Word × State :=
  match s.core.stores.filter (·.overlaps a size) with
  | [] => (none, s)
  | [e] =>
    match e.forward a size with
    | some v => (some v, s)
    | none => (none, State.drainWhile (·.overlaps a size) s.core.stores.length s)
  | _ => (none, State.drainWhile (·.overlaps a size) s.core.stores.length s)

-- Error correction

/-- A word of SRAM or DTCM as the core reads it: uncorrectable, or with a correction to report (R605 to R607) (DESIGN CHOICE, assumption 23). -/
def State.ramBad (s : State) (a : Nat) : Bool := s.integ.uncorrWords.contains (a - a % 4)
def State.ramFixed (s : State) (a : Nat) : Bool := s.integ.corrWords.contains (a - a % 4)

/-- A read of a good word, its correction reported (R606). -/
def State.ramReport (s : State) (a : Nat) : State := if s.ramFixed a then s.reportCorr (a - a % 4) else s

/-- A whole word written directly to DTCM, past the store buffer (R514, R523). -/
def State.putDtcm (s : State) (a : Nat) (v : Word) : State := s.storeRam a 4 v

-- Read buffers

/-- Use of a buffered unit: it moves to the front, and its first use outside run-ahead reports a correction (R608, R609). -/
def useBuffer (b : List BufferLine) (u : Nat) : List BufferLine :=
  match b.find? (·.unit == u) with
  | some l => { l with corrected := false } :: b.filter (·.unit != u)
  | none => b

/-- The unit joins a buffer of `size` entries; the least recently used one outside `keep` leaves (R449, R459). -/
def fillBuffer (b : List BufferLine) (size : Nat) (keep : List Nat) (l : BufferLine) : List BufferLine :=
  let b := b.filter (·.unit != l.unit)
  if b.length < size then l :: b
  else match b.reverse.find? fun x => !keep.contains x.unit with
    | some victim => l :: b.filter (·.unit != victim.unit)
    | none => b

/-- The flash unit and the Flowstone group of an address. -/
def unitOf (a : Nat) : Nat := a - a % 16
def groupOf (a : Nat) : Nat := a - a % 8

/-- Outstanding slow loads, oldest first (R455). -/
def CoreBlock.loads (c : CoreBlock) : List Outstanding := c.outs.filter (·.unit.isSome)

/-- The lines and groups that outstanding loads await, which a prefetch keeps (R459, R905). -/
def CoreBlock.awaited (c : CoreBlock) : List Nat := c.outs.filterMap (·.unit)

/-- Latency of a flash load that misses the read buffer, before any wait of R450, and of a Flowstone load that misses the group buffer (R441). -/
def State.flashLatency (s : State) : Nat := 5 + s.waits
def State.groupLatency (s : State) : Nat := match s.power.cclkCur.toNat with
  | 0 => 7
  | 1 => 7
  | 2 => 8
  | 3 => 8
  | 4 => 9
  | _ => 10

/-- A flash unit is read into the buffer unless it is there or on its way: the latency of a load of it that issues now, and the state (R441, R449,
R450, R455, R608). -/
def State.readUnit (s : State) (u : Nat) (keep : List Nat) : Nat × State :=
  match s.core.flashBuf.find? (·.unit == u) with
  | some l => (max 2 l.left, s)
  | none =>
    let n := s.flashLatency + s.core.flashNext
    (n, { s with core := { s.core with
      flashBuf := fillBuffer s.core.flashBuf 4 keep ⟨u, s.integ.corrUnits.contains u, n⟩
      flashNext := s.core.flashNext + 1 + s.waits } })

/-- A Flowstone group likewise (R441, R459, R609). -/
def State.readGroup (s : State) (u : Nat) (keep : List Nat) : Nat × State :=
  match s.core.groupBuf.find? (·.unit == u) with
  | some l => (max 2 l.left, s)
  | none =>
    let n := s.groupLatency
    (n, { s with core.groupBuf := fillBuffer s.core.groupBuf 2 keep ⟨u, s.integ.corrGroups.contains u, n⟩ })

/-- A use of a buffered flash unit outside run-ahead; whether it reported a correction. -/
def State.useFlash (s : State) (u : Nat) : Bool × State :=
  let fixed := s.core.flashBuf.any fun x => x.unit == u && x.corrected
  let s1 := { s with core.flashBuf := useBuffer s.core.flashBuf u }
  (fixed, if fixed then s1.reportCorr u else s1)

def State.useGroup (s : State) (u : Nat) : Bool × State :=
  let fixed := s.core.groupBuf.any fun x => x.unit == u && x.corrected
  let s1 := { s with core.groupBuf := useBuffer s.core.groupBuf u }
  (fixed, if fixed then s1.reportCorr u else s1)

-- Loads

/-- What a load returns: its value with its latency, or an exception (R414, R441). -/
inductive Loaded where
  | value (v : Word) (latency : Nat) (s : State)
  | fails (x : Exc)

/-- A load from DTCM or SRAM (R466, R606, R607). -/
def State.loadRam (s : State) (a size : Nat) : Loaded :=
  match s.forwarded a size with
  | (some v, s1) => .value v 2 s1
  | (none, s1) =>
    if s1.ramBad a then .fails { code := xEccUncorr, badAddr := some (BitVec.ofNat 32 a) }
    else .value (s1.rawLoad a size) (if s1.ramFixed a then 3 else 2) (s1.ramReport a)

/-- A load from flash; the first use of a corrected line takes one cycle more (R442, R449, R608, R648). -/
def State.loadFlash (s : State) (a size : Nat) : Loaded :=
  let u := unitOf a
  if s.flash.busyAt a then let (v, s1) := s.busyLoad a size; .value v 3 s1
  else if s.integ.uncorrUnits.contains u then .fails { code := xEccUncorr, badAddr := some (BitVec.ofNat 32 a) }
  else
    let (n, s1) := s.readUnit u []
    let (fixed, s2) := s1.useFlash u
    .value (s.rawLoad a size) (if fixed then n + 1 else n) s2

/-- A load through the Flowstone window (R442, R609). -/
def State.loadFlowstone (s : State) (a size : Nat) : Loaded :=
  let u := groupOf a
  if s.integ.uncorrGroups.contains u then .fails { code := xEccUncorr, badAddr := some (BitVec.ofNat 32 a) }
  else
    let (n, s1) := s.readGroup u []
    let (fixed, s2) := s1.useGroup u
    .value (s.rawLoad a size) (if fixed then n + 1 else n) s2

/-- A load of `size` bytes with the checks in their order (R413, R414, R466, R467, R628). -/
def State.loadAt (s : State) (a size : Nat) : Loaded :=
  if a % size != 0 then .fails { code := xAlign, badAddr := some (BitVec.ofNat 32 a) }
  else if s.loadFaults a size then .fails { code := xBusFault, badAddr := some (BitVec.ofNat 32 a) }
  else match regionOf a with
  | .dtcm => s.loadRam a size
  | .sram => s.loadRam a size
  | .gallery =>
    match s.forwarded a size with
    | (some v, s1) => .value v 3 s1
    | (none, s1) => .value (s1.rawLoad a size) 3 s1
  | .window =>
    let s1 := State.drainWhile (fun e => regionOf e.addr == .gallery) s.core.stores.length s
    .value (s1.rawLoad a size) 3 (s1.windowEffect a size)
  | .flash => s.loadFlash a size
  | .flowstone => s.loadFlowstone a size
  | .io =>
    match s.drainStores.ioRead a with
    | some (v, s1) => .value v (if a / 0x10000 = 0xE000 then 2 else 4) s1
    | none => .fails { code := xBusFault, badAddr := some (BitVec.ofNat 32 a) }
  | _ => .value (s.rawLoad a size) 3 s

/-- A store of `size` bytes: the checks, then an entry of the store buffer (R413, R414, R416, R428). -/
def State.storeOp (s : State) (a size : Nat) (v : Word) : Ran :=
  let x : Exc := { code := xAlign, store := true, badAddr := some (BitVec.ofNat 32 a) }
  if a % size != 0 then .raise x s
  else if s.storeFaults a size then .raise { x with code := xBusFault } s
  else .done (s.pushStore a size v)

-- Fetch

/-- The region rule of fetch (R417). -/
def fetchable (a : Nat) : Bool :=
  match regionOf a with
  | .rom => true
  | .flash => true
  | .dtcm => true
  | .sram => true
  | _ => false

/-- The line of the instruction cache that holds an address. -/
def cacheLine (a : Nat) : Nat := a - a % 32

/-- The cache holds the line of `a`, without a parity error (R448). -/
def CoreBlock.cached (c : CoreBlock) (a : Nat) : Bool := c.icache.contains (cacheLine a) && !c.icacheParity.contains (cacheLine a)

/-- The exception that the fetch of a word raises, in the order of R473 (R417, R607, R608, R650). -/
def State.fetchFault (s : State) (a : Nat) : Option Exc :=
  let bad := some (BitVec.ofNat 32 a)
  if s.flash.busyAt a then some { code := xBankBusy, badAddr := bad }
  else if !fetchable a then some { code := xBusFault, fetch := true, badAddr := bad }
  else
    let lost := match regionOf a with
      | .flash => !s.core.cached a && s.integ.uncorrUnits.contains (unitOf a)
      | .dtcm => s.ramBad a
      | .sram => s.ramBad a
      | _ => false
    if lost then some { code := xEccUncorr, fetch := true, badAddr := bad } else none

/-- A line joins the cache: 2 ways for each of 128 sets, the least recently used leaving (R448). -/
def fillCache (c : List Nat) (l : Nat) : List Nat :=
  let set := fun x => x / 32 % 128
  let same := (c.filter fun x => set x == set l && x != l).take 1
  l :: (same ++ c.filter fun x => set x != set l)

/-- A line is used in the instruction cache, or joins it, good (R448). -/
def CoreBlock.useLine (c : CoreBlock) (l : Nat) : CoreBlock :=
  { c with icache := fillCache c.icache l, icacheParity := c.icacheParity.filter (· != l) }

/-- The line joins the instruction cache, unless a half of it is lost (R448, R449). -/
def State.cacheFill (s : State) (line : Nat) (lost : Bool) : State :=
  { s with core := if lost then { s.core with icache := s.core.icache.filter (· != line) } else s.core.useLine line }

/-- An instruction-cache miss from flash: the unit that holds the fetch address, the other half of the line, and the next sequential unit are read
in this order; the latency is that of the first (R449). A line with an uncorrectable half is not cached. `ahead` is a fetch in run-ahead, which
reports no correction (R461). -/
def State.fetchMiss (s : State) (a : Nat) (ahead : Bool) : Nat × State :=
  let line := cacheLine a
  let u := unitOf a
  let other := if u % 32 = 0 then u + 16 else u - 16
  let (n, s1) := s.readUnit u []
  let s2 := if ahead then s1 else (s1.useFlash u).2
  let s3 := (s2.readUnit other []).2
  let s4 := if 0x08100000 ≤ line + 32 || s3.flash.busyAt (line + 32) then s3 else (s3.readUnit (line + 32) []).2
  (n, s4.cacheFill line (s.integ.uncorrUnits.contains other))

/-- The line of an address is used in the instruction cache, or joins it. -/
def State.useCache (s : State) (a : Nat) : State := { s with core := s.core.useLine (cacheLine a) }

/-- Cycles until a unit that is on its way can be fetched from (R449). -/
def CoreBlock.fetchWait (c : CoreBlock) (u : Nat) : Nat :=
  match c.flashBuf.find? (·.unit == u) with
  | some l => l.left - 2
  | none => 0

/-- The fetch of a word that raises nothing: its extra cycles, and the caches after it (R448, R449, R452, R606, R608). A fetch takes two cycles
less than a load of the same unit: 3 + W and 1 against 5 + W and 2 (R441, R452). -/
def State.fetched (s : State) (a : Nat) (ahead : Bool) : Nat × State :=
  match regionOf a with
  | .rom => (if s.core.cached a then 0 else 1, s.useCache a)
  | .flash =>
    if s.core.cached a then (s.core.fetchWait (unitOf a), s.useCache a)
    else
      let (n, s1) := s.fetchMiss a ahead
      (max 1 (n - 2), s1)
  | _ => (0, if ahead then s else s.ramReport a)

end Sys2Proof.Machine
end

