-- ==== Sys2Proof/Machine/Access.lean ====
section
/-!
DEFINITION. Register accesses of the core as commands of their own: a write that reaches the register's owner or its way to it, and a
read whose side effect the spec names (00_scope.md 3; 01_architecture.md 2.4; 14; 15; 22).
-/
namespace Sys2Proof.Machine

/-- The core writes a 32-bit I/O register in this cycle of the drip (R8 to R18, R31). -/
def State.coreWrite (s : State) (phase : Fin 8000) (a : Nat) (v : Word) : State :=
  whenDo (s.coreRuns && isIo a && s.ioExists a && a % 4 == 0) s ((s.atPhase phase).ioWrite a v)

/-- The core reads a 32-bit I/O register into `rt` in this cycle of the drip, with the effects of the read: older loads complete and the store
buffer empties first (R11, R31, R441, R446, R467). -/
def State.coreRead (s : State) (phase : Nat) (a : Nat) (rt : GReg) : State :=
  if s.coreRuns then
    match (s.atPhase phase).settle.drainStores.ioRead a with
    | some (v, s1) => (s1.result rt v (if a / 0x10000 = 0xE000 then 2 else 4)).tick 1
    | none => s
  else s

/-- REGISTER_WRITE (R8). -/
def execRegisterWrite (addr value : Word) (phase : Fin 8000) (s : State) : Out := ok (s.coreWrite phase addr.toNat value)

/-- CAUSE_CLEAR: a write of `mask` to CAUSE_g (R862). -/
def execCauseClear (g : Fin 15) (mask : Word) (phase : Fin 8000) (s : State) : Out :=
  ok (whenDo s.coreRuns s ((s.atPhase phase).causeClear g mask))

/-- CS_CMASK: a write of CS_CMASKg (R860). -/
def execCsCmask (g : Fin 15) (value : Word) (s : State) : Out := ok (whenDo s.coreRuns s (s.setCmask g value))

/-- LK_RXQ: a read takes the head of the receive queue (R262) (DESIGN CHOICE, assumption 33). -/
def execLkRxq (rt : GReg) (phase : Fin 8000) (s : State) : Out := ok (s.coreRead phase 0x50000040 rt)

/-- RC_FIELD_READ: a read of a register with an RC field clears what it returned (R11, R900) (DESIGN CHOICE, assumption 33). -/
def execRcFieldRead (rt : GReg) (addr : Word) (phase : Fin 8000) (s : State) : Out :=
  ok (if (rcFields addr.toNat).isEmpty then s else s.coreRead phase addr.toNat rt)

/-- AD_DATA_READ and GP_TRNG_DATA (R592, R596) (DESIGN CHOICE, assumption 33). -/
def execAdDataRead (rt : GReg) (s : State) : Out := ok (s.coreRead 0 0x40004008 rt)
def execGpTrngData (rt : GReg) (s : State) : Out := ok (s.coreRead 0 0x40005008 rt)

/-- LINE_WINDOW_READ: a read of the last word of a line through the line window, which verifies the line (R628) (DESIGN CHOICE, assumption 33). -/
def execLineWindowRead (rt : GReg) (line : Fin 128) (s : State) : Out :=
  ok (if s.coreRuns then
      match s.settle.loadAt (0x30010000 + 128 * line.val + 0x7C) 4 with
      | .value v n s1 => (s1.result rt v n).tick 1
      | _ => s
    else s)

end Sys2Proof.Machine
end

