-- ==== Sys2Proof/Machine/Exceptions.lean ====
section
/-!
DEFINITION. Exceptions and interrupts of the core: which request can be taken, the one entry, and the return (10_core_execution.md 4, 5).
-/
namespace Sys2Proof.Machine

/-- An asynchronous request: its code and its level (R471). -/
structure AsyncReq where
  code : BitVec 5
  level : Nat
  deriving DecidableEq, Repr

/-- The requests, in the order in which the core prefers them (R477). -/
def asyncOrder : List AsyncReq := [⟨0x0E, 4⟩, ⟨0x0D, 3⟩, ⟨0x0A, 2⟩, ⟨0x0C, 2⟩, ⟨0x0B, 1⟩]

/-- A request is there (R474, R476). -/
def State.requested (s : State) (r : AsyncReq) : Bool := if r.code = xDrip then s.core.dripPend else s.cause.levelRequested r.level

/-- The request that the core would take now (R477). -/
def State.takeable (s : State) : Option AsyncReq :=
  if !s.core.ie || s.core.csd != 0 then none
  else asyncOrder.find? fun r => decide (s.core.ipl.toNat < r.level) && s.requested r

/-- CP_CAUSE at an entry (R489). -/
def causeWord (x : Exc) (level : Option Nat) (nest doze ra : Bool) : Word :=
  fld 0 x.code ||| (match level with | some l => nfld 8 (l - 1) | none => 0) ||| flag 12 x.fetch ||| flag 13 x.store |||
    flag 16 doze ||| flag 17 nest ||| flag 18 ra

/-- The registers of the core after an entry at `epc` (R404, R471, R478, R485). -/
def CoreBlock.entered (c : CoreBlock) (x : Exc) (level : Option Nat) (epc : Word) : CoreBlock :=
  { c with
    pie := c.ie, ie := false
    pipl := c.ipl, ipl := match level with | some l => BitVec.ofNat 3 l | none => c.ipl
    pcsd := c.csd, csd := 0
    insvc := true
    cause := causeWord x level c.insvc c.wokeDoze c.episode.isSome
    epc := epc &&& 0xFFFFFFFC#32
    badInst := x.badInst.getD c.badInst
    badAddr := x.badAddr.getD c.badAddr
    dripPend := c.dripPend && x.code != xDrip
    dripBusy := c.dripBusy || x.code == xDrip
    pc := c.vbase + BitVec.ofNat 32 (0x20 * x.code.toNat)
    wokeDoze := false
    outs := []
    episode := none }

/-- Exception entry, the one operation for every exception and interrupt: DSP operations complete, the registers change, at most 12 cycles pass
before the handler issues, and a vector that cannot be fetched resets the device (R478, R480, R482, R505) (DESIGN CHOICE, assumption 18). -/
def State.enter (s : State) (x : Exc) (level : Option Nat) (epc : Word) : State :=
  let s1 := s.drainDsp
  let s2 := { s1 with core := s1.core.entered x level epc }
  if (s2.fetchFault s2.core.pc.toNat).isSome then s2.afterReset false .vector .crystal
  else
    let (k, s3) := s2.draw 13
    s3.tick k

/-- The oldest slow load or division in progress is abandoned, with all that issued after it (R425, R463, R472, R478). -/
def State.abandon (s : State) : State :=
  match s.core.outs with
  | [] => s
  | o :: _ =>
    let c := s.core
    { s with core := { c with
        g := o.back.g, sat := o.back.sat, dz := o.back.dz, pc := o.pc
        stores := c.stores.take (c.stores.length - o.younger)
        outs := [], late := [], divider := 0 } }.setDsp o.back.dsp

/-- The address of the first instruction not completed: the oldest slow load or division in progress, else the PC (R425, R463, R471). -/
def CoreBlock.firstOpen (c : CoreBlock) : Word :=
  match c.outs with
  | o :: _ => o.pc
  | [] => c.pc

/-- An asynchronous request is taken; slow loads, divisions and an episode are abandoned (R425, R463, R478). -/
def State.takeAsync (s : State) (r : AsyncReq) : State := s.abandon.enter { code := r.code } (some r.level) s.core.firstOpen

/-- A synchronous exception of the instruction at `pc`, unless an asynchronous request comes first (R477); older loads and divisions complete
before it (R906). `s` is the state with none of the instruction's effects on the core. -/
def State.raiseSync (s : State) (pc : Word) (x : Exc) : State :=
  match s.takeable with
  | some r => s.takeAsync r
  | none => s.settle.enter x none (if x.after then pc + 4 else pc)

/-- BUSY clears at the return from IPL 2 to a lower level (R486). -/
def CoreBlock.leaveDrip (c : CoreBlock) : CoreBlock :=
  { c with dripBusy := c.dripBusy && !(c.ipl == 2 && decide (c.pipl.toNat < 2)) }

/-- The return from an exception (R435, R481, R486). -/
def CoreBlock.returned (c : CoreBlock) : CoreBlock :=
  let d := c.leaveDrip
  { d with ie := c.pie, ipl := c.pipl, csd := c.pcsd, insvc := false, pc := c.epc }

end Sys2Proof.Machine
end

