-- ==== Sys2Proof/Machine/Chain.lean ====
section
/-!
DEFINITION. The chain port: frames, addressing, the tagged queue, every operation and the host window (21_chain_port.md).

A command row is one transaction, from the falling to the rising edge of CH_CSN: `addr`, `tag` and `payload` are what the host sends
after the operation code that the row names, and `crc` the CRC-16 that follows, or `none` when CH_CSN rose before it.
-/
namespace Sys2Proof.Machine

/-- Response statuses (R818). -/
def rsOk : Byte := 0x00
def rsUnsupported : Byte := 0x01
def rsBadLen : Byte := 0x02
def rsBadArg : Byte := 0x03
def rsDenied : Byte := 0x04
def rsNotAssigned : Byte := 0x05
def rsDisabled : Byte := 0x06
def rsQueueFull : Byte := 0x07
def rsNoLine : Byte := 0x08
def rsNone : Byte := 0x09
def rsFault : Byte := 0x0A
def rsBadRecord : Byte := 0x0B

/-- How a transaction addresses the unit (R820). -/
inductive Addressed where
  | no
  | own
  /-- Address 0, taken while unassigned with CH_ENI high. -/
  | zero
  | broadcast
  deriving DecidableEq, Repr

def ChainBlock.addressed (c : ChainBlock) (a : BitVec 6) : Addressed :=
  if a = 63 then .broadcast
  else if a = 0 then (if c.addr = 0 && c.eni then .zero else .no)
  else if a = c.addr then .own else .no

/-- The chain port serves transactions (R119, R809, R810). -/
def State.chainServes (s : State) : Bool :=
  s.power.hold == .none && s.power.wake == .none &&
    (match s.power.mode with
    | .run | .listen | .service | .sump => true
    | _ => false)

/-- Commands outstanding (R827). -/
def ChainBlock.outstanding (c : ChainBlock) : Nat := (c.waiting.filter fun x => !x.broadcast).length + c.ready.length

/-- UPD of the status byte (R813). -/
def UpState.upd : UpState → BitVec 2
  | .idle => 0
  | .erasing => 1
  | .receiving => 1
  | .verifying => 1
  | .ready => 2
  | .activating => 3

/-- The status byte (R813). -/
def State.statusByte (s : State) : Byte :=
  let w := flag 7 s.cause.attnLow ||| flag 6 (decide (8 ≤ s.chain.outstanding)) ||| flag 5 (!s.chain.ready.isEmpty) |||
    flag 4 (s.power.mode == .sump) ||| fld 2 s.update.state.upd ||| 2
  w.extractLsb' 0 8

/-- CH_ENO while the unit runs (R821). -/
def State.followEni (s : State) : State := { s with chain.eno := s.chain.addr != 0 && s.chain.eni }

/-- The address changes (R822). -/
def State.setAddr (s : State) (a : BitVec 6) : State :=
  (({ s with chain.addr := a }).setLeafIf (s.chain.addr == 0 && a != 0) .chainAssigned).followEni

/-- The bytes that a command's CRC-16 covers (R811, R812). -/
def frameBytes (addr : BitVec 6) (op tag : Byte) (payload : List Byte) : List Byte :=
  let n := payload.length
  [(addr.setWidth 8) ||| (if 256 ≤ n then 0x80#8 else 0#8), op, tag, BitVec.ofNat 8 n] ++ payload

/-- The reason for which a frame is rejected (R812, R817) (DEDUCED, assumption 31). -/
def frameReason (addr : BitVec 6) (op tag : Byte) (payload : List Byte) (crc : Option (BitVec 16)) : Option Byte :=
  match crc with
  | none => some 5
  | some x =>
    if 260 < payload.length then some 4
    else if x = crc16 (frameBytes addr op tag payload) then none else some 1

/-- A rejection is counted (R817). -/
def State.chainReject (s : State) (why : Byte) : State :=
  let c := s.chain
  { s with chain := match why with
      | 1 => { c with errCrc := satInc c.errCrc }
      | 2 => { c with errQfull := satInc c.errQfull }
      | 3 => { c with errDup := satInc c.errDup }
      | _ => { c with errOther := satInc c.errOther } }.setLeaf .chainCmdErr

/-- What the unit drives in a transaction (R809). -/
def State.drive (s : State) (bs : List Byte) : State := { s with chain.answer := bs }

/-- A response frame; `poison` complements its CRC (R816, R632). -/
def respFrame (r : ChainResp) (poison : Bool) : List Byte :=
  let b := [r.tag, r.op, r.status] ++ leBytes 2 r.payload.length ++ r.payload ++ [if poison then 1#8 else 0#8]
  let c := if poison then ~~~(crc16 b) else crc16 b
  b ++ beBytes 2 c.toNat

/-- Whether the payload length agrees with the table and with an embedded count (R833, R843, R844). -/
def chainLenOk (op : Byte) (p : List Byte) : Bool :=
  let n := p.length
  let k := (byteAt p 2).toNat
  match op.toNat with
  | 0x01 => n == 2
  | 0x02 => n == 1
  | 0x03 => n == 0
  | 0x04 => n == 4
  | 0x05 => n == 4 + 4 * k
  | 0x06 => n == 8
  | 0x07 => n == 1
  | 0x10 => n == 4
  | 0x11 => n == 260
  | 0x12 => n == 4
  | 0x13 => n == 0
  | 0x20 => decide (19 ≤ n)
  | 0x21 => n == 1
  | 0x30 =>
    match (byteAt p 0).toNat with
    | 1 => decide (20 ≤ n)
    | 2 => n == 4
    | _ => n == 4 || decide (20 ≤ n)
  | 0x38 =>
    match (byteAt p 0).toNat with
    | 2 => n == 8 + 4 * (byteAt p 1).toNat
    | _ => n == 8
  | 0x3F => n == 2
  | _ => true

def chainListed : List Nat := [0x01, 0x02, 0x03, 0x04, 0x05, 0x06, 0x07, 0x10, 0x11, 0x12, 0x13, 0x20, 0x21, 0x30, 0x38, 0x3F]

/-- The status that decides an operation before it acts: NOT_ASSIGNED, UNSUPPORTED, BAD_LEN (R831 to R833). -/
def State.chainEarly (s : State) (how : Addressed) (op : Byte) (p : List Byte) : Option Byte :=
  let n := op.toNat
  if how = .zero && !([0x01, 0x02, 0x03, 0x04, 0x3F].contains n) then some rsNotAssigned
  else if !chainListed.contains n then some rsUnsupported
  else if s.chain.hostMajor != 1 && !([0x01, 0x02, 0x03, 0x06, 0x07, 0x10, 0x11, 0x12, 0x13].contains n) then some rsUnsupported
  else if !chainLenOk op p then some rsBadLen
  else none

/-- The host window (R846): registers of the data and control planes in the last transfer's view, those of the management plane live; LT_CAL reports the
value of the last transfer to every plane (R718). -/
def State.windowRead (s : State) (a : Nat) : Option Word :=
  let v := s.latchedView
  let live := s.refreshFs.toBlocks
  let c := s.chain
  let link : Nat → Option Word := v.readLink
  let lt : Nat → Option Word := live.readLantern
  let key : Nat → Option Word := v.key.read
  if a % 4 != 0 then none
  else if 0x40 ≤ a ∧ a < 0x7C then some (s.cause.view.getD ((a - 0x40) / 4) 0)
  else if 0x90 ≤ a ∧ a < 0xD0 then link (0x200 + (a - 0x90))
  else if 0x100 ≤ a ∧ a < 0x110 then lt (0xC10 + (a - 0x100))
  else if 0x110 ≤ a ∧ a < 0x120 then lt (0xC20 + (a - 0x110))
  else match a with
  | 0x000 => some (fld 16 (partCode s.key.orderable) ||| nfld 8 siliconMajor ||| nfld 0 siliconMinor)
  | 0x004 => some (wordAt s.eui 0)
  | 0x008 => some (wordAt s.eui 4)
  | 0x00C => some c.unit
  | 0x010 => some (fld 24 c.errCrc ||| fld 16 c.errQfull ||| fld 8 c.errDup ||| fld 0 c.errOther)
  | 0x014 => some (flag 2 s.debugLocked ||| flag 1 (s.power.mode == .sump && !s.debugLocked) ||| flag 0 c.dbgOpen)
  | 0x018 => some (nfld 16 c.outstanding ||| nfld 8 c.ready.length ||| nfld 0 c.takeQueue.length)
  | 0x020 => some s.cause.hostSummary
  | 0x024 => some s.cause.hostMask
  | 0x080 => some v.conduit.route
  | 0x084 => link 0x10
  | 0x088 => link 0x14
  | 0x08C => link 0x48
  | 0x0D0 => lt 0x800
  | 0x0D4 => lt 0x804
  | 0x0D8 => lt 0x80C
  | 0x0E0 => v.readLantern 0xB00
  | 0x0E4 => v.readLantern 0xB04
  | 0x0E8 => lt 0xB20
  | 0x0EC => lt 0xB28
  | 0x0F0 => lt 0xC00
  | 0x0F4 => lt 0xC04
  | 0x120 => lt 0xD10
  | 0x124 => lt 0xD14
  | 0x128 => lt 0xD18
  | 0x12C => lt 0xD20
  | 0x130 => lt 0xA00
  | 0x134 => lt 0xA08
  | 0x138 => lt 0xA0C
  | 0x13C => lt 0xA10
  | 0x140 => key 0x18
  | 0x144 => key 0x1C
  | 0x148 => key 0x20
  | 0x14C => key 0x24
  | 0x150 => key 0x28
  | 0x154 => some 0
  | 0x160 => link 0x500
  | 0x164 => link 0x41C
  | 0x168 => link 0x424
  | _ => none

/-- What a host read of a window register captures or clears (R11, R95, R735, R836). -/
def State.windowEffects (s : State) (a : Nat) : State :=
  match a with
  | 0x010 => { s with chain.errCrc := 0, chain.errQfull := 0, chain.errDup := 0, chain.errOther := 0 }
  | 0x084 => { s with drip.hiLatch := s.seen.drip.count.extractLsb' 32 16 }
  | 0x0E0 => { s with lantern.calHi := s.seen.lantern.calendar.extractLsb' 32 8 }
  | _ => s

/-- READ of `n` words: their values, whether one was unlisted, and the state (R836). -/
def State.windowWords (s : State) (a : Nat) : Nat → List Word × Bool × State
  | 0 => ([], false, s)
  | n + 1 =>
    let w := s.windowRead a
    let (ws, bad, s1) := (s.windowEffects a).windowWords (a + 4) n
    (w.getD 0 :: ws, bad || w.isNone, s1)

/-- The host clears leaves of a group at the coming transfer (R838, R863). -/
def State.hostClear (s : State) (g : Fin 15) (mask : Word) : State :=
  { s with cause.hostClear := s.cause.hostClear.set g (s.cause.hostClear[g] ||| (mask &&& leafMask g)) }

/-- A word of a WRITE; `none` at an address that is unlisted or read-only (R837, R846). -/
def State.windowWrite (s : State) (a : Nat) (v : Word) : Option State :=
  if h : 0x40 ≤ a ∧ a < 0x7C then (if a % 4 = 0 then some (s.hostClear ⟨(a - 0x40) / 4, by omega⟩ v) else none)
  else match a with
  | 0x024 => some { s with cause.hostMask := v &&& 0x7FFF }
  | 0x154 => some (if v == 1 then s.tkResume else s)
  | _ => none

/-- The words of a WRITE, and whether one was discarded. -/
def State.windowWrites (s : State) (a : Nat) : List Word → Bool × State
  | [] => (false, s)
  | w :: ws =>
    match s.windowWrite a w with
    | some t => t.windowWrites (a + 4) ws
    | none => (true, (s.windowWrites (a + 4) ws).2)

/-- A completed command's response enters the queue; a broadcast has none (R827, R828). -/
def State.complete_ (s : State) (c : ChainCommand) (status : Byte) (payload : List Byte) : State :=
  if c.broadcast then s
  else
    let r : ChainResp := { tag := c.tag, op := c.op, status := status, payload := payload }
    { s with chain.ready := s.chain.ready ++ [r] }.setLeaf .chainRespReady

/-- DEBUG is served (R844). -/
def State.debugOpen (s : State) : Bool := s.chain.dbgOpen || (s.power.mode == .sump && !s.debugLocked)

/-- MEM_READ: the words read, and whether all were (R844) (DEDUCED, assumption 32). -/
def State.debugWords (s : State) (a : Nat) : Nat → List Word × Bool × State
  | 0 => ([], true, s)
  | n + 1 =>
    match s.debugLoad a with
    | none => ([], false, s)
    | some (w, s1) =>
      let (ws, good, s2) := s1.debugWords (a + 4) n
      (w :: ws, good, s2)

/-- MEM_WRITE: how many words were written, and whether all were (DEDUCED, assumption 32). -/
def State.debugPuts (s : State) (a : Nat) : List Word → Nat × Bool × State
  | [] => (0, true, s)
  | w :: ws =>
    match s.debugStore a w with
    | none => (0, false, s)
    | some s1 =>
      let (n, good, s2) := s1.debugPuts (a + 4) ws
      (n + 1, good, s2)

/-- DEBUG (R844): status, response payload and state. -/
def State.chainDebug (s : State) (p : List Byte) : Byte × List Byte × State :=
  let n := (byteAt p 1).toNat
  let a := natAt p 4 4
  let sub := (byteAt p 0).toNat
  if !s.debugOpen then (rsDenied, [], s)
  else if n == 0 || decide (64 < n) || a % 4 != 0 || (sub != 1 && sub != 2) || (sub == 2 && decide (63 < n)) then (rsBadArg, [], s)
  else if sub = 1 then
    let (ws, good, s1) := s.debugWords a n
    if good then (rsOk, wordsToBytes ws, s1) else (rsFault, BitVec.ofNat 8 ws.length :: wordsToBytes ws, s1)
  else
    let (k, good, s1) := s.debugPuts a (bytesToWords n (p.drop 8))
    if good then (rsOk, [], s1) else (rsFault, [BitVec.ofNat 8 k], s1)

/-- The highest-numbered run of `k` consecutive FREE lines (R840). -/
def LinkBlock.freeRun (l : LinkBlock) (k : Nat) : Option (List Nat) :=
  ((List.range (129 - k)).reverse.find? fun n => (List.range k).all fun i => l.ownerOf (n + i) == .free).map fun n =>
    (List.range k).map (n + ·)

/-- The header of a FRAME_SEND takes its lines and its bytes are written into them (R819, R840): the lines, or the status that refuses. -/
def State.takeFrame (s : State) (p : List Byte) : Except Byte (List Nat) × State :=
  if !s.link.txEn then (.error rsDisabled, s)
  else
    match s.link.freeRun ((p.length - 8 + 127) / 128) with
    | none => (.error rsNoLine, s)
    | some ns => (.ok ns, (ns.foldl (fun s n => s.takeLine n .chain) s).writeLines ns 0 (p.drop 8))

/-- The descriptor of a FRAME_SEND (R840). -/
def State.sendDesc (s : State) (p : List Byte) (line : Nat) (tag : Byte) : Vector Word 8 :=
  let b0 := wordAt [byteAt p 0] 0
  let b1 := wordAt [byteAt p 1] 0
  let ch := BitVec.ofNat 32 (natAt p 2 2 % 4096)
  let delay := natAt p 4 2
  let start := s.drip.count.toNat + delay
  let w0 := 1#32 ||| fld 4 (bits b0 0 3) ||| flag 7 (delay == 0) ||| (ch <<< 8) ||| fld 20 (bits b1 0 3) ||| fld 24 (bits b0 3 4) |||
    fld 28 (bits b1 4 3)
  let w2 := BitVec.ofNat 32 (start / 2 ^ 32 % 65536) ||| nfld 16 (natAt p 6 2 % 8192)
  #v[w0, BitVec.ofNat 32 start, w2, nfld 0 line ||| nfld 8 (p.length - 18), 0, fld 0 tag, 0, 0]

/-- FRAME_SEND submits its job (R285, R840); the lowest-numbered FREE host slot takes it. -/
def State.sendFrame (s : State) (c : ChainCommand) : Option Byte × State :=
  match (List.finRange 16).find? fun n => s.link.hostRange n && (s.job n).state == .free with
  | none => (some rsQueueFull, s.setOwners c.lines .free)
  | some n =>
    let s1 := s.setJob n { desc := s.sendDesc c.payload (c.lines.headD 0) c.tag }
    (none, s1.acceptJob n true c.tag.toNat)

/-- The response of a finished FRAME_SEND (R840). -/
def HostDone.payload (d : HostDone) : List Byte :=
  [d.result.setWidth 8, BitVec.ofNat 8 d.attempts, if d.late then 1#8 else 0#8, 0#8] ++ leBytes 8 d.stamp.toNat

/-- The engine's command for an UPDATE operation (R839). -/
def ChainCommand.upCommand (c : ChainCommand) : UpCommand :=
  let p := c.payload
  let small : Byte → BitVec 2 := fun b => if b.toNat ≤ 3 then b.extractLsb' 0 2 else 3
  let base : UpCommand := { owner := .host, cmd := 0, tag := c.tag.toNat }
  match c.op.toNat with
  | 0x10 => { base with cmd := 1, kind := small (byteAt p 0), slot := small (byteAt p 1), service := (byteAt p 2).getLsbD 0 }
  | 0x11 => { base with cmd := 2, offset := wordAt p 0, crc := crc32 (p.take 260), data := (p.drop 4).take 256 }
  | 0x12 => { base with cmd := if (byteAt p 0).getLsbD 0 then 5 else 3 }
  | _ => { base with cmd := 4 }

/-- The response of a finished UPDATE operation (R839). -/
def State.upPayload (s : State) (status : Byte) : List Byte :=
  let u := s.update
  [status, u.state.code.setWidth 8, BitVec.ofNat 8 u.target, u.verdict] ++ wordBytes u.miss

/-- LANTERN RESULT (R843). -/
def Mailbox.resultBytes (m : Mailbox) : List Byte :=
  let a := m.area.getD {}
  [if m.area.isSome then 1#8 else 0#8, a.tag, a.req, a.status] ++ wordsToBytes a.rv.toList ++ padTo 256 a.out

/-- The moments at which the queue is looked at: at an acceptance, at a transfer before the owners act, and after they have (R828). -/
inductive ChainPass where
  | now
  | deliver
  | settle
  deriving DecidableEq, Repr

/-- A command of the UPDATE stream (R779, R839): the state, and the command if it stays. -/
def State.passUpdate (s : State) (w : ChainPass) (c : ChainCommand) : State × Option ChainCommand :=
  match c.stage, w with
  | .accepted, .deliver =>
    if c.late || (c.op == 0x11 && decide (2 ≤ s.update.buffers)) then (s, some c)
    else ({ s with update.queue := s.update.queue ++ [c.upCommand] }, some { c with stage := .running })
  | .running, .settle =>
    match s.update.hostDone.find? fun d => d.tag == c.tag.toNat with
    | some d => (({ s with update.hostDone := s.update.hostDone.erase d }).complete_ c rsOk (s.upPayload d.status), none)
    | none => (s, some c)
  | _, _ => (s, some c)

/-- A command of the LANTERN stream (R843). -/
def State.passLantern (s : State) (w : ChainPass) (c : ChainCommand) : State × Option ChainCommand :=
  let p := c.payload
  let m := s.lantern.host
  match (byteAt p 0).toNat with
  | 1 =>
    match c.stage, w with
    | .accepted, .deliver =>
      if c.late then (s, some c)
      else
        ({ s with lantern.host := { m with
            tag := byteAt p 2, req := byteAt p 1, go := true
            arg := Vector.ofFn fun (i : Fin 4) => wordAt p (4 + 4 * i.val)
            input := Vector.ofFn fun (i : Fin 64) => wordAt p (20 + 4 * i.val) } }, some { c with stage := .running })
    | .running, .settle => (s.complete_ c rsOk [m.outcome.setWidth 8, BitVec.ofNat 8 s.lantern.queue.length], none)
    | _, _ => (s, some c)
  | 2 =>
    let s1 := s.complete_ c rsOk m.resultBytes
    if (byteAt p 1).getLsbD 0 then
      (if s.isLate then { s1 with lantern.host.releaseLate := true } else { s1 with lantern.host.release := true }, none)
    else (s1, none)
  | _ => (s.complete_ c rsBadArg [], none)

/-- A command of the GENERAL stream (R837, R838, R840, R844). -/
def State.passGeneral (s : State) (w : ChainPass) (c : ChainCommand) : State × Option ChainCommand :=
  let p := c.payload
  match c.op.toNat with
  | 0x05 =>
    let a := natAt p 0 2
    let n := (byteAt p 2).toNat
    if a % 4 != 0 || n == 0 || decide (64 < n) then (s.complete_ c rsBadArg [], none)
    else if w != .deliver || c.late then (s, some c)
    else
      let (bad, s1) := s.windowWrites a (bytesToWords n (p.drop 4))
      (s1.complete_ c (if bad then rsFault else rsOk) [], none)
  | 0x06 =>
    let g := (byteAt p 0).toNat
    if 15 ≤ g ∧ g ≠ 0xFF then (s.complete_ c rsBadArg [], none)
    else if w != .deliver || c.late then (s, some c)
    else
      let s1 := (List.finRange 15).foldl (fun s (i : Fin 15) => if g = 0xFF ∨ g = i.val then s.hostClear i (wordAt p 4) else s) s
      (s1.complete_ c rsOk [], none)
  | 0x20 =>
    match c.stage with
    | .accepted =>
      match s.sendFrame c with
      | (some st, s1) => (s1.complete_ c st [], none)
      | (none, s1) => (s1, some { c with stage := .running })
    | .running =>
      match w, s.chain.hostDone.find? fun d => d.tag == c.tag.toNat with
      | .settle, some d => (({ s with chain.hostDone := s.chain.hostDone.erase d }).complete_ c rsOk d.payload, none)
      | _, _ => (s, some c)
  | _ =>
    let (st, bs, s1) := s.chainDebug p
    (s1.complete_ c st bs, none)

/-- The stream of an operation (R828). -/
def chainStream (op : Byte) : Fin 3 :=
  if 0x10#8 ≤ op ∧ op ≤ 0x13#8 then 0 else if op = 0x30 then 1 else 2

/-- A command holds back the later ones of its stream until it has taken effect (R828). -/
def ChainCommand.holds (c : ChainCommand) : Bool := c.stage == ChainStage.accepted || c.op == 0x30

/-- One look at every waiting command, in order of acceptance; `held` names the streams whose turn is taken. -/
def State.passAll (w : ChainPass) : List ChainCommand → (held : Fin 3 → Bool) → State → List ChainCommand × State
  | [], _, s => ([], s)
  | c :: cs, held, s =>
    let k := chainStream c.op
    let (s1, kept) :=
      match c.early with
      | some st => (s.complete_ c st [], none)
      | none =>
        if held k && c.stage == ChainStage.accepted then (s, some c)
        else if k = 0 then s.passUpdate w c
        else if k = 1 then s.passLantern w c
        else s.passGeneral w c
    let held1 := fun i => held i || (i == k && (kept.map ChainCommand.holds).getD false)
    let (rest, s2) := State.passAll w cs held1 s1
    (kept.toList ++ rest, s2)

/-- One look at the queue (R828). -/
def State.chainPass (s : State) (w : ChainPass) : State :=
  let (rest, s1) := State.passAll w s.chain.waiting (fun _ => false) s
  { s1 with chain.waiting := rest }

/-- A queued command that R827 allows is accepted. -/
def State.acceptChain (s : State) (c : ChainCommand) : State :=
  let c1 : ChainCommand := { c with late := s.isLate }
  ({ s with chain.waiting := s.chain.waiting ++ [c1] }).chainPass .now

/-- The tags that R827 and R829 keep in use: those of outstanding commands and of the response last returned. -/
def ChainBlock.tagUsed (c : ChainBlock) (tag : Byte) : Bool :=
  (c.waiting.any fun x => !x.broadcast && x.tag == tag) || (c.ready.any fun x => x.tag == tag) || (c.last.any fun x => x.tag == tag)

/-- Why a good queued command is rejected (R827). -/
def ChainBlock.queueReason (c : ChainBlock) (tag : Byte) : Option Byte :=
  if 8 ≤ c.outstanding then some 2 else if c.tagUsed tag then some 3 else none

/-- The operations that a broadcast carries (R833). -/
def chainAt63 (op : Byte) : Bool := [0x01, 0x02, 0x05, 0x06, 0x3F].contains op.toNat

/-- RESET_UNIT (R831, R845). -/
def State.resetUnit (s : State) (p : List Byte) : State :=
  if s.chain.hostMajor != 1 then s
  else if p = [0xC3#8, 0x5A#8] then s.afterReset false .resetUnit .crystal
  else { s with chain.errOther := satInc s.chain.errOther }

/-- A queued command with a good frame (R815, R827). -/
def State.queueChain (s : State) (how : Addressed) (op tag : Byte) (p : List Byte) : State :=
  if how = .broadcast && !chainAt63 op then s
  else
    match s.chain.queueReason tag with
    | some why => s.chainReject why
    | none =>
      if op = 0x3F then s.resetUnit p
      else
        let c : ChainCommand := { op := op, tag := tag, payload := p, broadcast := how = .broadcast, early := s.chainEarly how op p }
        if op = 0x20 && c.early.isNone then
          match s.takeFrame p with
          | (.error st, s1) => s1.acceptChain { c with early := some st }
          | (.ok ns, s1) => s1.acceptChain { c with lines := ns }
        else s.acceptChain c

/-- A FRAME_SEND whose CRC fails: the lines it took are freed (R819). -/
def State.dropFrameSend (s : State) (how : Addressed) (op : Byte) (p : List Byte) : State :=
  if op = 0x20 && how = .own && (s.chainEarly how op p).isNone && s.chain.outstanding < 8 then
    match s.takeFrame p with
    | (.ok ns, s1) => s1.setOwners ns .free
    | _ => s
  else s

/-- CH_CSN falls: the CHAIN wake source, outside HIBERNATE (R133, R135). -/
def State.csnFalls (s : State) : State := s.noteWakeIf (s.power.mode != .hibernate) 0x10

/-- A transaction that carries a queued operation (R815). -/
def State.queued (s00 : State) (op : Byte) (addr : BitVec 6) (tag : Byte) (p : List Byte) (crc : Option (BitVec 16)) : State :=
  let s0 := s00.csnFalls
  let how := s0.chain.addressed addr
  if !s0.chainServes || how = .no then s0.drive []
  else
    let s := s0.drive (if how = .broadcast then [] else [s0.statusByte])
    match frameReason addr op tag p crc with
    | some 1 => (s.dropFrameSend how op p).chainReject 1
    | some why => s.chainReject why
    | none => s.queueChain how op tag p

/-- A transaction that carries an immediate operation: `act` gives the response and whether it is poisoned (R814). -/
def State.immediate (s00 : State) (op : Byte) (addr : BitVec 6) (tag : Byte) (p : List Byte) (crc : Option (BitVec 16))
    (onAll : State → State) (act : Addressed → State → ChainResp × Bool × State) : State :=
  let s0 := s00.csnFalls
  let how := s0.chain.addressed addr
  if !s0.chainServes || how = .no then s0.drive []
  else if how = .broadcast then
    let s := s0.drive []
    match frameReason addr op tag p crc with
    | some why => s.chainReject why
    | none => if chainAt63 op && chainLenOk op p then onAll s else s
  else
    let st := s0.statusByte
    match frameReason addr op tag p crc with
    | some 5 => (s0.drive [st]).chainReject 5
    | some why => (s0.drive [st, 0xE1#8, why]).chainReject why
    | none =>
      match s0.chainEarly how op p with
      | some e => s0.drive (st :: 0xA5#8 :: respFrame { tag := tag, op := op, status := e, payload := [] } false)
      | none =>
        let (r, poison, s1) := act how s0
        s1.drive (st :: 0xA5#8 :: respFrame r poison)

/-- The 16 bytes of the HELLO and ASSIGN answers (R834). -/
def State.identBytes (s : State) (b6 b7 : Byte) : List Byte :=
  leBytes 2 (partCode s.key.orderable).toNat ++ [BitVec.ofNat 8 siliconMajor, BitVec.ofNat 8 siliconMinor, 1#8, 0#8, b6, b7] ++ s.eui

/-- HELLO (R830, R834). -/
def State.hello (s : State) (p : List Byte) : State := { s with chain.hostMajor := byteAt p 0, chain.hostMinor := byteAt p 1 }

def execHello (addr : BitVec 6) (tag : Byte) (payload : List Byte) (crc : Option (BitVec 16)) (phase : Fin 8000) (s : State) : Out :=
  ok ((s.atPhase phase).immediate 0x01 addr tag payload crc (fun s => s.hello payload) fun _ s =>
    ({ tag := tag, op := 0x01, status := rsOk, payload := s.identBytes (s.chain.addr.setWidth 8) s.statusByte }, false, s.hello payload))

/-- ASSIGN (R822, R834). -/
def execAssign (addr : BitVec 6) (tag : Byte) (payload : List Byte) (crc : Option (BitVec 16)) (phase : Fin 8000) (s : State) : Out :=
  let n := byteAt payload 0
  ok ((s.atPhase phase).immediate 0x02 addr tag payload crc (fun s => if n == 0 then s.setAddr 0 else s) fun how s =>
    if n.toNat ≤ 31 ∧ (n ≠ 0 ∨ how = .own) then
      ({ tag := tag, op := 0x02, status := rsOk, payload := s.identBytes n (s.lantern.cause.code.setWidth 8) }, false,
        s.setAddr (n.extractLsb' 0 6))
    else ({ tag := tag, op := 0x02, status := rsBadArg, payload := [] }, false, s))

/-- SUMMARY (R835). -/
def execSummary (addr : BitVec 6) (tag : Byte) (payload : List Byte) (crc : Option (BitVec 16)) (phase : Fin 8000) (s : State) : Out :=
  ok ((s.atPhase phase).immediate 0x03 addr tag payload crc (fun s => s) fun _ s =>
    ({ tag := tag, op := 0x03, status := rsOk
       payload := wordBytes s.cause.hostSummary ++ wordsToBytes s.cause.view.toList ++ leBytes 4 0 }, false, s))

/-- READ (R836). -/
def execRead (addr : BitVec 6) (tag : Byte) (payload : List Byte) (crc : Option (BitVec 16)) (phase : Fin 8000) (s : State) : Out :=
  let a := natAt payload 0 2
  let n := (byteAt payload 2).toNat
  ok ((s.atPhase phase).immediate 0x04 addr tag payload crc (fun s => s) fun _ s =>
    if a % 4 != 0 || n == 0 || decide (64 < n) then ({ tag := tag, op := 0x04, status := rsBadArg, payload := [] }, false, s)
    else
      let (ws, bad, s1) := s.windowWords a n
      ({ tag := tag, op := 0x04, status := if bad then rsFault else rsOk, payload := wordsToBytes ws }, false, s1))

/-- FETCH (R829). -/
def State.fetchResp (s : State) (again : Bool) (tag : Byte) : ChainResp × State :=
  let c := s.chain
  let none_ : ChainResp := { tag := tag, op := 0x07, status := rsNone, payload := [BitVec.ofNat 8 c.outstanding] }
  if again then (c.last.getD none_, s)
  else
    match c.ready with
    | [] => (none_, { s with chain.last := none })
    | r :: rs => (r, { s with chain.last := some r, chain.ready := rs })

def execFetch (addr : BitVec 6) (tag : Byte) (payload : List Byte) (crc : Option (BitVec 16)) (phase : Fin 8000) (s : State) : Out :=
  ok ((s.atPhase phase).immediate 0x07 addr tag payload crc (fun s => s) fun _ s =>
    let (r, s1) := s.fetchResp ((byteAt payload 0).getLsbD 0) tag
    (r, false, s1))

/-- The bytes of the frame last taken, and whether a line check failed on the way (R632, R842). -/
def State.sendTaken (s : State) (tag : Byte) : ChainResp × Bool × State :=
  let c := s.chain
  let used := c.taken.take ((c.takenLen + 127) / 128)
  let poison := used.any fun n => !s.lineGood n
  ({ tag := tag, op := 0x21, status := rsOk, payload := s.readLines c.taken 0 c.takenLen }, poison, s.setLeafIf poison .chainPoisonSent)

/-- The lines of the last taken frame return to FREE (R842). -/
def State.freeTaken (s : State) : State := { s.setOwners s.chain.taken .free with chain.taken := [], chain.takenLen := 0 }

/-- Take the head of the take queue (R842). -/
def State.takeHead (s : State) (tag : Byte) : ChainResp × Bool × State :=
  let bare : Byte → ChainResp := fun st => { tag := tag, op := 0x21, status := st, payload := [] }
  match s.chain.takeQueue with
  | [] => (bare rsNone, false, s)
  | head :: rest =>
    let rec0 := s.lineBytes head
    let b := natAt rec0 26 2
    let lines := head :: (([byteAt rec0 24, byteAt rec0 25].filter (· != 0xFF)).map (·.toNat))
    let s1 := { s with chain.takeQueue := rest }
    if decide (277 < b) || (lines.any fun n => decide (127 < n) || s.link.ownerOf n != .chain) || decide (128 * lines.length < 32 + b) then
      (bare rsBadRecord, false, s1.setOwners (lines.filter fun n => s.link.ownerOf n == .chain) .free)
    else ({ s1 with chain.taken := lines, chain.takenLen := 32 + b }).sendTaken tag

/-- FRAME_TAKE (R842). -/
def execFrameTake (addr : BitVec 6) (tag : Byte) (payload : List Byte) (crc : Option (BitVec 16)) (phase : Fin 8000) (s : State) : Out :=
  let f := byteAt payload 0
  ok ((s.atPhase phase).immediate 0x21 addr tag payload crc (fun s => s) fun _ s =>
    let bare : Byte → ChainResp := fun st => { tag := tag, op := 0x21, status := st, payload := [] }
    if f.getLsbD 0 then (if s.chain.taken.isEmpty then (bare rsNone, false, s) else s.sendTaken tag)
    else if f.getLsbD 1 then (bare rsOk, false, s.freeTaken)
    else s.freeTaken.takeHead tag)

/-- WRITE, CLEAR and the operations of the other streams are queued (R815). -/
def execWrite (addr : BitVec 6) (tag : Byte) (payload : List Byte) (crc : Option (BitVec 16)) (phase : Fin 8000) (s : State) : Out :=
  ok ((s.atPhase phase).queued 0x05 addr tag payload crc)
def execClear (addr : BitVec 6) (tag : Byte) (payload : List Byte) (crc : Option (BitVec 16)) (phase : Fin 8000) (s : State) : Out :=
  ok ((s.atPhase phase).queued 0x06 addr tag payload crc)
def execUpdateOpen (addr : BitVec 6) (tag : Byte) (payload : List Byte) (crc : Option (BitVec 16)) (phase : Fin 8000) (s : State) : Out :=
  ok ((s.atPhase phase).queued 0x10 addr tag payload crc)
def execUpdateBlock (addr : BitVec 6) (tag : Byte) (payload : List Byte) (crc : Option (BitVec 16)) (phase : Fin 8000) (s : State) : Out :=
  ok ((s.atPhase phase).queued 0x11 addr tag payload crc)
def execUpdateClose (addr : BitVec 6) (tag : Byte) (payload : List Byte) (crc : Option (BitVec 16)) (phase : Fin 8000) (s : State) : Out :=
  ok ((s.atPhase phase).queued 0x12 addr tag payload crc)
def execUpdateActivate (addr : BitVec 6) (tag : Byte) (payload : List Byte) (crc : Option (BitVec 16)) (phase : Fin 8000) (s : State) : Out :=
  ok ((s.atPhase phase).queued 0x13 addr tag payload crc)
def execFrameSend (addr : BitVec 6) (tag : Byte) (payload : List Byte) (crc : Option (BitVec 16)) (phase : Fin 8000) (s : State) : Out :=
  ok ((s.atPhase phase).queued 0x20 addr tag payload crc)
def execResetUnit (addr : BitVec 6) (tag : Byte) (payload : List Byte) (crc : Option (BitVec 16)) (phase : Fin 8000) (s : State) : Out :=
  ok ((s.atPhase phase).queued 0x3F addr tag payload crc)

/-- LANTERN SUBMIT and RESULT, MEM_READ and MEM_WRITE: the payload after the sub-operation that the row names (R843, R844). -/
def execLanternSubmit (addr : BitVec 6) (tag : Byte) (payload : List Byte) (crc : Option (BitVec 16)) (phase : Fin 8000) (s : State) : Out :=
  ok ((s.atPhase phase).queued 0x30 addr tag (0x01#8 :: payload) crc)
def execLanternResult (addr : BitVec 6) (tag : Byte) (payload : List Byte) (crc : Option (BitVec 16)) (phase : Fin 8000) (s : State) : Out :=
  ok ((s.atPhase phase).queued 0x30 addr tag (0x02#8 :: payload) crc)
def execMemRead (addr : BitVec 6) (tag : Byte) (payload : List Byte) (crc : Option (BitVec 16)) (phase : Fin 8000) (s : State) : Out :=
  ok ((s.atPhase phase).queued 0x38 addr tag (0x01#8 :: payload) crc)
def execMemWrite (addr : BitVec 6) (tag : Byte) (payload : List Byte) (crc : Option (BitVec 16)) (phase : Fin 8000) (s : State) : Out :=
  ok ((s.atPhase phase).queued 0x38 addr tag (0x02#8 :: payload) crc)

/-- UNSUPPORTED_OP: an operation code that R833 does not list (R832), or a sub-operation of LANTERN or DEBUG that R843 and R844 do not;
`payload` is then the whole payload. -/
def execUnsupportedOp (op : Byte) (addr : BitVec 6) (tag : Byte) (payload : List Byte) (crc : Option (BitVec 16)) (phase : Fin 8000) (s : State) : Out :=
  ok (whenDo (!chainListed.contains op.toNat || op == 0x30 || op == 0x38) s ((s.atPhase phase).queued op addr tag payload crc))

/-- ENUM_ENABLE_CHANGE: CH_ENI goes to `level`; in SLEEP and DEEP CH_ENO holds, in HIBERNATE and in reset it is low (R821, R150, R151). -/
def execEnumEnableChange (level : Bool) (s : State) : Out :=
  let s1 := { s with chain.eni := level }
  ok (if s.chainServes then s1.followEni else s1)

/-- CH_DBGCTL: a core write, delivered at the next transfer (R848). -/
def execChDbgctl (value : Word) (phase : Fin 8000) (s : State) : Out :=
  ok (whenDo s.coreRuns s ((s.atPhase phase).coreWriteFar 0x60000F00 value))

end Sys2Proof.Machine
end

