-- ==== Sys2Proof/Machine/Reload.lean ====
section
/-!
DEFINITION. The reload of the link image at edge V, and what activation shares with it (05; 06, 8; 20_update.md 5).
-/
namespace Sys2Proof.Machine

/-- Confirmation of a trial is pending for 60 power-on seconds (R753, R787, R790). -/
def State.beginTrial (s : State) : State :=
  { s with lantern.confirmPending := true, lantern.confirmLeft := 60, boot.trial := true }.setLeaf .updateActivated

/-- The ACTIVATE in progress ends with a status. -/
def State.endActivate (s : State) (st : Byte) : State :=
  match s.update.open_ with
  | some c => s.upDone c st
  | none => s

/-- No transmission or turnaround, no pending ACK, no ACK window (R789). -/
def State.quietEdge (s : State) : Bool :=
  s.radio.use == .receive && s.link.pendingAck.isNone && s.link.windows.isEmpty

/-- Edge V: both lanes and the link sequencer stop, frames in reception are lost, and the 60 seconds of the confirmation begin (R284, R790). The
reload takes the 16 drips that the rules allow (DESIGN CHOICE, assumption 35). -/
def State.reloadLink (s : State) : State :=
  let s1 := { s.stopLanes s.linearNow false with radio.use := .reload, link.reloadEdge := some (s.drip.count + 16), lantern.confirmLeft := 60 }
  s1.refreshSynth

/-- The new image's generation differs from its IFGEN: the target is rejected, and the session fails (R791). -/
def State.rejectLink (s : State) : State :=
  let t := s.update.target
  let settled := { s.bootRecord with trial := false }.reject t (s.image t).identity
  let s1 := (s.saveRecord settled).2
  { s1 with boot.verdict := s1.boot.verdict.set t vdGenMismatch }.failSession upGenMismatch

/-- The lanes restart after a reload; jobs that became due in it start late (R284, R790). -/
def State.reloadDone (s : State) : State := { s with radio.use := .receive, link.reloadEdge := none }.applyLanes true

/-- The new link image runs and is on trial (R790). -/
def State.linkActivated (s : State) : State :=
  let t := s.update.target
  let left := s.lantern.confirmLeft
  let s1 := { s with boot := { s.boot with
    linkB := t == 3
    paired := Vector.ofFn fun (k : Fin 4) => k == t || k == s.boot.appSlot } }
  let s2 := { s1.beginTrial with lantern.confirmLeft := left }
  (s2.endActivate upOk).endSession

/-- The edge at which a reload ends: LK_UCODE reports the image; one of a wrong generation is followed by a second reload, of the image that ran
(R284, R790, R791). -/
def State.reloadEdge (s : State) : State :=
  match s.link.reloadEdge with
  | none => s
  | some v =>
    if s.drip.count < v then s
    else if s.update.activation == .link then
      let n := s.image s.update.target
      let s1 := s.loadUcode n
      if s1.link.ucodeGen.toNat != n.ifgen then { s1.rejectLink with link.reloadEdge := some (v + 16) }
      else s1.linkActivated.reloadDone
    else (s.loadUcode (s.image s.boot.linkSlot)).reloadDone

end Sys2Proof.Machine
end

