-- ==== Sys2Proof/Machine/Transfer.lean ====
section
/-!
DEFINITION. The drip edge: commit phase, transfer, delivery to the core, and the resolution of a mode request (01_architecture.md 2.2 to 2.6;
02_drip.md 1, 5; 03_power_clocks_modes.md 4.2).
-/
namespace Sys2Proof.Machine

/-- The drip records close: each event count is added to its lifetime counter (R36, R37, R727, R901). -/
def State.closeRecords (s : State) : State :=
  let l := s.link
  let k := s.key
  let s1 := (((s.lifeAdd 10 l.evSent).lifeAdd 11 l.evGood).lifeAdd 12 l.evAcks).lifeAdd 13 l.evRelays
  let s2 := (s1.lifeAdd 14 k.evGrants).lifeAdd 15 k.evReleases
  { s2 with
    link.evSent := 0, link.evGood := 0, link.evAcks := 0, link.evRelays := 0
    key.evGrants := 0, key.evReleases := 0 }

/-- The device as the transfer's capture knows it: the blocks outside the LCLK domain as they stood at cycle 7,967 (R63). -/
def State.captured (s : State) : State :=
  match s.crossing with
  | none => s
  | some c =>
    let pick : Vector Word 15 → Vector Word 15 → Vector Word 15 := fun now cap =>
      Vector.ofFn fun g => if groupIsLclk g then now[g] else cap[g]
    { s with
      power := c.power, integ := c.integ, chain := c.chain, key := c.key, conduit := c.conduit, periph := c.periph
      flash := c.flash, lantern := c.lantern, boot := c.boot, update := c.update
      cause := { s.cause with leaf := pick s.cause.leaf c.cause.leaf, fresh := pick s.cause.fresh c.cause.fresh } }

/-- The commit phase: the Keyholder engine commits what it had finished by cycle 7,967, outside SUMP, and every plane closes its record (R25, R62,
R80, R331). -/
def State.commitPhase (s : State) : State :=
  let commit : State → State := fun x => if x.power.mode == .sump then x else x.keyCommit x.releaseGate
  let s1 := { s.settleTx (linear s.drip.count 8000) with drip.phase := min s.drip.phase 7967 }
  let s2 := commit s1
  let cap := s.crossing.map fun _ => (commit { s1.captured with crossing := none }).toBlocks
  { s2 with crossing := cap }.closeRecords

/-- The drip count goes up by 1, holding at its end, and the phase restarts (R59, R64, R65). -/
def DripBlock.next (d : DripBlock) : DripBlock :=
  { d with count := satInc d.count, phase := 0 }

/-- Writes and removals on their way reach their owners; a request that is already waiting keeps its own record (R30, R31, R63, R124, R900).
At the delivery of a HIBERNATE request Lantern writes a CAL checkpoint (R724). -/
def State.deliverAll (s : State) : State :=
  let s0 := { s with power.requested := false }
  let s1 := (s.coreRemovals.foldl State.deliverRemoval s0).deliverWrites s.coreWrites
  let s2 := (s.hostRemovals.foldl State.deliverRemoval s1).deliverWrites s.hostWrites
  let s3 := { s2 with
    coreRemovals := s.coreRemovalsLate, coreRemovalsLate := [], coreWrites := s.coreWritesLate, coreWritesLate := []
    hostRemovals := s.hostRemovalsLate, hostRemovalsLate := [], hostWrites := s.hostWritesLate, hostWritesLate := [] }
  if s3.power.requested && s3.power.requestTarget == 4 && !s3.power.bodWarn then s3.calCheckpoint else s3

/-- Frames handed to the core: their lines become CORE and their first lines join the receive queue (R40, R261). -/
def State.passFrames (s : State) : State :=
  { s.setOwners s.link.toCore .core with
    link.toCore := [], link.rxq := s.link.rxq ++ s.link.rxqNext, link.rxqNext := [] }

/-- Every job of a slot that waits for a grant ends (R311, R318). -/
def State.endWaiting (s : State) (n : Fin 8) (r : BitVec 4) (l : Option Leaf) : State :=
  (List.finRange 16).foldl (fun s (i : Fin 16) =>
    let j := s.job i
    if j.state == .armed && j.phase == .waitGrant && j.keySlot == n then
      (match l with | some l => s.setLeaf l | none => s).finishJob i r
    else s) s

/-- The new contents of a key slot arrive; a counter that a grant brings to its end sets MESH.FC_END (R310, R311, R316, R319). -/
def State.applyKeyLoad (s : State) (l : KeyLoad) : State :=
  let k := s.mesh.slots[l.slot]
  let k1 : KeySlot := { k with cur := l.cur, prev := l.prev }
  match l.counter with
  | some (n, e) => (s.setKeySlot l.slot { k1 with next := n, lease := e, leaseReq := false, leaseFail := false }).setLeafIf (n == 0xFFFFFFFF#32) .meshFcEnd
  | none =>
    if l.cur.isNone then (s.setKeySlot l.slot { k1 with leaseReq := false, leaseFail := false }).endWaiting l.slot resNoKey none
    else s.setKeySlot l.slot k1

/-- A lease grant or refusal arrives (R315, R318). -/
def State.applyLease (s : State) (x : Fin 8 × Option Word) : State :=
  let k := s.mesh.slots[x.1]
  match x.2 with
  | some e => s.setKeySlot x.1 { k with lease := e, leaseReq := false, leaseFail := false }
  | none =>
    let s1 := (s.setKeySlot x.1 { k with leaseReq := false, leaseFail := true }).setLeaf .meshLeaseFail
    if k.hasValue then s1 else s1.endWaiting x.1 resFcEnd (some .meshFcEnd)

/-- What Lantern had not yet handed over when the transfer's capture was made waits for the next edge (R63). -/
def LanternBlock.afterHandOver (now cap : LanternBlock) : LanternBlock :=
  { now with
    keyLoads := now.keyLoads.drop cap.keyLoads.length
    leaseAnswers := now.leaseAnswers.drop cap.leaseAnswers.length
    tokenLoad := now.tokenLoad && !cap.tokenLoad
    lockLoad := if cap.lockLoad.isSome then none else now.lockLoad
    lockResult := if cap.lockResult.isSome then none else now.lockResult }

/-- Lease requests in the drip record; one is repeated while LEASE_FAIL is 1, and is outstanding again (R314, R318, R326). -/
def State.askLeases (s : State) : State :=
  (List.finRange 8).foldl (fun s (n : Fin 8) =>
    let k := s.mesh.slots[n]
    if (k.leaseReq || k.leaseFail) && !s.lantern.leaseAsked.contains n then
      { s.setKeySlot n { k with leaseReq := true } with lantern.leaseAsked := s.lantern.leaseAsked ++ [n] }
    else s) s

/-- The hand-over items of R36 that Lantern sends, as captured: keys, leases, tokens, the LOCK record, and with them the result of the engine's
last LOCK write (R63, R310, R315, R328, R373, R384). -/
def State.handOver (s : State) : State :=
  let l := s.inTime.lantern
  let s0 := { s with lantern := s.lantern.afterHandOver l }
  let s1 := l.leaseAnswers.foldl State.applyLease (l.keyLoads.foldl State.applyKeyLoad s0)
  let s2 := s1.askLeases
  let s3 := if l.tokenLoad then s2.tableLoad s2.storedTokens else s2
  let s4 := match l.lockLoad with
    | some r => { s3 with key.lockRecord := some r }
    | none => s3
  match l.lockResult with
  | some good => s4.setKey { s4.key with ckptFail := !good }
  | none => s4

/-- The calendar value at the edge, that of a CAL_SET delivered by this transfer included (R36, R63, R718, R720); expired tokens leave (R384). -/
def State.handCalendar (s : State) : State :=
  let c := s.inTime.lantern.calendar
  let c1 := if s.lantern.calSet then s.lantern.calendar else c
  { s with lantern.calSet := false }.setKey ({ s.key with calendar := c1 }).expiryCheck

/-- Mailboxes; a release read late takes part at the next transfer (R63, R703 to R706, R843). -/
def State.mailboxTransfer (s : State) : State :=
  let s1 := s.mailboxes
  { s1 with lantern.host.release := s1.lantern.host.releaseLate, lantern.host.releaseLate := false }

/-- A scheduled wake whose drip has come is removed; P28 pulses at drip D (R92, R136, R555). -/
def State.scheduledWake (s : State) : State :=
  match s.lantern.wake with
  | some d => if d ≤ s.drip.count then ({ s with lantern.wake := none }).pulseIf (d == s.drip.count) 28 else s
  | none => s

/-- Relay candidates are dropped and counted at the entry to SERVICE (R130). -/
def State.dropRelays (s : State) : State :=
  { s with
    link.dropRelay := BitVec.ofNat 16 (satAdd 65535 s.link.dropRelay.toNat s.link.relays.length)
    link.relays := [] }

/-- SERVICE begins: no transmission but ACKs (R129, R130). -/
def State.startService (s : State) : State := { s.dropRelays with power.mode := .service }

/-- The mode change that an update session asked for (R129, R773, R775). -/
def State.sessionMode (s : State) : State :=
  if !s.update.enterService then s
  else
    let s1 := { s with update.enterService := false }
    if s.update.state != .idle && s.update.service then
      if s.power.mode == .run then s1.startService else s1
    else if s.power.mode == .service then { s1 with power.mode := .run } else s1

/-- A confirmed pair's record is visible: PENDING and LEFT become 0 (R756). -/
def State.confirmTransfer (s : State) : State :=
  if s.lantern.confirmDone then
    { s with lantern.confirmDone := false, lantern.confirmPending := false, lantern.confirmLeft := 0 }
  else s

/-- The leaf of PERIPH.GPIO follows its condition, whatever clears arrive (R579, R850). -/
def State.leafHold (s : State) : Fin 15 → Word := fun g =>
  if g = 13 && s.periph.gpio.condition then Leaf.periphGpio.mask else 0

/-- The live RSSI of an enabled lane at a transfer is whatever its filter hears then: a free value (R220; DESIGN CHOICE, assumption 34). -/
def State.hearLane (s : State) (l : Lane) : State :=
  if (s.lane l).stage == .off then s
  else
    let (x, s1) := s.draw 256
    s1.setLane l { s1.lane l with rssi := BitVec.ofNat 8 x }

-- Mode requests

/-- The results of a mode request, as PW_STAT.LAST_ENTRY numbers them (R143). -/
inductive EntryResult where
  | entered
  | refusedMode
  | refusedCore
  | abortedWake
  | refusedLink
  | refusedFlash
  | refusedKey
  | skipped
  deriving DecidableEq, Repr

def EntryResult.code : EntryResult → BitVec 4
  | .entered => 1
  | .refusedMode => 2
  | .refusedCore => 3
  | .abortedWake => 4
  | .refusedLink => 5
  | .refusedFlash => 6
  | .refusedKey => 7
  | .skipped => 8

/-- An event of R122 is pending: an interrupt request that the core mask enables, a DRIP exception, or a delivered edge since the entry. -/
def State.dozeEnds (s : State) : Bool :=
  s.core.dozeEvent || s.core.dripPend || (List.range 4).any fun i => s.cause.levelRequested (i + 1)

/-- The core is in DOZE and no event has ended it (R121, R122). -/
def State.coreDozes (s : State) : Bool := s.core.doze && !s.dozeEnds

/-- A leaf that the core mask enables was set since the last transfer (R125 row 5). -/
def CauseBlock.freshEnabled (c : CauseBlock) : Bool :=
  (List.finRange 15).any fun g => (c.fresh[g] &&& c.cmask[g]) != 0

/-- The link controller holds work that a stopped mode would cut (R125 row 6). -/
def State.linkHolds (s : State) : Bool :=
  (s.link.jobs.toList.any fun j => j.state == .queued || j.state == .armed || j.state == .active) ||
    s.link.pendingAck.isSome || !s.link.relays.isEmpty || s.link.owner.toList.any fun o => o == .link || o == .chain

/-- A Keyholder transaction, or a raw run, is in progress (R125 row 8, R330). -/
def KeyBlock.transacts (k : KeyBlock) : Bool := k.lAct.inTransaction || k.oAct.inTransaction || k.rawRun.isSome

/-- The wake latency of a stopped mode in LCLK cycles (R92, R138). -/
def wakeLatency (target : BitVec 4) : Nat :=
  if target = 2 then 17600 else if target = 3 then 22400 else 38400

/-- The scheduled wake leaves less than the wake latency and one drip (R93). -/
def State.wakeTooClose (s : State) (target : BitVec 4) : Bool :=
  match s.lantern.wake with
  | some d => decide ((d.toNat - s.drip.count.toNat) * 8000 < wakeLatency target + 8000)
  | none => false

/-- R125, with SUMP before the first row: only a System reset leaves SUMP (R132, R763) (DEDUCED, assumption 27). -/
def State.judgeRequest (s : State) (target : BitVec 4) (latched : Bool) : EntryResult :=
  let stops := target == 2 || target == 3 || target == 4
  if s.power.mode == .sump then .refusedMode
  else if target = 0 then .entered
  else if s.power.mode == .service && (stops || target == 1) then .refusedMode
  else if (stops || target == 1) && !s.coreDozes then .refusedCore
  else if latched || s.cause.freshEnabled then .abortedWake
  else if stops && s.linkHolds then .refusedLink
  else if stops && s.flash.run.isSome then .refusedFlash
  else if (stops && s.key.transacts) || (target == 4 && s.key.release) then .refusedKey
  else if stops && s.wakeTooClose target then .skipped
  else .entered

/-- The result is recorded; a request delivered at this very transfer keeps GO (R124 to R126). -/
def State.recordEntry (s : State) (r : EntryResult) : State :=
  let s1 := { s with power.lastEntry := r.code, power.go := s.power.requested }
  match r with
  | .entered => s1
  | .skipped => s1.setLeaf .powerSleepSkipped
  | _ => s1.setLeaf .powerEntryRefused

/-- What entry to SLEEP, DEEP or HIBERNATE stops, frees and invalidates (R72, R111, R119, R120, R127). -/
def State.stopMode (s : State) (m : Mode) : State :=
  let frees := (List.range 128).filter fun n => s.link.ownerOf n == .core
  let p := s.power
  let d := s.drip
  let c := s.core
  { s.setOwners frees .free with
    power := { p with mode := m, pllLock := false, xoOk := false, wake := .none, wakeActive := 0 }
    drip := { d with running := false, stopEdge := d.count, stopCycles := none, stopRan := false }
    link.rxq := []
    conduit.pulses := 0
    key.irRun := [], key.irCount := 0
    periph.adc.busy := none
    core := { c with icache := [], flashBuf := [], groupBuf := [] } }

/-- Entry to HIBERNATE: the always-on detectors and the presence sensor take their settings, GPIO pins become inputs and lose their pull, but
GPIO0 to GPIO3 keep theirs, and the chain port's outputs drop (R35, R120, R150, R350, R580, R858). -/
def State.hibernate (s : State) : State :=
  let g := s.periph.gpio
  { s with
    periph.gpio.hibEdge := Vector.ofFn fun (i : Fin 4) => g.edgeCfg[i.val]
    periph.gpio.hibWaken := g.waken.extractLsb' 0 4
    periph.gpio.hibPull := Vector.ofFn fun (i : Fin 4) => g.pull[i.val]
    periph.gpio.func := 0
    periph.gpio.dir := 0
    periph.gpio.pull := Vector.ofFn fun (i : Fin 20) => if i.val < 4 then g.pull[i] else 0
    key.sensor := if s.power.cfg.getLsbD 2 then s.key.handToSensor else none
    chain.eno := false
    cause.attnLow := false }

/-- An entered request takes effect directly after the transfer (R32, R125, R129). -/
def State.enterMode (s : State) (target : BitVec 4) : State :=
  match target.toNat with
  | 1 => { s with power.mode := .listen, power.pllLock := false, power.wakeActive := 0 }
  | 2 => s.stopMode .sleep
  | 3 => s.stopMode .deep
  | 4 => (s.stopMode .hibernate).hibernate
  | 5 => if s.power.mode == .service then s else s.startService
  | _ => { s with power.mode := .run }

-- The core's side

/-- A delivered edge (R81 to R87, R485): it ends DOZE, and one that finds DRIP pending or in service is lost. -/
def State.dripToCore (s : State) : State :=
  let c := s.core
  if c.dripBusy || c.dripPend then
    ({ s with core := { c with dripMiss := satInc c.dripMiss, dozeEvent := c.doze } }).setLeaf .coreDripOverrun
  else { s with core := { c with dripPend := true, dozeEvent := c.doze } }

/-- Edges are delivered in RUN, DOZE and SERVICE to a core that is not in a warm restart, and whose clock has restarted after a wake
(R54, R81, R82, R139). -/
def State.edgeDelivered (s : State) : Bool :=
  (s.power.mode == .run || s.power.mode == .service) && s.power.wake != .resumedLate && !s.core.stopped && s.core.dripEn &&
    s.drip.count.toNat % (s.core.dripDiv.toNat + 1) == 0

/-- The core's clock restarts at the first edge 20 µs or more after the resume tick, and the core leaves DOZE (R139). -/
def State.wakeEdge (s : State) : State :=
  match s.power.wake with
  | .resumed =>
    let s1 := { s with power.wake := .none, power.pllLock := true }
    if s.core.doze then { s1 with core.dozeEvent := true } else s1
  | .resumedLate => { s with power.wake := .resumed }
  | _ => s

/-- What was too late for this transfer is in time for the next (R63), and this drip's marks of freshness end. -/
def State.rollLate (s : State) : State :=
  { s with
    crossing := none
    lantern.queue := s.lantern.queue.map fun q => { q with late := false }
    radio.clipFresh := false
    periph.adc.newFresh := false
    chain.waiting := s.chain.waiting.map fun c => { c with late := false } }

/-- A frequency that CK_CCLK requests takes effect at this edge (R61, R109). -/
def State.cclkEdge (s : State) : State := { s with power.cclkCur := s.power.cclkFreq }

/-- The transfer's exchange between the planes, up to the views of the cause tree (R25 to R31, R44, R45). -/
def State.exchange (s : State) : State :=
  let k := s.link.rollLedger s.drip.next.count
  let s1 := { s with drip := s.drip.next, link := { k with subAccepted := 0, subQfull := 0 } }.confirmTransfer.reloadEdge
  let s2 := (s1.deliverAll.upSubmit).chainPass .deliver
  let s3 := s2.handOver.passFrames.mailboxTransfer.handCalendar
  let s4 := (s3.chainPass .settle).scheduledWake.sessionMode.cclkEdge
  (((s4.hearLane .a).hearLane .b).pulse 8).refreshFs

/-- The transfer but for what becomes visible: the exchange, the answer to a mode request that waited for it, the views of the cause tree, then what follows directly
after it (R32, R62, R124). -/
def State.transferWork (s : State) : State :=
  let asked := s.power.requested
  let target := s.power.requestTarget
  let latched := s.power.wakeLatched
  let s1 := s.exchange
  let r := s1.judgeRequest target latched
  let s2 := if asked then s1.recordEntry r else s1
  let s3 := { s2 with cause := s2.cause.transfer s2.leafHold }
  let s4 := if asked && r == .entered then s3.enterMode target else s3
  let s5 := if s4.edgeDelivered then s4.dripToCore else s4
  s5.wakeEdge.rollLate

/-- What the transfer makes visible to other planes, and the view of the cause tree: everything in the LCLK domain, and of the rest what was
captured in time (R25, R28, R30, R43, R63). -/
def State.makeVisible (s t : State) : State :=
  let v := if s.crossing.isNone then t else s.captured.transferWork
  { t with cause := { t.cause with view := v.cause.view, attnLow := v.cause.attnLow }, seen := v.toBlocks, seenDsStat := v.core.dsStat }

/-- The transfer, and the software reset that one of its writes asked for (R62, R730). What an owner does on a write delivered by this transfer, such
as the end of a job that LK_CANCEL cancels, is visible by this same transfer (R25; DESIGN CHOICE, assumption 62). The edge of an activation is
delivered to the core before ACTIVATION_EDGE stops it (R54; DESIGN CHOICE, assumption 61). -/
def State.transfer (s : State) : State :=
  let t := s.makeVisible s.transferWork
  if t.lantern.resetReq then t.afterReset false .software .crystal else t

/-- DRIP_EDGE: the generator's 8,000 cycles are over (R58, R62). -/
def execDripEdge (s : State) : Out :=
  ok (whenDo (s.drip.running && s.power.hold == .none) s s.commitPhase.transfer)

end Sys2Proof.Machine
end

