-- ==== Sys2Proof/Machine/Activation.lean ====
section
/-!
DEFINITION. Hitless activation and the reload of the link image (01_architecture.md 5; 10_core_execution.md 6; 20_update.md 5).
-/
namespace Sys2Proof.Machine

/-- Core requests to Lantern when the core's image is replaced: those under way lose their result, results not yet released go (R56, R708). -/
def LanternBlock.dropCore (l : LanternBlock) : LanternBlock :=
  { l with
    queue := (l.queue.filter fun q => !(q.by_ == .core && q.result.isSome)).map fun q =>
      if q.by_ == .core then { q with orphaned := true } else q
    core := { l.core with area := none } }

/-- The discarded results of requests that have been carried out; a CAL_SET among them has its effect (R56, R708, R720). -/
def State.dropCore (s : State) : State :=
  let lost := s.lantern.queue.filter fun q => q.by_ == .core && !q.delivered
  let s1 := lost.foldl (fun s q => match q.result with
    | some a => s.applyCalSet q a
    | none => s) s
  { s1 with lantern := s1.lantern.dropCore }

/-- The core stops as at an interrupt entry, drains its stores, and its Core class returns to Reset values, CH_DBGCTL among it (R12, R488,
R848). -/
def State.stopCore (s : State) : State :=
  let s1 := s.abandon.drainDsp
  let s2 := s1.core.stores.foldl (fun (s : State) e => s.storeAt e.addr e.size e.value) { s1 with core.stores := [] }
  { s2 with core := { stopped := true }, chain.dbgOpen := false }

/-- The producers that pulse at cycle 0 of a drip, P8 and P28: such a pulse at the activation edge is governed by the new table; every other pulse
on its way is discarded (R555, R571). -/
def edgePulses : BitVec 48 := 0x10000100

/-- Edge U of an application activation (R56, R571, R655, R727, R787). -/
def State.activateApp (s : State) (u : BitVec 48) : State :=
  let t := s.update.target
  let a := s.image t
  let s0 := s.stopCore
  let s1 := s0.dropCore
  let s2 := (({ s1.applyRoutes (s1.routesOf a) with conduit.pulses := s1.conduit.pulses &&& edgePulses }).setDataArea a).beginTrial
  let s3 := s2.lifeAdd 9 1
  let b := s3.boot
  let s4 := { s3 with boot := { b with
    appB := t == 2
    paired := Vector.ofFn fun (n : Fin 4) => n == t || n == b.linkSlot } }
  let s5 := (s4.endActivate upOk).endSession
  s5.setUpdate { s5.update with activation := .restart (u + 6) }

/-- ACTIVATION_EDGE (R786, R787). -/
def execActivationEdge (s : State) : Out :=
  ok (match s.update.activation with
    | .atEdge u => whenDo (decide (u ≤ s.drip.count) && s.drip.running) s (s.activateApp u)
    | _ => s)

/-- The new application starts; its CCLK frequency applies at this edge, or at the next one when the restart came after the edge (R61, R543, R698,
R787, R788). -/
def State.restartCore (s : State) : State :=
  let a := s.image s.boot.appSlot
  let l := s.image s.boot.linkSlot
  let f := BitVec.ofNat 3 a.cclk
  let s1 := (s.applyPlan (s.section a 3)).loadCx a
  let s2 := { s1 with power.cclkFreq := f, power.cclkCur := if s1.drip.phase = 0 then f else s1.power.cclkCur, update.activation := .none }
  s2.startCore a l true

/-- CORE_RESTART (R787). -/
def execCoreRestart (s : State) : Out :=
  ok (match s.update.activation with
    | .restart u => whenDo (decide (u ≤ s.drip.count) && s.drip.running && s.core.stopped) s s.restartCore
    | _ => s)

/-- LINK_RELOAD: the reload begins; the edge that ends it is a DRIP_EDGE (R789, R790). -/
def execLinkReload (s : State) : Out :=
  ok (match s.update.activation with
    | .link => whenDo (s.quietEdge && s.drip.running && s.link.reloadEdge.isNone) s s.reloadLink
    | _ => s)

end Sys2Proof.Machine
end

