-- ==== Sys2Proof/Machine/Arith.lean ====
section
/-!
DEFINITION. What the scalar instructions compute from their operands (R420 to R424, R429).
-/
namespace Sys2Proof.Machine

/-- 1 or 0 for a comparison. -/
def truth (b : Bool) : Word := if b then 1 else 0

/-- Leading zero bits, 0 to 32 (CLZ). -/
def leadingZeros (w : Word) : Word := BitVec.ofNat 32 (if w = 0 then 32 else 31 - Nat.log2 w.toNat)

/-- Bytes in reverse order (BSWAP). -/
def byteSwap (w : Word) : Word :=
  (w.extractLsb' 0 8) ++ (w.extractLsb' 8 8) ++ (w.extractLsb' 16 8) ++ (w.extractLsb' 24 8)

/-- Bits [63:32] of the signed product (MULH). -/
def mulHigh (a b : Word) : Word := BitVec.ofInt 32 ((a.toInt * b.toInt) / 2 ^ 32)

/-- Bits [63:32] of the unsigned product (MULHU). -/
def mulHighU (a b : Word) : Word := BitVec.ofNat 32 (a.toNat * b.toNat / 2 ^ 32)

/-- DIV, with the results of R424 for a zero divisor and for overflow. -/
def divS (a b : Word) : Word := if b = 0 then 0xFFFFFFFF else BitVec.ofInt 32 (a.toInt.tdiv b.toInt)

/-- DIVU. -/
def divU (a b : Word) : Word := if b = 0 then 0xFFFFFFFF else BitVec.ofNat 32 (a.toNat / b.toNat)

/-- REM, with the sign of `a`. -/
def remS (a b : Word) : Word := if b = 0 then a else BitVec.ofInt 32 (a.toInt.tmod b.toInt)

/-- REMU. -/
def remU (a b : Word) : Word := if b = 0 then a else BitVec.ofNat 32 (a.toNat % b.toNat)

end Sys2Proof.Machine
end

