-- ==== Sys2Proof/Machine/CoreRun.lean ====
section
/-!
DEFINITION. How the core carries out one instruction: issue and completion, branch prediction, run-ahead (10_core_execution.md 1, 2).
-/
namespace Sys2Proof.Machine

-- Branch prediction

/-- The predictor's entry for an instruction, when its tag matches (R453). -/
def CoreBlock.prediction (c : CoreBlock) (pc : Word) : Option Prediction :=
  let i : Fin 64 := (bits pc 2 6).toFin
  match c.predictor[i] with
  | some p => if p.tag == bits pc 8 6 then some p else none
  | none => none

/-- The next address as predicted for a branch, and for a jump (R453). -/
def CoreBlock.predictBranch (c : CoreBlock) (pc : Word) : Word :=
  match c.prediction pc with
  | some p => if 2 ≤ p.counter.toNat then p.target else pc + 4
  | none => pc + 4

def CoreBlock.predictJump (c : CoreBlock) (pc : Word) : Word :=
  match c.prediction pc with
  | some p => p.target
  | none => pc + 4

/-- A resolution outside run-ahead updates the predictor (R453). -/
def CoreBlock.resolve (c : CoreBlock) (pc target : Word) (taken : Bool) : CoreBlock :=
  let i : Fin 64 := (bits pc 2 6).toFin
  match c.prediction pc with
  | some p =>
    let n : BitVec 2 := if taken then (if p.counter = 3 then 3 else p.counter + 1) else (if p.counter = 0 then 0 else p.counter - 1)
    let q : Prediction := { p with counter := n, target := if taken then target else p.target }
    { c with predictor := c.predictor.set i (some q) }
  | none =>
    if taken then
      let q : Prediction := { tag := bits pc 8 6, target := target, counter := 2 }
      { c with predictor := c.predictor.set i (some q) }
    else c

-- Run-ahead

/-- What an instruction is to run-ahead (R458). -/
inductive Ahead where
  /-- Computed in the shadow file from these registers, with latency `l`. -/
  | alu (rd : GReg) (reads : List GReg) (f : (GReg → Word) → Word) (l : Nat := 1)
  /-- Its result is poisoned. -/
  | poison (rd : GReg)
  | load (size : Nat) (extend : Word → Word) (rt ra : GReg) (off : BitVec 16)
  | store (size : Nat) (ra : GReg) (off : BitVec 16)
  | branch (ra rb : GReg) (taken : Word → Word → Bool) (off : BitVec 16)
  | jump (link : Bool) (off : BitVec 26)
  | jumpReg (rd : Option GReg) (ra : GReg)
  | stop

/-- A shadow register, and whether it is poisoned. -/
def Episode.val (e : Episode) (r : GReg) : Word := if r = 0 then 0 else e.g[r]
def Episode.bad (e : Episode) (r : GReg) : Bool := r != 0 && e.poison.getLsbD r

/-- A result goes to the shadow file (R457). -/
def Episode.put (e : Episode) (r : GReg) (v : Word) (poisoned : Bool) : Episode :=
  if r = 0 then e
  else
    let m := (1#32) <<< r.val
    { e with g := e.g.set r v, poison := if poisoned then e.poison ||| m else e.poison &&& ~~~m, late := e.late.filter (·.1 != r) }

/-- A result of latency `l` (R440). -/
def Episode.putLate (e : Episode) (r : GReg) (v : Word) (l : Nat) : Episode :=
  let e1 := e.put r v false
  if l ≤ 1 then e1 else { e1 with late := (r, l) :: e1.late }

/-- Cycles until every one of these shadow registers is readable; a poisoned one holds nothing up. -/
def Episode.waitFor (e : Episode) (rs : List GReg) : Nat :=
  (e.late.filter fun p => rs.contains p.1).foldl (fun n p => max n p.2) 0

def Episode.goTo (e : Episode) (pc : Word) : Episode := { e with pc := pc }
def Episode.halt (e : Episode) : Episode := { e with stopped := true }

/-- What a run-ahead load finds (R458, R459, R461, R651). -/
inductive AheadLoad where
  | value (v : Word) (latency : Nat)
  | poisoned
  /-- A slow load: the line or group can be prefetched, where it is not already being read. -/
  | slow
  | stop

/-- A run-ahead load of a unit that a read buffer may hold: a slow load, poisoned by an ECC error, or executed (R455, R458, R461). -/
def State.aheadBuffered (s : State) (b : List BufferLine) (u : Nat) (lost : Bool) (a size : Nat) : AheadLoad :=
  match b.find? (·.unit == u) with
  | none => .slow
  | some l =>
    if 4 < l.left then .slow
    else if lost || l.corrected then .poisoned
    else .value (s.rawLoad a size) (max 2 l.left)

/-- Judge a run-ahead load with an unpoisoned address. A hit of the group buffer is executed like a hit of the read buffer (DEDUCED, assumption 21). -/
def State.aheadLoad (s : State) (a size : Nat) : AheadLoad :=
  if a % size != 0 || s.loadFaults a size then .stop
  else match regionOf a with
  | .io => .stop
  | .window => .poisoned
  | .flash =>
    if s.flash.busyAt a then .poisoned
    else s.aheadBuffered s.core.flashBuf (unitOf a) (s.integ.uncorrUnits.contains (unitOf a)) a size
  | .flowstone => s.aheadBuffered s.core.groupBuf (groupOf a) (s.integ.uncorrGroups.contains (groupOf a)) a size
  | .gallery => .value ((s.forwarded a size).1.getD (s.rawLoad a size)) 3
  | .rom => .value (s.rawLoad a size) 3
  | _ => if s.ramBad a || s.ramFixed a then .poisoned else .value ((s.forwarded a size).1.getD (s.rawLoad a size)) 2

/-- A prefetch fills its buffer, keeping what outstanding loads await (R459, R905): the cycles its read takes, none where it is already under way. -/
def State.prefetch (s : State) (a : Nat) : Option Nat × State :=
  let keep := s.core.awaited
  match regionOf a with
  | .flash =>
    let (n, s1) := s.readUnit (unitOf a) keep
    (if s.core.flashBuf.any (·.unit == unitOf a) then none else some n, s1)
  | _ =>
    let (n, s1) := s.readGroup (groupOf a) keep
    (if s.core.groupBuf.any (·.unit == groupOf a) then none else some n, s1)

/-- A run-ahead load (R458, R459); a slow load that finds 4 misses outstanding stops run-ahead. -/
def State.aheadLoadStep (s : State) (e : Episode) (size : Nat) (extend : Word → Word) (rt ra : GReg) (off : BitVec 16) : Episode × State :=
  let next := e.goTo (e.pc + 4)
  if e.bad ra then (next.put rt 0 true, s)
  else
    let a := (effective (e.val ra) off).toNat
    match s.aheadLoad a size with
    | .stop => (e.halt, s)
    | .poisoned => (next.put rt 0 true, s)
    | .value v l => (next.putLate rt (extend v) l, s)
    | .slow =>
      if 4 ≤ e.misses.length then (e.halt, s)
      else
        let (n, s1) := s.prefetch a
        ({ next.put rt 0 true with misses := e.misses ++ n.toList }, s1)

/-- A store in run-ahead is discarded; one that would fault, or would reach the I/O region, stops (R458). -/
def State.aheadStore (s : State) (e : Episode) (size : Nat) (ra : GReg) (off : BitVec 16) : Episode :=
  let a := (effective (e.val ra) off).toNat
  if !e.bad ra && (a % size != 0 || s.storeFaults a size || isIo a) then e.halt else e.goTo (e.pc + 4)

/-- Where a branch or a jump of an episode goes, and the cycles of a wrong prediction (R443, R458). -/
def Episode.turn (e : Episode) (target predicted : Word) (extra : Nat) : Episode × Nat :=
  (e.goTo target, if predicted = target then 0 else extra)

/-- One instruction of an episode, and the cycles it costs beyond its own (R458). -/
def State.aheadEffect (s : State) (e : Episode) (a : Ahead) : Episode × Nat × State :=
  let next := e.pc + 4
  match a with
  | .alu rd rs f l =>
    ((if rs.any e.bad then (e.goTo next).put rd 0 true else (e.goTo next).putLate rd (f e.val) l), e.waitFor rs, s)
  | .poison rd => ((e.goTo next).put rd 0 true, 0, s)
  | .load size ext rt ra off =>
    let (e1, s1) := s.aheadLoadStep e size ext rt ra off
    (e1, e.waitFor [ra], s1)
  | .store size ra off => (s.aheadStore e size ra off, e.waitFor [ra], s)
  | .branch ra rb taken off =>
    let predicted := s.core.predictBranch e.pc
    if e.bad ra || e.bad rb then (e.goTo predicted, 0, s)
    else
      let (e1, k) := e.turn (if taken (e.val ra) (e.val rb) then branchTarget e.pc off else next) predicted 3
      (e1, e.waitFor [ra, rb] + k, s)
  | .jump link off =>
    let (e1, k) := (if link then e.put 31 next false else e).turn (jumpTarget e.pc off) (s.core.predictJump e.pc) 2
    (e1, k, s)
  | .jumpReg rd ra =>
    if !e.bad ra && !aligned (e.val ra) 4 then (e.halt, 0, s)
    else
      let predicted := s.core.predictJump e.pc
      let e1 := match rd with | some r => e.put r next false | none => e
      let (e2, k) := e1.turn (if e.bad ra then predicted else e.val ra) predicted 3
      (e2, e.waitFor [ra] + k, s)
  | .stop => (e.halt, 0, s)

/-- An instruction command in an episode: fetch, effect, and the bound of 64 (R458, R460, R461). Once the triggering load has its data nothing more
is run ahead (R462). -/
def State.aheadStep (s : State) (e : Episode) (a : Ahead) : State :=
  if e.stopped || e.left == 0 then s
  else if (s.fetchFault e.pc.toNat).isSome then { s with core.episode := some e.halt }
  else
    let (cost, s1) := s.fetched e.pc.toNat true
    let (e1, extra, s2) := s1.aheadEffect e a
    let e2 := if e1.stopped then e1 else { e1 with count := e.count + 1, stopped := decide (64 ≤ e.count + 1) }
    { s2 with core.episode := some e2 }.tick (min e.left (1 + cost + extra))

-- One instruction

/-- A register of the core. -/
def State.greg (s : State) (r : GReg) : Word := s.core.reg r

/-- An instruction that does no more than write a result of latency `l` to a register. -/
def State.writes (s : State) (r : GReg) (v : Word) (l : Nat := 1) : Ran := .done (s.result r v l)

/-- The end of an instruction issued at `pc`: its cycle passes, or its exception is taken (R446, R906). `before` is the core before the
instruction waited for older loads and divisions, which an asynchronous request abandons. -/
def Ran.finish (r : Ran) (before : CoreBlock) (pc : Word) : State :=
  match r with
  | .done s => s.tick 1
  | .raise x s =>
    match s.takeable with
    | some q => { s with core := { s.core with outs := before.outs, pc := pc } }.takeAsync q
    | none => s.raiseSync pc x

/-- An instruction issues: fetch, and the longest of the waits for the fetch, for its operands and, unless `keep` lets it issue under them, for
older loads and divisions; then its own effect, for which the PC already names the next instruction (R398, R440, R444, R446, R447, R473). -/
def State.issue (s : State) (keep : Bool) (reads : List GReg) (run : Word → State → Ran) : State :=
  let pc := s.core.pc
  match s.fetchFault pc.toNat with
  | some x => s.raiseSync pc x
  | none =>
    let (cost, s1) := s.fetched pc.toNat false
    let s2 := s1.tick (max cost (max (s1.core.waitFor reads) (if keep then 0 else s1.core.outsLeft)))
    (run pc { s2 with core.pc := pc + 4 }).finish s1.core pc

/-- A slow load or a division of latency `l` at `pc` is in progress; its result follows at once in the registers (R425, R447, R455). -/
def State.begins (s : State) (pc : Word) (rt : GReg) (unit : Option Nat) (l : Nat) : State :=
  let c := s.core
  let o : Outstanding := { pc := pc, rt := rt, unit := unit, left := l, back := ⟨c.g, c.sat, c.dz, c.dsp.drain⟩ }
  { s with core.outs := c.outs ++ [o] }

/-- The request that ended DOZE, taken before any instruction (R122, R123). -/
def State.wokenBy (s : State) : Option AsyncReq := if s.core.wokeDoze then s.takeable else none

/-- A core instruction: in an episode it is run ahead; a request that ended DOZE is taken first; else it issues (R123, R458) (DESIGN CHOICE, assumption 9). -/
def State.coreInstr (s : State) (keep : Bool) (reads : List GReg) (ahead : Ahead) (run : Word → State → Ran) : Out :=
  ok (if !s.coreRuns then s
    else match s.core.episode with
    | some e => s.aheadStep e ahead
    | none =>
      match s.wokenBy with
      | some r => s.takeAsync r
      | none => { s with core.wokeDoze := false }.issue keep reads run)

/-- An instruction whose result is a function of registers. -/
def State.aluInstr (s : State) (rd : GReg) (reads : List GReg) (f : (GReg → Word) → Word) : Out :=
  s.coreInstr true reads (.alu rd reads f) fun _ s => s.writes rd (f s.greg)

end Sys2Proof.Machine
end

