-- ==== Sys2Proof/Machine/Alu.lean ====
section
/-!
DEFINITION. The register and immediate instructions of the core (09_kraura_isa.md 6.1 to 6.3).
-/
namespace Sys2Proof.Machine

-- Major 0x00 (R420)

def execAdd (rd ra rb : GReg) (s : State) : Out := s.aluInstr rd [ra, rb] fun r => r ra + r rb
def execSub (rd ra rb : GReg) (s : State) : Out := s.aluInstr rd [ra, rb] fun r => r ra - r rb
def execAnd (rd ra rb : GReg) (s : State) : Out := s.aluInstr rd [ra, rb] fun r => r ra &&& r rb
def execOr (rd ra rb : GReg) (s : State) : Out := s.aluInstr rd [ra, rb] fun r => r ra ||| r rb
def execXor (rd ra rb : GReg) (s : State) : Out := s.aluInstr rd [ra, rb] fun r => r ra ^^^ r rb
def execNor (rd ra rb : GReg) (s : State) : Out := s.aluInstr rd [ra, rb] fun r => ~~~(r ra ||| r rb)
def execSlt (rd ra rb : GReg) (s : State) : Out := s.aluInstr rd [ra, rb] fun r => truth ((r ra).slt (r rb))
def execSltu (rd ra rb : GReg) (s : State) : Out := s.aluInstr rd [ra, rb] fun r => truth ((r ra).ult (r rb))
def execSll (rd ra : GReg) (sh : BitVec 5) (s : State) : Out := s.aluInstr rd [ra] fun r => r ra <<< sh.toNat
def execSrl (rd ra : GReg) (sh : BitVec 5) (s : State) : Out := s.aluInstr rd [ra] fun r => r ra >>> sh.toNat
def execSra (rd ra : GReg) (sh : BitVec 5) (s : State) : Out := s.aluInstr rd [ra] fun r => (r ra).sshiftRight sh.toNat
def execRor (rd ra : GReg) (sh : BitVec 5) (s : State) : Out := s.aluInstr rd [ra] fun r => (r ra).rotateRight sh.toNat

/-- A shift amount taken from a register: its bits [4:0]. -/
def shiftOf (w : Word) : Nat := (bits w 0 5).toNat

def execSllv (rd ra rb : GReg) (s : State) : Out := s.aluInstr rd [ra, rb] fun r => r ra <<< shiftOf (r rb)
def execSrlv (rd ra rb : GReg) (s : State) : Out := s.aluInstr rd [ra, rb] fun r => r ra >>> shiftOf (r rb)
def execSrav (rd ra rb : GReg) (s : State) : Out := s.aluInstr rd [ra, rb] fun r => (r ra).sshiftRight (shiftOf (r rb))
def execRorv (rd ra rb : GReg) (s : State) : Out := s.aluInstr rd [ra, rb] fun r => (r ra).rotateRight (shiftOf (r rb))

/-- An instruction that clamps its result and then sets SAT (R421). -/
def State.satInstr (s : State) (rd : GReg) (reads : List GReg) (f : (GReg → Word) → Int) : Out :=
  s.coreInstr true reads (.alu rd reads fun r => (clamp32 (f r)).1) fun _ s =>
    let v := clamp32 (f s.greg)
    { s with core := s.core.noteSat v.2 }.writes rd v.1

def execAddsat (rd ra rb : GReg) (s : State) : Out := s.satInstr rd [ra, rb] fun r => (r ra).toInt + (r rb).toInt
def execSubsat (rd ra rb : GReg) (s : State) : Out := s.satInstr rd [ra, rb] fun r => (r ra).toInt - (r rb).toInt
def execAbs (rd ra : GReg) (s : State) : Out := s.satInstr rd [ra] fun r => (r ra).toInt.natAbs

def execMin (rd ra rb : GReg) (s : State) : Out := s.aluInstr rd [ra, rb] fun r => if (r ra).slt (r rb) then r ra else r rb
def execMax (rd ra rb : GReg) (s : State) : Out := s.aluInstr rd [ra, rb] fun r => if (r ra).slt (r rb) then r rb else r ra
def execMinu (rd ra rb : GReg) (s : State) : Out := s.aluInstr rd [ra, rb] fun r => if (r ra).ult (r rb) then r ra else r rb
def execMaxu (rd ra rb : GReg) (s : State) : Out := s.aluInstr rd [ra, rb] fun r => if (r ra).ult (r rb) then r rb else r ra
def execClz (rd ra : GReg) (s : State) : Out := s.aluInstr rd [ra] fun r => leadingZeros (r ra)
def execSextb (rd ra : GReg) (s : State) : Out := s.aluInstr rd [ra] fun r => ((r ra).extractLsb' 0 8).signExtend 32
def execSexth (rd ra : GReg) (s : State) : Out := s.aluInstr rd [ra] fun r => ((r ra).extractLsb' 0 16).signExtend 32
def execZexth (rd ra : GReg) (s : State) : Out := s.aluInstr rd [ra] fun r => ((r ra).extractLsb' 0 16).setWidth 32
def execBswap (rd ra : GReg) (s : State) : Out := s.aluInstr rd [ra] fun r => byteSwap (r ra)
def execCmovz (rd ra rb : GReg) (s : State) : Out := s.aluInstr rd [ra, rb, rd] fun r => if r rb = 0 then r ra else r rd
def execCmovnz (rd ra rb : GReg) (s : State) : Out := s.aluInstr rd [ra, rb, rd] fun r => if r rb != 0 then r ra else r rd

-- Immediates (R422)

def execAddi (rd ra : GReg) (imm : BitVec 16) (s : State) : Out := s.aluInstr rd [ra] fun r => r ra + sext16 imm
def execAndi (rd ra : GReg) (imm : BitVec 16) (s : State) : Out := s.aluInstr rd [ra] fun r => r ra &&& zext16 imm
def execOri (rd ra : GReg) (imm : BitVec 16) (s : State) : Out := s.aluInstr rd [ra] fun r => r ra ||| zext16 imm
def execXori (rd ra : GReg) (imm : BitVec 16) (s : State) : Out := s.aluInstr rd [ra] fun r => r ra ^^^ zext16 imm
def execSlti (rd ra : GReg) (imm : BitVec 16) (s : State) : Out := s.aluInstr rd [ra] fun r => truth ((r ra).slt (sext16 imm))
def execSltiu (rd ra : GReg) (imm : BitVec 16) (s : State) : Out := s.aluInstr rd [ra] fun r => truth ((r ra).ult (sext16 imm))
def execMovhi (rd : GReg) (imm : BitVec 16) (s : State) : Out := s.aluInstr rd [] fun _ => zext16 imm <<< 16

-- Multiplication and division (R423 to R425)

/-- A multiplication: latency 2. -/
def State.mulInstr (s : State) (rd ra rb : GReg) (f : Word → Word → Word) : Out :=
  s.coreInstr true [ra, rb] (.alu rd [ra, rb] (fun r => f (r ra) (r rb)) 2) fun _ s => s.writes rd (f (s.greg ra) (s.greg rb)) 2

def execMul (rd ra rb : GReg) (s : State) : Out := s.mulInstr rd ra rb fun a b => a * b
def execMulh (rd ra rb : GReg) (s : State) : Out := s.mulInstr rd ra rb mulHigh
def execMulhu (rd ra rb : GReg) (s : State) : Out := s.mulInstr rd ra rb mulHighU

/-- A division: it waits for the divider, holds it for 18 cycles, and sets DZ for a divisor of 0 (R424, R425, R444); an interrupt meanwhile
abandons it. -/
def State.divInstr (s : State) (rd ra rb : GReg) (f : Word → Word → Word) : Out :=
  s.coreInstr true [ra, rb] (.poison rd) fun pc s =>
    let s1 := (s.tick s.core.divider).begins pc rd none 18
    let c := s1.core.noteDz (s1.greg rb)
    { s1 with core := { c with divider := 18 } }.writes rd (f (s1.greg ra) (s1.greg rb)) 18

def execDiv (rd ra rb : GReg) (s : State) : Out := s.divInstr rd ra rb divS
def execDivu (rd ra rb : GReg) (s : State) : Out := s.divInstr rd ra rb divU
def execRem (rd ra rb : GReg) (s : State) : Out := s.divInstr rd ra rb remS
def execRemu (rd ra rb : GReg) (s : State) : Out := s.divInstr rd ra rb remU

end Sys2Proof.Machine
end

