-- ==== Sys2Proof/Machine/Branch.lean ====
section
/-!
DEFINITION. Branches and jumps of the core (09_kraura_isa.md 5.2, 6.5).
-/
namespace Sys2Proof.Machine

/-- Control passes to `target`, and a wrong prediction costs `extra` cycles (R443, R453). -/
def State.goTo (s : State) (pc target predicted : Word) (taken : Bool) (extra : Nat) : State :=
  let s1 := { s with core := { s.core.resolve pc target taken with pc := target } }
  if predicted = target then s1 else s1.tick extra

/-- A branch (R418, R429). -/
def State.branchInstr (s : State) (ra rb : GReg) (off : BitVec 16) (cond : Word → Word → Bool) : Out :=
  s.coreInstr true [ra, rb] (.branch ra rb cond off) fun pc s =>
    if cond (s.greg ra) (s.greg rb) then .done (s.goTo pc (branchTarget pc off) (s.core.predictBranch pc) true 3)
    else .done (s.goTo pc (pc + 4) (s.core.predictBranch pc) false 3)

def execBeq (ra rb : GReg) (imm : BitVec 16) (s : State) : Out := s.branchInstr ra rb imm fun a b => a == b
def execBne (ra rb : GReg) (imm : BitVec 16) (s : State) : Out := s.branchInstr ra rb imm fun a b => a != b
def execBlt (ra rb : GReg) (imm : BitVec 16) (s : State) : Out := s.branchInstr ra rb imm fun a b => a.slt b
def execBge (ra rb : GReg) (imm : BitVec 16) (s : State) : Out := s.branchInstr ra rb imm fun a b => !a.slt b
def execBltu (ra rb : GReg) (imm : BitVec 16) (s : State) : Out := s.branchInstr ra rb imm fun a b => a.ult b
def execBgeu (ra rb : GReg) (imm : BitVec 16) (s : State) : Out := s.branchInstr ra rb imm fun a b => !a.ult b

/-- J and JAL (R418, R430). -/
def State.jumpInstr (s : State) (link : Bool) (off : BitVec 26) : Out :=
  s.coreInstr true [] (.jump link off) fun pc s =>
    let s1 := if link then s.result 31 (pc + 4) 1 else s
    .done (s1.goTo pc (jumpTarget pc off) (s.core.predictJump pc) true 2)

def execJump (off : BitVec 26) (s : State) : Out := s.jumpInstr false off
def execJal (off : BitVec 26) (s : State) : Out := s.jumpInstr true off

/-- JR and JALR: a misaligned target raises ALIGN, and nothing is written (R419, R430, R431). -/
def State.jumpRegInstr (s : State) (rd : Option GReg) (ra : GReg) : Out :=
  s.coreInstr true [ra] (.jumpReg rd ra) fun pc s =>
    let t := s.greg ra
    if !aligned t 4 then .raise { code := xAlign, badAddr := some t } s
    else
      let s1 := match rd with | some r => s.result r (pc + 4) 1 | none => s
      .done (s1.goTo pc t (s.core.predictJump pc) true 3)

def execJr (ra : GReg) (s : State) : Out := s.jumpRegInstr none ra
def execJalr (rd ra : GReg) (s : State) : Out := s.jumpRegInstr (some rd) ra

end Sys2Proof.Machine
end

