-- ==== Sys2Proof/Machine/Kraura.lean ====
section
/-!
DEFINITION. The instruction words of the Kraura core: formats, major opcodes and the instruction that a word encodes
(09_kraura_isa.md 2 to 6; 11_dsp_datapath.md 2; 12_custom_instructions.md 1).
-/
namespace Sys2Proof.Machine

/-- A register field whose lowest bit is bit `lo` (R406). -/
def gAt (w : Word) (lo : Nat) : GReg := (bits w lo 5).toFin

/-- The special registers that exist (R401). -/
def isSpecial (sr : BitVec 8) : Bool :=
  sr.toNat ≤ 0x0A || (0x10 ≤ sr.toNat && sr.toNat ≤ 0x12) || (0x14 ≤ sr.toNat && sr.toNat ≤ 0x16) || (0x20 ≤ sr.toNat && sr.toNat ≤ 0x25)

/-- An instruction, where the fields that its table marks 0 are 0 (R407). -/
def zeroed (c : Bool) (i : Instr) : Option Instr := if c then some i else none

/-- Major 0x00: format A, selected by func (R406, R420). -/
def decodeAlu (w : Word) : Option Instr :=
  let rd := gAt w 15
  let ra := gAt w 10
  let rb := gAt w 5
  let sh := bits w 0 5
  let three := sh == 0
  let shift := bits w 5 5 == 0
  let two := three && shift
  match (bits w 20 6).toNat with
  | 0x01 => zeroed three (.add rd ra rb)
  | 0x02 => zeroed three (.sub rd ra rb)
  | 0x03 => zeroed three (.and rd ra rb)
  | 0x04 => zeroed three (.or rd ra rb)
  | 0x05 => zeroed three (.xor rd ra rb)
  | 0x06 => zeroed three (.nor rd ra rb)
  | 0x07 => zeroed three (.slt rd ra rb)
  | 0x08 => zeroed three (.sltu rd ra rb)
  | 0x09 => zeroed shift (.sll rd ra sh)
  | 0x0A => zeroed shift (.srl rd ra sh)
  | 0x0B => zeroed shift (.sra rd ra sh)
  | 0x0C => zeroed shift (.ror rd ra sh)
  | 0x0D => zeroed three (.sllv rd ra rb)
  | 0x0E => zeroed three (.srlv rd ra rb)
  | 0x0F => zeroed three (.srav rd ra rb)
  | 0x10 => zeroed three (.rorv rd ra rb)
  | 0x11 => zeroed three (.addsat rd ra rb)
  | 0x12 => zeroed three (.subsat rd ra rb)
  | 0x13 => zeroed two (.abs rd ra)
  | 0x14 => zeroed three (.min rd ra rb)
  | 0x15 => zeroed three (.max rd ra rb)
  | 0x16 => zeroed three (.minu rd ra rb)
  | 0x17 => zeroed three (.maxu rd ra rb)
  | 0x18 => zeroed two (.clz rd ra)
  | 0x19 => zeroed two (.sextb rd ra)
  | 0x1A => zeroed two (.sexth rd ra)
  | 0x1B => zeroed two (.zexth rd ra)
  | 0x1C => zeroed two (.bswap rd ra)
  | 0x1D => zeroed three (.cmovz rd ra rb)
  | 0x1E => zeroed three (.cmovnz rd ra rb)
  | _ => none

/-- Major 0x01: multiplication and division (R423). -/
def decodeMd (w : Word) : Option Instr :=
  let rd := gAt w 15
  let ra := gAt w 10
  let rb := gAt w 5
  let z := bits w 0 5 == 0
  match (bits w 20 6).toNat with
  | 1 => zeroed z (.mul rd ra rb)
  | 2 => zeroed z (.mulh rd ra rb)
  | 3 => zeroed z (.mulhu rd ra rb)
  | 4 => zeroed z (.div rd ra rb)
  | 5 => zeroed z (.divu rd ra rb)
  | 6 => zeroed z (.rem rd ra rb)
  | 7 => zeroed z (.remu rd ra rb)
  | _ => none

/-- Major 0x02: JR and JALR (R430). -/
def decodeJmp (w : Word) : Option Instr :=
  match (bits w 20 6).toNat with
  | 1 => zeroed (bits w 15 5 == 0 && bits w 0 10 == 0) (.jr (gAt w 10))
  | 2 => zeroed (bits w 0 10 == 0) (.jalr (gAt w 15) (gAt w 10))
  | _ => none

/-- Major 0x03: format S (R401, R432). The MTS of CP_DTDATA and of CP_DTLOCK are the same instruction as MTS. -/
def decodeSys (w : Word) : Option Instr :=
  let g := gAt w 21
  let g0 := bits w 21 5 == 0
  let none0 := g0 && bits w 0 16 == 0
  let sr := bits w 0 8
  let moves := bits w 8 8 == 0 && isSpecial sr
  match (bits w 16 5).toNat with
  | 0x00 => zeroed g0 (.syscall (bits w 0 16))
  | 0x01 => zeroed g0 (.breakOp (bits w 0 16))
  | 0x02 => zeroed none0 .eret
  | 0x03 => zeroed none0 .fence
  | 0x04 => zeroed none0 .iflush
  | 0x08 => zeroed moves (.mfs g sr)
  | 0x09 => zeroed moves (.mts g sr)
  | 0x0C => zeroed none0 .di
  | 0x0D => zeroed none0 .ei
  | _ => none

/-- Majors 0x08 to 0x29: formats I, M, B and J (R406, R408). -/
def decodeImm (w : Word) : Option Instr :=
  let a := gAt w 21
  let b := gAt w 16
  let imm := bits w 0 16
  match (bits w 26 6).toNat with
  | 0x08 => some (.addi a b imm)
  | 0x09 => some (.andi a b imm)
  | 0x0A => some (.ori a b imm)
  | 0x0B => some (.xori a b imm)
  | 0x0C => some (.slti a b imm)
  | 0x0D => some (.sltiu a b imm)
  | 0x0E => zeroed (bits w 16 5 == 0) (.movhi a imm)
  | 0x10 => some (.lw a b imm)
  | 0x11 => some (.lh a b imm)
  | 0x12 => some (.lhu a b imm)
  | 0x13 => some (.lb a b imm)
  | 0x14 => some (.lbu a b imm)
  | 0x18 => some (.sw a b imm)
  | 0x19 => some (.sh a b imm)
  | 0x1A => some (.sb a b imm)
  | 0x20 => some (.beq a b imm)
  | 0x21 => some (.bne a b imm)
  | 0x22 => some (.blt a b imm)
  | 0x23 => some (.bge a b imm)
  | 0x24 => some (.bltu a b imm)
  | 0x25 => some (.bgeu a b imm)
  | 0x28 => some (.jump (bits w 0 26))
  | 0x29 => some (.jal (bits w 0 26))
  | _ => none

/-- Majors 0x30 to 0x36: the D formats (R410, R492, R493). -/
def decodeDsp (w : Word) : Option Instr :=
  let op := (bits w 24 2).toNat
  let acc : Fin 4 := (bits w 22 2).toFin
  let z19 : Fin 8 := (bits w 19 3).toFin
  match (bits w 26 6).toNat with
  | 0x30 =>
    let ag : Fin 4 := (bits w 17 2).toFin
    let u := bitAt w 16
    let i : Instr := match op with
      | 0 => .cmac acc z19 ag u
      | 1 => .cmacj acc z19 ag u
      | 2 => .cmsu acc z19 ag u
      | _ => .cmul acc z19 ag u
    zeroed (bits w 0 16 == 0) i
  | 0x31 =>
    let z : Fin 8 := (bits w 22 3).toFin
    let ag : Fin 4 := (bits w 20 2).toFin
    zeroed (bits w 0 19 == 0) (if bitAt w 25 then .zst z ag (bitAt w 19) else .zld z ag (bitAt w 19))
  | 0x32 =>
    match op with
    | 0 => zeroed (bits w 0 22 == 0) (.aclr acc)
    | 1 => zeroed (bits w 0 13 == 0) (.zacc z19 acc (bits w 14 5) (bitAt w 13))
    | _ => none
  | 0x33 =>
    let ag : Fin 4 := (bits w 23 2).toFin
    zeroed (bits w 0 16 == 0)
      (if bitAt w 25 then .agget ag (gAt w 16) (bits w 21 2) else .agset ag (gAt w 16) (bits w 21 2))
  | 0x34 =>
    let g := gAt w 19
    let z : Fin 8 := (bits w 16 3).toFin
    let a : Fin 4 := (bits w 16 2).toFin
    match op with
    | 0 => zeroed (bits w 0 16 == 0) (.zput z g)
    | 1 => zeroed (bits w 0 16 == 0) (.zget z g)
    | 2 => zeroed (!bitAt w 18 && bits w 0 14 == 0) (.accput a g (bits w 14 2))
    | _ => zeroed (!bitAt w 18 && bits w 0 14 == 0) (.accget a g (bits w 14 2))
  | 0x35 => zeroed (bits w 0 13 == 0) (.gather (bits w 24 2).toFin acc (gAt w 17) (bits w 13 4).toFin)
  | 0x36 => zeroed (bits w 0 20 == 0) (if bitAt w 25 then .dload (gAt w 20) else .dsave (gAt w 20))
  | _ => none

/-- The instruction that a word encodes; a word without one raises RESERVED_OP (R407 to R411, R493, R527). -/
def instrOf (w : Word) : Option Instr :=
  let m := (bits w 26 6).toNat
  if m = 0 then decodeAlu w
  else if m = 1 then decodeMd w
  else if m = 2 then decodeJmp w
  else if m = 3 then decodeSys w
  else if m < 0x30 then decodeImm w
  else if m < 0x38 then decodeDsp w
  else if m = 0x3E then some (.cx (bits w 23 3).toFin (gAt w 18) (gAt w 13) (gAt w 8) (bits w 0 8))
  else none

/-- The word encodes an instruction (R407 to R411). -/
def isAssigned (w : Word) : Bool := (instrOf w).isSome

end Sys2Proof.Machine
end

