-- ==== Sys2Proof/Machine/System.lean ====
section
/-!
DEFINITION. System instructions, special registers, and the encodings that raise RESERVED_OP (09_kraura_isa.md 2, 3, 4, 6.6; 11 section 2;
12 section 6).
-/
namespace Sys2Proof.Machine

-- Words

/-- An instruction of format S (R406, R432). -/
def sysWord (g : GReg) (sub : Nat) (imm : BitVec 16) : Word :=
  fld 26 3#6 ||| nfld 21 g.val ||| nfld 16 sub ||| fld 0 imm

-- Serialising instructions

/-- Every earlier instruction, DSP operations included, completes (R434, R505). -/
def State.serialise (s : State) : State :=
  let d := s.core.dsp.inFlight.foldl (fun n w => max n w.left) 0
  s.tick (s.core.late.foldl (fun n p => max n p.2) d)

/-- A system instruction: it stops run-ahead, and waits for what came before (R434, R458). -/
def State.sysInstr (s : State) (reads : List GReg) (run : Word → State → Ran) : Out :=
  s.coreInstr false reads .stop fun pc s => run pc s.serialise

/-- The two cycles beyond its own of an instruction that takes 3 (R432). -/
def State.three (s : State) : State := s.tick 2

/-- SYSCALL and BREAK (R404, R433). -/
def execSyscall (code : BitVec 16) (s : State) : Out :=
  s.sysInstr [] fun _ s => .raise { code := xSyscall, badInst := some (sysWord 0 0 code), after := true } s
def execBreakOp (code : BitVec 16) (s : State) : Out :=
  s.sysInstr [] fun _ s => .raise { code := xBreak, badInst := some (sysWord 0 1 code) } s

/-- ERET (R419, R435, R481, R486) (DEDUCED, assumption 36). -/
def execEret (s : State) : Out :=
  s.sysInstr [] fun _ s =>
    if !aligned s.core.epc 4 then .raise { code := xAlign, badAddr := some s.core.epc } s
    else .done { s with core := s.core.returned }.three

/-- The store buffer empties, and every earlier load and prefetch completes (R436). -/
def State.fenced (s : State) : State :=
  let s1 := s.drainStores
  s1.tick ((s1.core.flashBuf ++ s1.core.groupBuf).foldl (fun n l => max n l.left) 0)

/-- FENCE (R436, R469). -/
def execFence (s : State) : Out := s.sysInstr [] fun _ s => .done s.fenced

/-- IFLUSH (R437). -/
def execIflush (s : State) : Out :=
  s.sysInstr [] fun _ s =>
    let s1 := s.fenced
    .done { s1 with core.icache := [], core.icacheParity := [], core.flashBuf := [] }.three

/-- DI (R438). -/
def execDi (s : State) : Out :=
  s.sysInstr [] fun _ s => .done { s with core.csd := if s.core.csd = 15 then 15 else s.core.csd + 1 }.three

/-- EI: at depth 0 a request that can be taken is taken before the next instruction (R439). -/
def execEi (s : State) : Out :=
  s.sysInstr [] fun _ s =>
    let c := s.core.csd
    let s1 := { s with core.csd := if c = 0 then 0 else c - 1 }.three
    match s1.takeable with
    | some r => if c = 1 then .done (s1.takeAsync r) else .done s1
    | none => .done s1

/-- RESERVED_OP: a word that encodes no instruction (R407, R409, R410) (DESIGN CHOICE, assumption 37). -/
def execReservedOp (word : Word) (s : State) : Out :=
  if isAssigned word then ok s
  else s.coreInstr false [] .stop fun _ s => .raise { code := xReservedOp, badInst := some word } s

-- Special registers

/-- CP_ID (section 2). -/
def State.coreId (s : State) : Word := fld 16 (partCode s.key.orderable) ||| nfld 8 siliconMajor ||| nfld 0 siliconMinor

/-- CP_DPHASE: CCLK cycles since the edge (R66). -/
def State.dphase (s : State) : Word := BitVec.ofNat 32 (s.drip.phase * cclkMhz s.power.cclkCur / 32)

/-- CP_DRIPCTL. -/
def CoreBlock.dripCtl (c : CoreBlock) : Word := flag 17 c.dripPend ||| flag 16 c.dripBusy ||| fld 8 c.dripDiv ||| flag 0 c.dripEn

/-- CP_DTADDR and CP_DTLOCK (R552). -/
def CxBlock.dtAddr (c : CxBlock) : Word := flag 8 c.inc ||| nfld 5 c.entry.val ||| fld 0 c.word
def CxBlock.dtLock (c : CxBlock) : Word := flag 1 c.denied ||| flag 0 c.lock

/-- The value of a special register (R401, R402). -/
def State.special (s : State) (sr : BitVec 8) : Word :=
  let c := s.core
  match sr.toNat with
  | 0x00 => c.status
  | 0x01 => c.epc
  | 0x02 => c.cause
  | 0x03 => c.vbase
  | 0x04 => c.badInst
  | 0x05 => c.badAddr
  | 0x06 => c.scratch0
  | 0x07 => c.scratch1
  | 0x08 => s.coreId
  | 0x09 => c.cycle.extractLsb' 0 32
  | 0x0A => c.cycleHi
  | 0x10 => fld 0 c.dsp.gstart
  | 0x11 => fld 8 c.dsp.gfReason ||| fld 0 c.dsp.gfK
  | 0x12 => c.dsp.gfAddr
  | 0x14 => c.cx.dtAddr
  | 0x15 => (c.cx.table[c.cx.entry]).read c.cx.word.toNat
  | 0x16 => c.cx.dtLock
  | 0x20 => s.drip.count.extractLsb' 0 32
  | 0x21 => fld 0 c.dripHi
  | 0x22 => s.dphase
  | 0x23 => c.dripCtl
  | 0x24 => c.dripMiss
  | _ => 0

/-- What a read of a special register changes: captures, and the advance of CP_DTADDR (R405, R552, and 02 section 7). -/
def State.specialRead (s : State) (sr : BitVec 8) : State :=
  match sr.toNat with
  | 0x09 => { s with core.cycleHi := s.core.cycle.extractLsb' 32 32 }
  | 0x15 => { s with core.cx := s.core.cx.advance }
  | 0x20 => { s with core.dripHi := s.drip.count.extractLsb' 32 16 }
  | _ => s

/-- A write of CP_DTLOCK: LOCK is set by 1, DENIED cleared by 1 (R541, R552). -/
def CxBlock.writeLock (c : CxBlock) (v : Word) : CxBlock := { c with lock := c.lock || bitAt v 0, denied := c.denied && !bitAt v 1 }

/-- A write of CP_DOZE: DOZE, unless an event of R122 is pending, which is then taken at once (R121 to R123). -/
def State.enterDoze (s : State) (v : Word) : State :=
  if !bitAt v 0 then s
  else
    let s1 := s.drainStores
    if s1.dozeEnds then (match s1.takeable with | some r => s1.takeAsync r | none => s1)
    else { s1 with core.doze := true }

/-- A write of a special register (R401, R402). -/
def State.specialWrite (s : State) (sr : BitVec 8) (v : Word) : State :=
  let c := s.core
  match sr.toNat with
  | 0x00 => { s with core := c.setStatus v }
  | 0x01 => { s with core.epc := v &&& 0xFFFFFFFC#32 }
  | 0x03 => { s with core.vbase := v &&& 0xFFFFFE00#32 }
  | 0x04 => { s with core.badInst := v }
  | 0x05 => { s with core.badAddr := v }
  | 0x06 => { s with core.scratch0 := v }
  | 0x07 => { s with core.scratch1 := v }
  | 0x10 => { s with core.dsp.gstart := bits v 0 5 }
  | 0x14 => { s with core.cx.inc := bitAt v 8, core.cx.entry := (bits v 5 3).toFin, core.cx.word := bits v 0 5 }
  | 0x15 => { s with core.cx := c.cx.writeData v }
  | 0x16 => { s with core.cx := c.cx.writeLock v }
  | 0x23 => { s with core.dripDiv := bits v 8 8, core.dripEn := bitAt v 0 }
  | 0x24 => { s with core.dripMiss := v }
  | 0x25 => s.enterDoze v
  | _ => s

/-- MFS (R401, R434). -/
def execMfs (rd : GReg) (sr : BitVec 8) (s : State) : Out :=
  s.sysInstr [] fun _ s =>
    if isSpecial sr then (s.specialRead sr).three.writes rd (s.special sr)
    else .raise { code := xReservedOp, badInst := some (sysWord rd 8 (sr.setWidth 16)) } s

/-- MTS (R401, R402, R434). -/
def State.mtsInstr (s : State) (rt : GReg) (sr : BitVec 8) : Out :=
  s.sysInstr [rt] fun _ s =>
    if isSpecial sr then .done (s.three.specialWrite sr (s.greg rt))
    else .raise { code := xReservedOp, badInst := some (sysWord rt 9 (sr.setWidth 16)) } s

def execMts (rt : GReg) (sr : BitVec 8) (s : State) : Out := s.mtsInstr rt sr
/-- The MTS of two special registers with rows of their own (R540, R541). -/
def execCpDtdata (rt : GReg) (s : State) : Out := s.mtsInstr rt 0x15
def execCpDtlock (rt : GReg) (s : State) : Out := s.mtsInstr rt 0x16

/-- DOZE: an MTS of 1 to CP_DOZE (R121). -/
def execDoze (s : State) : Out := s.sysInstr [] fun _ s => .done (s.three.enterDoze 1)

end Sys2Proof.Machine
end

