-- ==== Sys2Proof/Machine/CoreEvents.lean ====
section
/-!
DEFINITION. Events of the core: entries, run-ahead episodes, the store buffer, and the ends of DOZE and LISTEN (10_core_execution.md;
03_power_clocks_modes.md 4).
-/
namespace Sys2Proof.Machine

/-- INTERRUPT_ENTRY (R477, R478) (DEDUCED, assumption 20). -/
def execInterruptEntry (s : State) : Out :=
  ok (match s.takeable with
    | some r => whenDo s.coreRuns s (s.takeAsync r)
    | none => s)

/-- EXCEPTION_ENTRY: the instruction at the PC cannot be fetched (R473, R906). Every other synchronous exception is taken by the command of
the instruction that raises it (DESIGN CHOICE, assumption 37). -/
def execExceptionEntry (s : State) : Out :=
  ok (match s.fetchFault s.core.pc.toNat with
    | some x => whenDo (s.coreRuns && s.core.episode.isNone) s (s.raiseSync s.core.pc x)
    | none => s)

/-- The shadow file at entry to an episode that the load at `trigger` among the outstanding ones starts (R457, R905). -/
def CoreBlock.newEpisode (c : CoreBlock) (trigger : Nat) : Episode :=
  { g := c.g
    poison := c.loads.foldl (fun m l => m ||| (1#32) <<< l.rt.val) 0#32
    pc := c.pc
    left := (c.loads.take (trigger + 1)).foldl (fun n l => max n l.left) 0
    misses := c.loads.map (·.left)
    late := c.late }

/-- RUNAHEAD_ENTRY: the instruction at the PC reads the result of outstanding slow loads, of which the one at `trigger` arrives last and has not
arrived (R455, R456, R905) (DEDUCED, assumption 21). -/
def execRunaheadEntry (trigger : Fin 4) (s : State) : Out :=
  let c := s.core
  let awaits := match c.loads[trigger.val]? with
    | some l => l.left != 0
    | none => false
  let can := s.coreRuns && c.episode.isNone && !c.wokeDoze && awaits && s.takeable.isNone
  ok (whenDo can s { s with core.episode := some (c.newEpisode trigger) })

/-- RUNAHEAD_EXIT (R462): the triggering load's data arrives, it and every older load have written, and execution resumes at the first waiting
instruction, 1 cycle later than without the episode. -/
def execRunaheadExit (s : State) : Out :=
  ok (match s.core.episode with
    | some e => whenDo s.coreRuns s ({ s.tick e.left with core.episode := none }.tick 1)
    | none => s)

/-- STORE_DRAIN (R465); a store younger than an instruction in progress stays (R446). -/
def execStoreDrain (phase : Fin 8000) (s : State) : Out :=
  ok (whenDo (s.power.hold == .none && !s.core.storesHeld) s (s.atPhase phase).drainOne)

/-- The core leaves DOZE; a request that can be taken is then taken first (R122). -/
def State.leaveDoze (s : State) : State :=
  { s with core.doze := false, core.dozeEvent := false, core.wokeDoze := s.takeable.isSome }

/-- DOZE_WAKE (R122, R139). -/
def execDozeWake (s : State) : Out :=
  let here := match s.power.mode with
    | .run | .service | .sump => true
    | _ => false
  ok (whenDo (s.core.doze && s.dozeEnds && here && s.power.wake == .none && s.power.hold == .none) s s.leaveDoze)

/-- LISTEN_WAKE: a leaf that the core mask enables, or an enabled GPIO wake, ends LISTEN, and the PLL locks (R137, R138) (DEDUCED, assumption 29). -/
def execListenWake (s : State) : Out :=
  let due := ((List.range 4).any fun i => s.cause.levelRequested (i + 1)) || s.power.wakeActive.getLsbD 0
  ok (whenDo (s.power.mode == .listen && s.power.hold == .none && due) s
    { s with power.mode := .run, power.pllLock := true, power.wakeActive := 0 }.leaveDoze)

end Sys2Proof.Machine
end

