-- ==== Sys2Proof/Machine/Dsp.lean ====
section
/-!
DEFINITION. The D-format instructions: multiply-accumulate, moves, address generators, DSAVE and DLOAD (11_dsp_datapath.md).
-/
namespace Sys2Proof.Machine

-- Operands in DTCM

/-- The checks of a word access to DTCM: alignment, then range (R498, R522, R534); the area is `size` bytes. -/
def dtcmFault (a size : Nat) (store : Bool) : Option Exc :=
  let x : Exc := { code := xAlign, store := store, badAddr := some (BitVec.ofNat 32 a) }
  if a % 4 != 0 then some x
  else if a < 0x10000000 || 0x10008000 < a + size then some { x with code := xBusFault }
  else none

/-- A word of DTCM as the datapath reads it (R466, R498, R509). -/
def State.dtcmRead (s : State) (a : Nat) : Loaded :=
  match dtcmFault a 4 false with
  | some x => .fails x
  | none => s.loadRam a 4

/-- A D-format instruction; it stops run-ahead (R458). -/
def State.dspInstr (s : State) (reads : List GReg) (run : State → Ran) : Out := s.coreInstr true reads .stop fun _ s => run s

/-- A DSP write enters its latency (R501). -/
def State.dspPush (s : State) (e : DspEffect) (l : Nat) : State := s.setDsp (s.core.dsp.push e l)

/-- The step that U asks for (R497, R500). -/
def State.agStep (s : State) (n : Fin 4) (u : Bool) : State :=
  if u then { s with core.dsp.ag := s.core.dsp.ag.set n (s.core.dsp.ag[n]).step } else s

/-- An instruction with the memory operand m: a corrected error delays its issue by a cycle, and U steps ag (R494, R498, R499, R509). -/
def State.withOperand (s : State) (ag : Fin 4) (u : Bool) (k : Word → State → State) : Ran :=
  match s.dtcmRead (s.core.dsp.ag[ag]).p.toNat with
  | .fails x => .raise x s
  | .value m n s1 => .done ((k m (if n = 3 then s1.tick 1 else s1)).agStep ag u)

-- Multiply-accumulate

/-- CMAC, CMACJ, CMSU and CMUL (R494, R495, R501). -/
def State.macInstr (s : State) (op : MacOp) (acc : Fin 4) (z : Fin 8) (ag : Fin 4) (u : Bool) : Out :=
  s.dspInstr [] fun s => s.withOperand ag u fun m s => s.dspPush (op.effect acc s.core.dsp.z[z] m) 3

def execCmac (acc : Fin 4) (z : Fin 8) (ag : Fin 4) (u : Bool) (s : State) : Out := s.macInstr .cmac acc z ag u
def execCmacj (acc : Fin 4) (z : Fin 8) (ag : Fin 4) (u : Bool) (s : State) : Out := s.macInstr .cmacj acc z ag u
def execCmsu (acc : Fin 4) (z : Fin 8) (ag : Fin 4) (u : Bool) (s : State) : Out := s.macInstr .cmsu acc z ag u
def execCmul (acc : Fin 4) (z : Fin 8) (ag : Fin 4) (u : Bool) (s : State) : Out := s.macInstr .cmul acc z ag u

-- Moves between z, accumulators, memory and general registers

def execZld (z : Fin 8) (ag : Fin 4) (u : Bool) (s : State) : Out :=
  s.dspInstr [] fun s => s.withOperand ag u fun m s => s.dspPush (.z z m false) 2

/-- ZST goes through the store buffer (R498, R499, R509). -/
def execZst (z : Fin 8) (ag : Fin 4) (u : Bool) (s : State) : Out :=
  s.dspInstr [] fun s =>
    let a := (s.core.dsp.ag[ag]).p.toNat
    match dtcmFault a 4 true with
    | some x => .raise x s
    | none => .done ((s.pushStore a 4 s.core.dsp.z[z]).agStep ag u)

def execAclr (acc : Fin 4) (s : State) : Out := s.dspInstr [] fun s => .done (s.dspPush (.accSet acc 0 0) 3)

/-- ZACC, which then clears the accumulator when C is 1 (R494, R496). -/
def State.zacc (s : State) (zd : Fin 8) (acc : Fin 4) (sh : BitVec 5) (c : Bool) : State :=
  let v := zaccValue s.core.dsp.accI[acc] s.core.dsp.accQ[acc] sh.toNat
  let s1 := s.dspPush (.z zd v.1 v.2) 2
  if c then s1.dspPush (.accSet acc 0 0) 3 else s1

def execZacc (zd : Fin 8) (acc : Fin 4) (sh : BitVec 5) (c : Bool) (s : State) : Out := s.dspInstr [] fun s => .done (s.zacc zd acc sh c)

/-- Fields of an address generator (R492, R494): 0 P, 1 S, 2 B, 3 L. -/
def AddrGen.setField (a : AddrGen) (field : BitVec 2) (v : Word) : AddrGen :=
  match field with
  | 0 => { a with p := v }
  | 1 => { a with s := bits v 0 16 }
  | 2 => { a with b := v }
  | _ => { a with l := bits v 0 16 }

def AddrGen.field (a : AddrGen) (field : BitVec 2) : Word :=
  match field with
  | 0 => a.p
  | 1 => a.s.signExtend 32
  | 2 => a.b
  | _ => a.l.setWidth 32

def execAgset (ag : Fin 4) (g : GReg) (field : BitVec 2) (s : State) : Out :=
  s.dspInstr [g] fun s => .done { s with core.dsp.ag := s.core.dsp.ag.set ag ((s.core.dsp.ag[ag]).setField field (s.greg g)) }
def execAgget (ag : Fin 4) (g : GReg) (field : BitVec 2) (s : State) : Out :=
  s.dspInstr [] fun s => s.writes g ((s.core.dsp.ag[ag]).field field)
def execZput (z : Fin 8) (g : GReg) (s : State) : Out := s.dspInstr [g] fun s => .done (s.dspPush (.z z (s.greg g) false) 2)
def execZget (z : Fin 8) (g : GReg) (s : State) : Out := s.dspInstr [] fun s => s.writes g s.core.dsp.z[z]
def execAccput (acc : Fin 4) (g : GReg) (part : BitVec 2) (s : State) : Out :=
  s.dspInstr [g] fun s => .done (s.dspPush (.accPart acc part (s.greg g)) 3)
def execAccget (acc : Fin 4) (g : GReg) (part : BitVec 2) (s : State) : Out :=
  s.dspInstr [] fun s => s.writes g (accPart s.core.dsp.accI[acc] s.core.dsp.accQ[acc] part)

-- Save and restore

/-- The first `n` words of a DSAVE area (R521, R523). -/
def State.saveWords (s : State) (a n : Nat) : State :=
  (List.range n).foldl (fun s i => s.putDtcm (a + 4 * i) (s.core.dsp.saveWord i)) s

/-- DSAVE; a request that can be taken meanwhile abandons it with any number of words written (R521 to R523, R525). -/
def execDsave (g : GReg) (s : State) : Out :=
  s.coreInstr false [g] .stop fun pc s =>
    let a := (s.greg g).toNat
    match dtcmFault a 136 true with
    | some x => .raise x s
    | none =>
      let s1 := s.serialise.drainStores
      match s1.takeable with
      | none => .done ((s1.saveWords a 34).tick 33)
      | some r =>
        let (n, s2) := s1.draw 35
        let s3 := s2.saveWords a n
        if n = 34 then .done (s3.tick 33) else .done ({ s3 with core.pc := pc }.takeAsync r)

/-- The words of a DLOAD area, or the address of the first uncorrectable one (R524). -/
def State.readWords (s : State) (a : Nat) : Nat → List Word × Option Exc × State
  | 0 => ([], none, s)
  | n + 1 =>
    match s.loadRam a 4 with
    | .fails x => ([], some x, s)
    | .value v _ s1 => let (ws, x, s2) := s1.readWords (a + 4) n; (v :: ws, x, s2)

/-- DLOAD (R521, R522, R524); one that a request abandons has not begun. -/
def execDload (g : GReg) (s : State) : Out :=
  s.coreInstr false [g] .stop fun _ s =>
    let a := (s.greg g).toNat
    match dtcmFault a 136 false with
    | some x => .raise x s
    | none =>
      let (ws, x, s1) := s.serialise.readWords a 34
      match x with
      | some x => .raise x s1
      | none => .done ({ s1 with core.dsp := s1.core.dsp.loadWords fun i => ws.getD i 0 }.tick 34)

end Sys2Proof.Machine
end

