-- ==== Sys2Proof/Machine/Cx.lean ====
section
/-!
DEFINITION. Custom instructions: the micro-ops of a decode-table entry (12_custom_instructions.md 1, 2, 4).
-/
namespace Sys2Proof.Machine

/-- A custom instruction in execution. -/
structure CxRun where
  /-- Values of rd, ra, rb at issue, and imm8 (R529). -/
  rd : Word
  ra : Word
  rb : Word
  imm : Word
  /-- t0 to t3, and the cycles until each is readable (R531, R545). -/
  t : Vector Word 4 := Vector.replicate 4 0
  tLate : Vector Nat 4 := Vector.replicate 4 0
  /-- Cycles until a z register or an accumulator that this instruction wrote is readable (R545). -/
  zLate : Vector Nat 8 := Vector.replicate 8 0
  accLate : Vector Nat 4 := Vector.replicate 4 0
  /-- Working address generators (R532). -/
  ag : Vector AddrGen 4
  /-- Staged stores and register writes, in micro-op order; a register is 0 rd, 1 ra, 2 rb. -/
  stores : List (Nat × Word) := []
  regs : List (Nat × Word) := []

/-- A source (R530). -/
def CxRun.src (c : CxRun) (n : Nat) : Word :=
  match n with
  | 0 => c.rd
  | 1 => c.ra
  | 2 => c.rb
  | 3 => c.imm
  | _ => c.t.getD (n - 4) 0

/-- Cycles until a source is readable. -/
def CxRun.srcLate (c : CxRun) (n : Nat) : Nat := if n < 4 then 0 else c.tLate.getD (n - 4) 0

/-- `k` cycles pass. -/
def CxRun.pass (c : CxRun) (k : Nat) : CxRun :=
  { c with tLate := c.tLate.map (· - k), zLate := c.zLate.map (· - k), accLate := c.accLate.map (· - k) }

/-- A result in temporary D. -/
def CxRun.put (c : CxRun) (d : Fin 4) (v : Word) (l : Nat) : CxRun := { c with t := c.t.set d v, tLate := c.tLate.set d l }

/-- Fields of X (R531). -/
def uAg (w : Word) : Fin 4 := (bits w 16 2).toFin
def uAcc (w : Word) : Fin 4 := (bits w 14 2).toFin
def uZ (w : Word) : Fin 8 := (bits w 11 3).toFin

/-- Sources that an operation reads (R531). -/
def uReadsA (op : Nat) : Bool := (0x01 ≤ op && op ≤ 0x0A) || [0x10, 0x12, 0x19, 0x20, 0x21, 0x22].contains op
def uReadsB (op : Nat) : Bool := (0x02 ≤ op && op ≤ 0x0A) || [0x12, 0x13, 0x18].contains op

/-- Cycles that a micro-op stalls for its temporaries and for its own instruction's DSP writes (R503, R545). -/
def CxRun.stall (c : CxRun) (w : Word) : Nat :=
  let op := uOp w
  let a := if uReadsA op then c.srcLate (uA w) else 0
  let b := if uReadsB op then c.srcLate (uB w) else 0
  let d := match op with
    | 0x0C => c.tLate[uD w]
    | 0x18 => c.zLate[uZ w]
    | 0x1A => c.zLate[uZ w]
    | 0x1B => c.accLate[uAcc w]
    | 0x1C => c.accLate[uAcc w]
    | _ => 0
  max a (max b d)

/-- The micro-ops that compute a temporary from their sources, with their latency (R531). -/
def CxRun.compute (c : CxRun) (w : Word) : Option (Word × Nat) :=
  let a := c.src (uA w)
  let b := c.src (uB w)
  let n := (bits b 0 5).toNat
  match uOp w with
  | 0x01 => some (a, 1)
  | 0x02 => some (a + b, 1)
  | 0x03 => some (a - b, 1)
  | 0x04 => some (a &&& b, 1)
  | 0x05 => some (a ||| b, 1)
  | 0x06 => some (a ^^^ b, 1)
  | 0x07 => some (a <<< n, 1)
  | 0x08 => some (a >>> n, 1)
  | 0x09 => some (a.sshiftRight n, 1)
  | 0x0A => some (a * b, 2)
  | 0x0B => some ((bits w 0 16).signExtend 32, 1)
  | 0x0C => some (bits w 0 16 ++ (c.t[uD w]).extractLsb' 0 16, 1)
  | _ => none

/-- What a micro-op answers. -/
inductive CxStep where
  | next (c : CxRun) (s : State)
  /-- ENDZ or ENDNZ ends the instruction. -/
  | last (c : CxRun) (s : State)
  | fails (x : Exc) (s : State)

/-- The address of a memory micro-op, and the run after its step (R531, R532). -/
def CxRun.address (c : CxRun) (w : Word) : Nat × CxRun :=
  if uOp w = 0x10 || uOp w = 0x12 then ((c.src (uA w) + (bits w 0 16).signExtend 32).toNat, c)
  else
    let g := c.ag[uAg w]
    (g.p.toNat, if bitAt w 15 then { c with ag := c.ag.set (uAg w) g.step } else c)

/-- LDT and LDA (R531, R534, R545). -/
def CxRun.load (c : CxRun) (w : Word) (s : State) : CxStep :=
  let (a, c1) := c.address w
  match s.dtcmRead a with
  | .fails x => .fails x s
  | .value v n s1 => if n = 3 then .next ((c1.pass 1).put (uD w) v 2) (s1.tick 1) else .next (c1.put (uD w) v 2) s1

/-- STT and STA (R531, R532, R534). -/
def CxRun.store (c : CxRun) (w : Word) (s : State) : CxStep :=
  let (a, c1) := c.address w
  match dtcmFault a 4 true with
  | some x => .fails x s
  | none => .next { c1 with stores := c1.stores ++ [(a, c.src (uB w))] } s

/-- The four operations of DMAC (R531). -/
def macOf (n : BitVec 2) : MacOp :=
  match n with
  | 0 => .cmac
  | 1 => .cmacj
  | 2 => .cmsu
  | _ => .cmul

/-- The DSP micro-ops (R531, R533). -/
def CxRun.dsp (c : CxRun) (w : Word) (s : State) : CxStep :=
  let d := s.core.dsp
  let acc := uAcc w
  let z := uZ w
  match uOp w with
  | 0x18 => .next { c with accLate := c.accLate.set acc 3 } (s.dspPush ((macOf (bits w 16 2)).effect acc d.z[z] (c.src (uB w))) 3)
  | 0x19 => .next { c with zLate := c.zLate.set z 2 } (s.dspPush (.z z (c.src (uA w)) false) 2)
  | 0x1A => .next (c.put (uD w) d.z[z] 1) s
  | 0x1B => .next (c.put (uD w) (accPart d.accI[acc] d.accQ[acc] (bits w 12 2)) 1) s
  | 0x1C =>
    let clears := bitAt w 5
    .next { c with zLate := c.zLate.set z 2, accLate := if clears then c.accLate.set acc 3 else c.accLate } (s.zacc z acc (bits w 6 5) clears)
  | _ => .next { c with accLate := c.accLate.set acc 3 } (s.dspPush (.accSet acc 0 0) 3)

/-- One micro-op, in the cycle in which it executes (R531). -/
def CxRun.step (c : CxRun) (w : Word) (s : State) : CxStep :=
  match c.compute w with
  | some (v, l) => .next (c.put (uD w) v l) s
  | none =>
    match uOp w with
    | 0x10 => c.load w s
    | 0x11 => c.load w s
    | 0x12 => c.store w s
    | 0x13 => c.store w s
    | 0x14 => .next { c with ag := c.ag.set (uAg w) (c.ag[uAg w]).step } s
    | 0x20 => .next { c with regs := c.regs ++ [((bits w 16 2).toNat, c.src (uA w))] } s
    | 0x21 => if c.src (uA w) = 0 then .last c s else .next c s
    | 0x22 => if c.src (uA w) = 0 then .next c s else .last c s
    | _ => c.dsp w s

/-- The micro-ops of an entry, one a cycle, stalls apart (R537, R544, R545). -/
def CxRun.ops (c : CxRun) (s : State) (first : Bool) : List Word → CxStep
  | [] => .next c s
  | w :: ws =>
    let k := max (if first then 0 else 1) (c.stall w)
    match (c.pass k).step w (s.tick k) with
    | .next c1 s1 => c1.ops s1 false ws
    | r => r

/-- Completion: the staged effects, in micro-op order (R532). -/
def CxRun.complete (c : CxRun) (rd ra rb : GReg) (s : State) : State :=
  let s1 := c.regs.foldl (fun s x => s.result (if x.1 = 0 then rd else if x.1 = 1 then ra else rb) x.2 1) s
  let s2 := c.stores.foldl (fun s x => s.pushStore x.1 4 x.2) s1
  { s2 with core.dsp.ag := Vector.ofFn fun (i : Fin 4) => { s2.core.dsp.ag[i] with p := (c.ag[i]).p } }

/-- The word of a custom instruction (R527). -/
def cxWord (e : Fin 8) (rd ra rb : GReg) (imm8 : Byte) : Word :=
  fld 26 0x3E#6 ||| nfld 23 e.val ||| nfld 18 rd.val ||| nfld 13 ra.val ||| nfld 8 rb.val ||| fld 0 imm8

/-- CX0 to CX7 (R527 to R529, R532 to R535, R544 to R547). -/
def execCx (e : Fin 8) (rd ra rb : GReg) (imm8 : Byte) (s : State) : Out :=
  s.coreInstr false [rd, ra, rb] .stop fun _ s =>
    let entry := s.core.cx.table[e]
    if !entry.valid then .raise { code := xCxEmpty, badInst := some (cxWord e rd ra rb imm8) } s
    else
      let ws := entry.ops.toList.take entry.n.toNat
      let s1 := if ws.any uIsMem then s.drainStores else s
      let c : CxRun := { rd := s1.greg rd, ra := s1.greg ra, rb := s1.greg rb, imm := imm8.setWidth 32, ag := s1.core.dsp.ag }
      match c.ops s1 true ws with
      | .next c1 s2 => .done (c1.complete rd ra rb s2)
      | .last c1 s2 => .done (c1.complete rd ra rb s2)
      | .fails x s2 => .raise x s2

end Sys2Proof.Machine
end

