-- ==== Sys2Proof/Machine/Gather.lean ====
section
/-!
DEFINITION. GATHER (11_dsp_datapath.md 6).
-/
namespace Sys2Proof.Machine

/-- A word as element k reads it: read before or after the writes of earlier elements where they overlap it, which is open (R515). `m0` is memory
at the start. -/
def State.gatherWord (s : State) (m0 : List Host.Cell) (a : Nat) : Word × State :=
  let now := memWord s.mem a
  let before := memWord m0 a
  if now = before then (now, s)
  else
    let (x, s1) := s.draw 2
    (if x = 0 then before else now, s1)

/-- The sources of check 4 (R511). -/
def gatherSource (a : Nat) : Bool := fetchable a || regionOf a == .gallery

/-- The source word has an uncorrectable error (check 5). -/
def State.sourceBad (s : State) (a : Nat) : Bool :=
  match regionOf a with
  | .flash => s.integ.uncorrUnits.contains (unitOf a)
  | .dtcm => s.ramBad a
  | .sram => s.ramBad a
  | _ => false

/-- A good source is read: buffers fill, corrections are reported, and its load latency (R441, R442, R511, R516, R606, R608). -/
def State.sourceUse (s : State) (a : Nat) : Nat × State :=
  match regionOf a with
  | .flash =>
    let (n, s1) := s.readUnit (unitOf a) []
    let (fixed, s2) := s1.useFlash (unitOf a)
    (if fixed then n + 1 else n, s2)
  | .dtcm => (if s.ramFixed a then 3 else 2, s.ramReport a)
  | .sram => (if s.ramFixed a then 3 else 2, s.ramReport a)
  | _ => (3, s)

/-- A word of DTCM that GATHER may use. -/
def gatherDtcm (a : Nat) : Bool := (dtcmFault a 4 false).isNone

/-- One element: its fault with reason and address and the state then, or its source's latency and the state with its word written (R510, R511)
(DEDUCED, assumption 22). -/
def State.gatherElement (s : State) (m0 : List Host.Cell) (agD agI : AddrGen) (base : Word) (k : Nat) :
    Except ((BitVec 3 × Word) × State) (Nat × State) :=
  let ia := (agI.steps k).p
  let da := (agD.steps k).p
  if !gatherDtcm ia.toNat then .error ((1, ia), s)
  else if s.ramBad ia.toNat then .error ((2, ia), s)
  else
    let (index, s1) := (s.ramReport ia.toNat).gatherWord m0 ia.toNat
    let sa := base + (index <<< 2)
    if sa.toNat % 4 != 0 then .error ((3, sa), s1)
    else if !gatherSource sa.toNat then .error ((4, sa), s1)
    else if s1.sourceBad sa.toNat then .error ((5, sa), s1)
    else if s1.flash.busyAt sa.toNat then .error ((6, sa), s1)
    else if !gatherDtcm da.toNat then .error ((7, da), s1)
    else
      let (l, s2) := s1.sourceUse sa.toNat
      let (v, s3) := s2.gatherWord m0 sa.toNat
      .ok (l, s3.putDtcm da.toNat v)

/-- Elements in flight: the cycles until each completes, oldest first, after `k` cycles (R512). -/
def flightPass (f : List Nat) (k : Nat) : List Nat := (f.filter fun n => decide (k < n)).map (· - k)

/-- Cycles before the next element can issue: one after an earlier element, and with 4 in flight until the oldest completes (R512). -/
def flightWait (f : List Nat) (first : Bool) : Nat := max (if first then 0 else 1) (if 4 ≤ f.length then f.headD 0 else 0)

/-- How far GATHER came: the number of the first element not written, its fault if any, the cycles until the last one in flight completes, and the
state. -/
structure Gathered where
  next : Nat
  fault : Option (BitVec 3 × Word)
  left : Nat
  state : State

/-- `n` elements from `k` on, one a cycle, in index order, with at most 4 in flight (R512, R517). -/
def State.gatherFrom (s : State) (m0 : List Host.Cell) (agD agI : AddrGen) (base : Word) (k : Nat) (f : List Nat) (first : Bool) : Nat → Gathered
  | 0 => ⟨k, none, f.getLastD 0, s⟩
  | n + 1 =>
    let w := flightWait f first
    let f1 := flightPass f w
    match (s.tick w).gatherElement m0 agD agI base k with
    | .error (x, s1) => ⟨k, some x, f1.getLastD 0, s1⟩
    | .ok (l, s1) => s1.gatherFrom m0 agD agI base (k + 1) (f1 ++ [max l (f1.getLastD 0 + 1)]) false n

/-- GATHER completes; a generator that serves as both advances by count steps like any other (R513). -/
def State.gatherDone (s : State) (agD agI : Fin 4) (count : Nat) : State :=
  let a := s.core.dsp.ag
  { s with core.dsp.ag := (a.set agD ((a[agD]).steps count)).set agI ((a[agI]).steps count), core.dsp.gstart := 0 }

/-- GATHER faults at element `k` (R517). -/
def State.gatherFault (s : State) (k : Nat) (f : BitVec 3 × Word) : Ran :=
  .raise { code := xGatherFault }
    { s with core.dsp.gfReason := f.1, core.dsp.gfK := BitVec.ofNat 5 k, core.dsp.gfAddr := f.2, core.dsp.gstart := BitVec.ofNat 5 k }

/-- A request is taken during GATHER: elements written stay, and CP_GSTART names the first that is not (R519). -/
def State.gatherTaken (s : State) (r : AsyncReq) (pc : Word) (k : Nat) : Ran :=
  .done ({ s with core.pc := pc, core.dsp.gstart := BitVec.ofNat 5 k }.takeAsync r)

/-- GATHER agD, agI, gBase, count; `count` is the field count − 1 (R510 to R519). A request that can be taken is taken after any number of
elements, which is open, or after completion. -/
def execGather (agD agI : Fin 4) (gBase : GReg) (count : Fin 16) (s : State) : Out :=
  s.coreInstr false [gBase] .stop fun pc s =>
    let s1 := s.serialise.drainStores
    let d := s1.core.dsp
    let n := count.val + 1
    let k := d.gstart.toNat
    let run := fun (s : State) (m : Nat) => s.gatherFrom s.mem d.ag[agD] d.ag[agI] (s.greg gBase) k [] true m
    match s1.takeable with
    | none =>
      let r := run s1 (n - k)
      match r.fault with
      | some x => r.state.gatherFault r.next x
      | none => .done ((r.state.gatherDone agD agI n).tick (if r.left = 0 then 0 else r.left + 1))
    | some q =>
      let (j, s2) := s1.draw (n - k + 1)
      let r := run s2 j
      if r.fault.isNone && n ≤ r.next then .done (r.state.gatherDone agD agI n) else r.state.gatherTaken q pc r.next

end Sys2Proof.Machine
end

