-- ==== Sys2Proof/Machine/LoadStore.lean ====
section
/-!
DEFINITION. Loads and stores of the core (09_kraura_isa.md 5.1, 6.4).
-/
namespace Sys2Proof.Machine

/-- The load completes: its value goes to `rt`, and a slow load stays outstanding until its data arrives (R416, R426, R447, R455). `a` is its
address. -/
def Loaded.into (l : Loaded) (w : Width) (rt : GReg) (pc : Word) (a : Nat) (s : State) : Ran :=
  match l with
  | .value v n s1 =>
    let unit := if regionOf a = .flash then unitOf a else groupOf a
    (if 4 < n then s1.begins pc rt (some unit) n else s1).writes rt (w.extend v) n
  | .fails x => .raise x s

/-- A load that can issue under outstanding ones: R467 holds one from the I/O region, and a read through the line window verifies a line. -/
def issuesUnder (a : Nat) : Bool :=
  match regionOf a with
  | .io | .window => false
  | _ => true

/-- With four slow loads outstanding, a further one waits for the oldest (R459) (DEDUCED, assumption 19). -/
def State.loadTurn (s : State) (a size : Nat) : State :=
  match s.loadAt a size, s.core.loads with
  | .value _ n _, o :: _ => if 4 < n ∧ 4 ≤ s.core.loads.length then s.tick o.left else s
  | _, _ => s

/-- A load (R412, R426, R427). -/
def State.loadInstr (s : State) (w : Width) (rt ra : GReg) (off : BitVec 16) : Out :=
  s.coreInstr (issuesUnder (effective (s.greg ra) off).toNat) [ra] (.load w.size w.extend rt ra off) fun pc s =>
    let a := (effective (s.greg ra) off).toNat
    let s1 := s.loadTurn a w.size
    (s1.loadAt a w.size).into w rt pc a s1

def execLw (rt ra : GReg) (imm : BitVec 16) (s : State) : Out := s.loadInstr .word rt ra imm
def execLh (rt ra : GReg) (imm : BitVec 16) (s : State) : Out := s.loadInstr .half rt ra imm
def execLhu (rt ra : GReg) (imm : BitVec 16) (s : State) : Out := s.loadInstr .halfU rt ra imm
def execLb (rt ra : GReg) (imm : BitVec 16) (s : State) : Out := s.loadInstr .byte rt ra imm
def execLbu (rt ra : GReg) (imm : BitVec 16) (s : State) : Out := s.loadInstr .byteU rt ra imm

/-- A store (R412, R426, R428). -/
def State.storeInstr (s : State) (size : Nat) (rt ra : GReg) (off : BitVec 16) : Out :=
  s.coreInstr true [ra, rt] (.store size ra off) fun _ s => s.storeOp (effective (s.greg ra) off).toNat size (s.greg rt)

def execSw (rt ra : GReg) (imm : BitVec 16) (s : State) : Out := s.storeInstr 4 rt ra imm
def execSh (rt ra : GReg) (imm : BitVec 16) (s : State) : Out := s.storeInstr 2 rt ra imm
def execSb (rt ra : GReg) (imm : BitVec 16) (s : State) : Out := s.storeInstr 1 rt ra imm

end Sys2Proof.Machine
end

