-- ==== Sys2Proof/Machine/Modes.lean ====
section
/-!
DEFINITION. Supply, clocks, resets, wakes and the recovery beacon: the events of the management plane's power sequencer and timekeeper
(02_drip.md 3, 6; 03_power_clocks_modes.md; 04_pins_board.md; 19_boot_pairing.md 6).
-/
namespace Sys2Proof.Machine

/-- The drip runs and nothing holds the device in reset. -/
def State.dripRuns (s : State) : Bool := s.drip.running && s.power.hold == .none

/-- SLICE_DEADLINE: cycle 7,600; the finished slice's outputs are applied, another's are discarded (R87, R88). While the link image is reloaded the
sequencer is stopped, and no slice runs (R790). -/
def execSliceDeadline (finished : Bool) (s : State) : Out :=
  let s1 := s.atPhase 7600
  ok (whenDo s.dripRuns s
    (if s1.link.reloadEdge.isSome then s1
    else if finished then s1.sliceArm
    else { s1 with drip.seqOvrCount := satInc s1.drip.seqOvrCount }.setLeaf .linkSeqOverrun))

/-- LFCAL_RUN_END: a run that no stop of LCLK has cut ends with this count (R70, R71). -/
def execLfcalRunEnd (count : Word) (s : State) : Out :=
  ok (whenDo s.dripRuns s { s with drip.lfcal := count, drip.keptC := count, drip.calValid := true })

/-- KCLK_CALIBRATION: the trim of an oscillator, which no register shows (R108). -/
def execKclkCalibration (s : State) : Out := ok s

-- The stopped drip

/-- The drip restarts `n` ticks after the tick that ended `e` (R73, R74, R77, R95). -/
def DripBlock.restart (d : DripBlock) (e n : Nat) : DripBlock :=
  let l := e + n * d.keptC.toNat / 4096
  { d with
    count := BitVec.ofNat 48 (min (d.stopEdge.toNat + l / 8000) (2 ^ 48 - 1))
    phase := l % 8000
    running := true
    resumed := true
    lastSleep := BitVec.ofNat 32 (min n 0xFFFFFFFF)
    stopCycles := some e }

/-- The tick from which the ticks of the stopped interval are counted is the one that ended this e (R72, R902). -/
def DripBlock.agrees (d : DripBlock) (e : Nat) : Bool := d.stopCycles.isNone || d.stopCycles == some e

/-- The tick, counted from the one that ended `e`, at which the wake for edge D starts: the last that lies at least the wake latency before
the instant of the edge that E, e and C predict (R92). -/
def DripBlock.gridTick (d : DripBlock) (e target latency : Nat) : Nat :=
  ((target - d.stopEdge.toNat) * 8000 - e - latency) * 4096 / d.keptC.toNat

/-- Memory that a stopped mode lost is cleared, and every gallery line is FREE and cleared (R120, R610). -/
def State.clearLost (s : State) : State :=
  let from_ := if s.power.mode == .sleep then 0x20010000 else 0x20004000
  let s1 := ((s.clearWords from_ 0x20040000).clearWords 0x10000000 0x10008000).clearGallery
  { s1 with link.owner := Vector.replicate 128 .free }

/-- The resume tick of a wake from SLEEP or DEEP: LCLK and PCLK run, the drip restarts, and the core's clock awaits the edge of R139. -/
def State.resumeTick (s : State) (e n : Nat) : State :=
  let s1 := s.clearLost
  let d := s1.drip.restart e n
  let g := s1.periph.gpio
  let s2 := { s1 with
    drip := d
    crossing := if 7968 ≤ d.phase then some s1.toBlocks else none
    power.mode := .run, power.xoOk := true, power.pllLock := true
    power.wake := if d.phase ≤ 7360 then .resumed else .resumedLate }
  let s3 := s2.setGpio { g with edge := g.edge ||| g.edgeOnWake, edgeOnWake := 0 }
  if g.edgeOnWake != 0 then s3.resumeL else s3

/-- RESUME_TICK after a wake from SLEEP or DEEP, and after a reset that began with a running or a stopped drip, which boots (R73, R74, R77,
R902). `e` is the count of LCLK cycles captured at the stop, `ticks` the LFCLK ticks n since. -/
def execResumeTick (e : Fin 8978) (ticks : Nat) (s : State) : Out :=
  let dozes := s.dozing && (s.power.wake == .starting || s.power.wake == .restarted) && s.power.hold == .none && decide (e.val ≤ 977)
  let boots := s.power.hold == .crystal && (s.drip.stopRan || decide (e.val ≤ 977))
  ok (if !s.drip.agrees e then s
    else if dozes then s.resumeTick e ticks
    else if boots then ({ s with drip := if s.coldBoot then s.drip else s.drip.restart e ticks, power.wake := .none }).boot6 ticks
    else s)

/-- The wake tick: the active sources are recorded, and the crystal starts (R134, R581). A GPIO wake ends dormancy (R376). -/
def State.wakeTick (s : State) (src : BitVec 7) : State :=
  let p := s.power
  let g := s.periph.gpio
  let s1 := { s with power := { p with wakeSrc := p.wakeSrc ||| src, wakeActive := 0, wake := .starting } }
  if src.getLsbD 0 then
    { s1 with periph.gpio := { g with wakePin := g.wakePin ||| g.latched, edgeOnWake := g.edgeOnWake ||| g.latched, latched := 0 } }.resumeL
  else s1

/-- A stopped mode without a wake in progress. -/
def State.sleeps (s : State) : Bool := s.stoppedMode && s.power.hold == .none && s.power.wake == .none

/-- The wake latency of the stopped mode in force, in LCLK cycles (R92, R138). -/
def State.modeLatency (s : State) : Nat := wakeLatency s.power.mode.code

/-- SCHEDULED_WAKE: the tick computed for the drip of an armed scheduled wake has come, `ticks` after the one that ended `e` (R91, R92). It
starts the wake, with the sources then active recorded beside it; during a wake that is under way it is only recorded (R134). -/
def execScheduledWake (e : Fin 978) (ticks : Nat) (s : State) : Out :=
  let s1 := { s with drip.stopCycles := some e.val }
  let asleep := s.stoppedMode && s.power.hold == .none && s.drip.agrees e
  ok (match s.lantern.wake with
    | none => s
    | some d =>
      if !(asleep && ticks == s.drip.gridTick e d.toNat s.modeLatency) then s
      else if s.power.wake == .none then s1.wakeTick (s.power.wakeActive ||| 0x40)
      else { s1 with power.wakeSrc := s.power.wakeSrc ||| 0x40 })

/-- WAKE_TICK: the first tick with an enabled source active; `csn` is a falling edge of CH_CSN since the last tick (R133, R134). -/
def execWakeTick (csn : Bool) (s : State) : Out :=
  let s1 := if csn then s.csnFalls else s
  ok (whenDo (s.sleeps && s1.power.wakeActive != 0) s (s1.wakeTick s1.power.wakeActive))

/-- HIBERNATE_WAKE: the wake is a System reset with cause HIBERNATE; the crystal goes on starting (R140, R142, R581) (DEDUCED, assumption 29). -/
def execHibernateWake (s : State) : Out :=
  let r := s.afterReset false .hibernate .crystal
  let g := s.periph.gpio
  let s1 := { r with
    power.wake := s.power.wake
    periph.gpio.edge := g.edgeOnWake
    key.wakeResumes := g.edgeOnWake != 0 }
  ok (whenDo (s.power.mode == .hibernate && s.power.hold == .none && (s.power.wake == .starting || s.power.wake == .restarted)) s s1)

/-- XO_RESTART (R140). -/
def execXoRestart (s : State) : Out := ok (whenDo (s.power.wake == .starting) s { s with power.wake := .restarted })

/-- CLOCK_RESET (R140). -/
def execClockReset (s : State) : Out := ok (whenDo (s.power.wake == .restarted) s (s.afterReset false .clock .crystal))

/-- A pin's detector latches: at the wake tick to come, or as it latches during a wake (R580, R581, R134). -/
def State.latchPin (s : State) (pin : Fin 20) : State :=
  let g := s.periph.gpio
  let g1 :=
    if s.power.wake == .none then { g with latched := putBit g.latched pin true }
    else { g with wakePin := putBit g.wakePin pin true, edgeOnWake := putBit g.edgeOnWake pin true }
  { s with periph.gpio := g1 }.noteWake 1

/-- GPIO_WAKE: in a stopped mode the level of a pin changes for 1 µs or more; its detector latches when it is armed (R580, R581). -/
def execGpioWake (pin : Fin 20) (level : Bool) (s : State) : Out :=
  let g := s.periph.gpio
  let s1 := if g.level.getLsbD pin != level && s.wakeArmed pin level then s.latchPin pin else s
  ok (whenDo (s.stoppedMode && s.power.hold == .none) s { s1 with periph.gpio.level := putBit g.level pin level })

/-- GPIO_EDGE: the input of a pin, after synchroniser and filter, changes to `level` (R578, R579); on a pin enabled as a wake pin the edge is a
wake source (R125 row 5, R137), and its interrupt ends dormancy (R376). -/
def execGpioEdge (pin : Fin 20) (level : Bool) (s : State) : Out :=
  let g := s.periph.gpio
  let wakes := s.pinEdge pin level && g.waken.getLsbD pin
  let s1 := (s.gpioEdge pin level).noteWakeIf wakes 1
  ok (whenDo s.pclkRuns s (if wakes && g.irqEn.getLsbD pin then s1.resumeL else s1))

-- Supply

/-- The head of a ring has a free slot (R678). -/
def State.headHasRoom (s : State) (id : Nat) : Bool := ((s.ring id).map s.headReady).getD false

/-- VBAT is below the warning threshold: state, leaf, count, and the checkpoints that a free slot allows (R105, R731, R732). -/
def State.warn (s : State) : State :=
  let s1 := ({ s with power.bodWarn := true, lantern.warnings := s.lantern.warnings + 1 }.setLeaf .powerBodWarn).pulse 31
  let s2 := if s1.headHasRoom 1 then s1.calCheckpoint else s1
  if s2.headHasRoom 0 then (s2.store 0 0 64 s2.lifeRecord0).2.2 else s2

/-- VBAT is above the warning release: full service resumes, and REPAIR and LIFE records and a confirmation that waited are committed (R105, R618,
R728, R731, R756). -/
def State.unwarn (s : State) : State :=
  let s1 := (List.finRange 4).foldl (fun s (b : Fin 4) => if (s.integ.repair[b]).waiting then s.saveRepair b else s) { s with power.bodWarn := false }
  let s2 := if s1.lantern.confirmWaits then { s1 with lantern.confirmWaits := false }.confirm else s1
  if s2.lantern.lifeDue then { s2.lifeSave.2 with lantern.lifeDue := false } else s2

/-- The early-warning comparator runs continuously (R104). -/
def State.comparatorRuns (s : State) : Bool := s.power.hold == .none && !s.stoppedMode

def execEarlyWarning (s : State) : Out := ok (whenDo (s.comparatorRuns && !s.power.bodWarn) s s.warn)
def execWarningRelease (s : State) : Out := ok (whenDo (s.comparatorRuns && s.power.bodWarn) s s.unwarn)

/-- BOD_SAMPLE: `below` is the comparator's output at the sample (R104, R107). -/
def execBodSample (below : Bool) (s : State) : Out :=
  ok (whenDo (s.dozing && s.power.hold == .none) s
    (if below && !s.power.bodWarn then s.warn else if !below && s.power.bodWarn then s.unwarn else s))

/-- BYPASS_ENTRY and BYPASS_EXIT of the buck converter (R99, R100). -/
def execBypassEntry (s : State) : Out := ok (whenDo (s.comparatorRuns && s.power.cfg.getLsbD 0) s { s with power.bypass := true })
def execBypassExit (s : State) : Out := ok (whenDo s.comparatorRuns s { s with power.bypass := false })

/-- LFXO_FAIL: the selected crystal, active or starting, stops or does not start (R115). -/
def execLfxoFail (s : State) : Out :=
  ok (whenDo (!s.power.lfSrcRc && (!s.power.lfActiveRc || !s.power.lfFailed)) s
    ({ s with power.lfActiveRc := true, power.lfXoRun := false, power.lfFailed := true }.setLeaf .powerLfxoFail))

/-- BROWNOUT_RESET (R102, R103) and POWER_ON_RESET (R729). -/
def execBrownoutReset (s : State) : Out := ok (whenDo (s.power.hold != .brownout) s (s.afterReset true .brownout .brownout))
def execPowerOnReset (s : State) : Out := ok (s.afterReset true .powerOn .brownout)

/-- BROWNOUT_RELEASE: VBAT has been above the release for 1 ms, and boot runs, unless NRESET is low (R102, R148, R736). -/
def execBrownoutRelease (s : State) : Out :=
  ok (whenDo (s.power.hold == .brownout) s (if s.power.nresetLow then { s with power.hold := .pin } else s.boot6 0))

/-- A low level at NRESET that resets the device; in a reset it only keeps the device there (R148). -/
def State.nresetFalls (s : State) : State :=
  let s1 := { s with power.nresetLow := true }
  if s.power.hold == .brownout || s.power.hold == .pin then s1 else s1.afterReset false .pin .pin

/-- PIN_RESET: NRESET is low for this many µs; the spec fixes 5 and more, and less than 1 (R148) (DEDUCED, assumption 28). -/
def execPinReset (micros : Nat) (s : State) : Out :=
  ok (if micros < 1 then s
    else if 5 ≤ micros then s.nresetFalls
    else
      let (x, s1) := s.draw 2
      if x = 0 then s1 else s1.nresetFalls)

/-- NRESET_RELEASE: a pin reset ends, and boot follows once the crystal is stable (R148, R73, R736). -/
def execNresetRelease (s : State) : Out :=
  let p := { s.power with nresetLow := false }
  ok { s with power := if p.hold == .pin then { p with hold := .crystal } else p }

-- SUMP

/-- The payload of a recovery beacon (R767). -/
def State.beaconPayload (s : State) : List Byte :=
  let b := s.boot
  s.eui ++ leBytes 2 (partCode s.key.orderable).toNat ++ leBytes 1 siliconMajor ++ leBytes 1 siliconMinor ++ [b.sumpWhy] ++
    [(if s.debugLocked then 1#8 else 0) ||| (if s.lantern.stickPresent then 2#8 else 0)] ++
    ((List.finRange 4).flatMap fun (n : Fin 4) => wordBytes (if b.verdict[n] == vdValid then b.version[n] else 0)) ++ b.verdict.toList

/-- The body of a recovery beacon: MAC header and payload (R767). -/
def State.beaconBody (s : State) : List Byte :=
  leBytes 2 s.mesh.netid.toNat ++ [0xFF#8, 0xFF#8] ++ leBytes 2 s.mesh.addr.toNat ++ [s.link.beaconSeq, 0#8, 0x02#8, 0#8] ++ s.beaconPayload

/-- A beacon is sent, or the fence or the ledger refuses it; it leaves the antenna at its own end (R226, R274, R767, R901; assumption 8). -/
def State.sendBeacon (s : State) : State :=
  let s0 := { s with link.beaconDrip := s.link.beaconDrip + 40000 }
  let a := s.lane .a
  let body := s.beaconBody
  if !s.radio.inFence a.mode a.channel then s0
  else if !s.dutyAllows a.mode a.channel body.length then s0.setLeaf .linkDuty
  else
    let t := s0.mkOnAir .beacon (s.radio.tuningNow a.mode a.channel) s.radio.syncA (mkPhyHeader 34 false false false false) body false s0.linearNow
    { s0 with link.beaconSeq := s0.link.beaconSeq + 1 }.beginTx t s0.linearNow

/-- RECOVERY_BEACON (R767). -/
def execRecoveryBeacon (s : State) : Out :=
  ok (whenDo (s.dripRuns && s.power.mode == .sump && decide (s.link.beaconDrip ≤ s.drip.count) && s.radioFree) s s.sendBeacon)

-- Register accesses that have rows of their own

/-- The core writes a register of another plane's region in this cycle of the drip (R31). -/
def State.coreWrites_ (s : State) (phase : Fin 8000) (addr : Nat) (v : Word) : State :=
  whenDo s.coreRuns s ((s.atPhase phase).coreWriteFar addr v)

/-- MODE_REQUEST: TARGET and GO in one write of PW_MODE (R124). -/
def execModeRequest (target : BitVec 4) (phase : Fin 8000) (s : State) : Out := ok (s.coreWrites_ phase 0x60000800 (0x10000#32 ||| fld 0 target))
/-- LK_SUBMIT, LK_JOBFREE and LK_CANCEL (R233, R239, R242). -/
def execLkSubmit (slots : BitVec 16) (phase : Fin 8000) (s : State) : Out := ok (s.coreWrites_ phase 0x50000030 (fld 0 slots))
def execLkJobfree (slots : BitVec 16) (phase : Fin 8000) (s : State) : Out := ok (s.coreWrites_ phase 0x5000003C (fld 0 slots))
def execLkCancel (slots : BitVec 16) (phase : Fin 8000) (s : State) : Out := ok (s.coreWrites_ phase 0x50000038 (fld 0 slots))
/-- LK_CLAIMn, LK_RELEASEn and LK_GIVEn (R263). -/
def execLkClaim (group : Fin 4) (lines : Word) (phase : Fin 8000) (s : State) : Out := ok (s.coreWrites_ phase (0x500000A0 + 4 * group) lines)
def execLkRelease (group : Fin 4) (lines : Word) (phase : Fin 8000) (s : State) : Out := ok (s.coreWrites_ phase (0x500000B0 + 4 * group) lines)
def execLkGive (group : Fin 4) (lines : Word) (phase : Fin 8000) (s : State) : Out := ok (s.coreWrites_ phase (0x500000C0 + 4 * group) lines)
/-- RESULT_RELEASE: LT_MBACK (R706). -/
def execResultRelease (value : Word) (phase : Fin 8000) (s : State) : Out := ok (s.coreWrites_ phase 0x60000034 value)
/-- LT_RESETREQ (R730) and CONFIRM (R756). -/
def execLtResetreq (value : Word) (phase : Fin 8000) (s : State) : Out := ok (s.coreWrites_ phase 0x60000B24 value)
def execConfirm (value : Word) (phase : Fin 8000) (s : State) : Out := ok (s.coreWrites_ phase 0x60000C00 value)

end Sys2Proof.Machine
end

