-- ==== Sys2Proof/Machine/Dispatch.lean ====
section
/-!
DEFINITION. Which meaning each command has: one arm per constructor of Instr.
-/
namespace Sys2Proof.Machine

def exec (i : Instr) (s : State) : Host.Outcome State Fault Refusal :=
  match i with
  | .dripEdge => Sys2Proof.Machine.execDripEdge s
  | .sliceDeadline finished => Sys2Proof.Machine.execSliceDeadline finished s
  | .lfcalRunEnd count => Sys2Proof.Machine.execLfcalRunEnd count s
  | .resumeTick e ticks => Sys2Proof.Machine.execResumeTick e ticks s
  | .scheduledWake e ticks => Sys2Proof.Machine.execScheduledWake e ticks s
  | .kclkCalibration => Sys2Proof.Machine.execKclkCalibration s
  | .brownoutReset => Sys2Proof.Machine.execBrownoutReset s
  | .powerOnReset => Sys2Proof.Machine.execPowerOnReset s
  | .earlyWarning => Sys2Proof.Machine.execEarlyWarning s
  | .warningRelease => Sys2Proof.Machine.execWarningRelease s
  | .bodSample below => Sys2Proof.Machine.execBodSample below s
  | .bypassEntry => Sys2Proof.Machine.execBypassEntry s
  | .bypassExit => Sys2Proof.Machine.execBypassExit s
  | .lfxoFail => Sys2Proof.Machine.execLfxoFail s
  | .doze => Sys2Proof.Machine.execDoze s
  | .dozeWake => Sys2Proof.Machine.execDozeWake s
  | .modeRequest target phase => Sys2Proof.Machine.execModeRequest target phase s
  | .wakeTick csn => Sys2Proof.Machine.execWakeTick csn s
  | .listenWake => Sys2Proof.Machine.execListenWake s
  | .xoRestart => Sys2Proof.Machine.execXoRestart s
  | .clockReset => Sys2Proof.Machine.execClockReset s
  | .pinReset micros => Sys2Proof.Machine.execPinReset micros s
  | .hibernateWake => Sys2Proof.Machine.execHibernateWake s
  | .recoveryBeacon => Sys2Proof.Machine.execRecoveryBeacon s
  | .laneDetection lane f rssi phase => Sys2Proof.Machine.execLaneDetection lane f rssi phase s
  | .fineEstimate lane f rssi => Sys2Proof.Machine.execFineEstimate lane f rssi s
  | .syncFound lane decisions offsets phases phase => Sys2Proof.Machine.execSyncFound lane decisions offsets phases phase s
  | .noSync lane => Sys2Proof.Machine.execNoSync lane s
  | .lineExtend lane => Sys2Proof.Machine.execLineExtend lane s
  | .phyHeaderCheck lane soft => Sys2Proof.Machine.execPhyHeaderCheck lane soft s
  | .crcVerdict lane soft => Sys2Proof.Machine.execCrcVerdict lane soft s
  | .securityCheck => Sys2Proof.Machine.execSecurityCheck s
  | .adcClip => Sys2Proof.Machine.execAdcClip s
  | .synthUnlock => Sys2Proof.Machine.execSynthUnlock s
  | .synthRelock => Sys2Proof.Machine.execSynthRelock s
  | .laneStart slot phase => Sys2Proof.Machine.execLaneStart slot phase s
  | .lkSubmit slots phase => Sys2Proof.Machine.execLkSubmit slots phase s
  | .lkJobfree slots phase => Sys2Proof.Machine.execLkJobfree slots phase s
  | .lkCancel slots phase => Sys2Proof.Machine.execLkCancel slots phase s
  | .txAttemptStart slot phase => Sys2Proof.Machine.execTxAttemptStart slot phase s
  | .txAttemptEnd slot => Sys2Proof.Machine.execTxAttemptEnd slot s
  | .ackWindowOpen slot => Sys2Proof.Machine.execAckWindowOpen slot s
  | .ackWindowClose slot => Sys2Proof.Machine.execAckWindowClose slot s
  | .retryStart slot phase => Sys2Proof.Machine.execRetryStart slot phase s
  | .rxWindowEnd slot => Sys2Proof.Machine.execRxWindowEnd slot s
  | .ackTurnaround => Sys2Proof.Machine.execAckTurnaround s
  | .ackEnd => Sys2Proof.Machine.execAckEnd s
  | .relaySlot index phase => Sys2Proof.Machine.execRelaySlot index phase s
  | .snapshotStart slot samples phase => Sys2Proof.Machine.execSnapshotStart slot samples phase s
  | .snapshotEnd slot => Sys2Proof.Machine.execSnapshotEnd slot s
  | .calJobStart slot phase => Sys2Proof.Machine.execCalJobStart slot phase s
  | .calJobEnd slot => Sys2Proof.Machine.execCalJobEnd slot s
  | .lkRxq rt phase => Sys2Proof.Machine.execLkRxq rt phase s
  | .lkClaim group lines phase => Sys2Proof.Machine.execLkClaim group lines phase s
  | .lkRelease group lines phase => Sys2Proof.Machine.execLkRelease group lines phase s
  | .lkGive group lines phase => Sys2Proof.Machine.execLkGive group lines phase s
  | .linkTrig phase => Sys2Proof.Machine.execLinkTrig phase s
  | .leaseCommit slot => Sys2Proof.Machine.execLeaseCommit slot s
  | .presencePoll listen amplitude recheck => Sys2Proof.Machine.execPresencePoll listen amplitude recheck s
  | .confirmPoll listen amplitude => Sys2Proof.Machine.execConfirmPoll listen amplitude s
  | .idFrame channel frame crc => Sys2Proof.Machine.execIdFrame channel frame crc s
  | .responseFrame channel frame crc => Sys2Proof.Machine.execResponseFrame channel frame crc s
  | .noResponse channel => Sys2Proof.Machine.execNoResponse channel s
  | .noToken => Sys2Proof.Machine.execNoToken s
  | .noTokenRetry listen amplitude => Sys2Proof.Machine.execNoTokenRetry listen amplitude s
  | .lfFlood listen departure micros => Sys2Proof.Machine.execLfFlood listen departure micros s
  | .lfFloodListen listen => Sys2Proof.Machine.execLfFloodListen listen s
  | .irFlood saturatedMicros carrierMicros => Sys2Proof.Machine.execIrFlood saturatedMicros carrierMicros s
  | .irRearm => Sys2Proof.Machine.execIrRearm s
  | .irMark mark space => Sys2Proof.Machine.execIrMark mark space s
  | .irCodeEnd mark => Sys2Proof.Machine.execIrCodeEnd mark s
  | .oSenseWindow carrierMicros => Sys2Proof.Machine.execOSenseWindow carrierMicros s
  | .lockoutEnd => Sys2Proof.Machine.execLockoutEnd s
  | .lockCheckpoint => Sys2Proof.Machine.execLockCheckpoint s
  | .dormancy => Sys2Proof.Machine.execDormancy s
  | .enrollWindowEnd => Sys2Proof.Machine.execEnrollWindowEnd s
  | .releaseHoldExpiry channel => Sys2Proof.Machine.execReleaseHoldExpiry channel s
  | .keyholderReady => Sys2Proof.Machine.execKeyholderReady s
  | .hibernatePresence first confirm => Sys2Proof.Machine.execHibernatePresence first confirm s
  | .resume => Sys2Proof.Machine.execResume s
  | .clearLock => Sys2Proof.Machine.execClearLock s
  | .rawStart => Sys2Proof.Machine.execRawStart s
  | .rawStop samples => Sys2Proof.Machine.execRawStop samples s
  | .rawDone samples => Sys2Proof.Machine.execRawDone samples s
  | .irAck => Sys2Proof.Machine.execIrAck s
  | .closeEnroll => Sys2Proof.Machine.execCloseEnroll s
  | .tkVerdict value => Sys2Proof.Machine.execTkVerdict value s
  | .add rd ra rb => Sys2Proof.Machine.execAdd rd ra rb s
  | .sub rd ra rb => Sys2Proof.Machine.execSub rd ra rb s
  | .and rd ra rb => Sys2Proof.Machine.execAnd rd ra rb s
  | .or rd ra rb => Sys2Proof.Machine.execOr rd ra rb s
  | .xor rd ra rb => Sys2Proof.Machine.execXor rd ra rb s
  | .nor rd ra rb => Sys2Proof.Machine.execNor rd ra rb s
  | .slt rd ra rb => Sys2Proof.Machine.execSlt rd ra rb s
  | .sltu rd ra rb => Sys2Proof.Machine.execSltu rd ra rb s
  | .sll rd ra sh => Sys2Proof.Machine.execSll rd ra sh s
  | .srl rd ra sh => Sys2Proof.Machine.execSrl rd ra sh s
  | .sra rd ra sh => Sys2Proof.Machine.execSra rd ra sh s
  | .ror rd ra sh => Sys2Proof.Machine.execRor rd ra sh s
  | .sllv rd ra rb => Sys2Proof.Machine.execSllv rd ra rb s
  | .srlv rd ra rb => Sys2Proof.Machine.execSrlv rd ra rb s
  | .srav rd ra rb => Sys2Proof.Machine.execSrav rd ra rb s
  | .rorv rd ra rb => Sys2Proof.Machine.execRorv rd ra rb s
  | .addsat rd ra rb => Sys2Proof.Machine.execAddsat rd ra rb s
  | .subsat rd ra rb => Sys2Proof.Machine.execSubsat rd ra rb s
  | .abs rd ra => Sys2Proof.Machine.execAbs rd ra s
  | .min rd ra rb => Sys2Proof.Machine.execMin rd ra rb s
  | .max rd ra rb => Sys2Proof.Machine.execMax rd ra rb s
  | .minu rd ra rb => Sys2Proof.Machine.execMinu rd ra rb s
  | .maxu rd ra rb => Sys2Proof.Machine.execMaxu rd ra rb s
  | .clz rd ra => Sys2Proof.Machine.execClz rd ra s
  | .sextb rd ra => Sys2Proof.Machine.execSextb rd ra s
  | .sexth rd ra => Sys2Proof.Machine.execSexth rd ra s
  | .zexth rd ra => Sys2Proof.Machine.execZexth rd ra s
  | .bswap rd ra => Sys2Proof.Machine.execBswap rd ra s
  | .cmovz rd ra rb => Sys2Proof.Machine.execCmovz rd ra rb s
  | .cmovnz rd ra rb => Sys2Proof.Machine.execCmovnz rd ra rb s
  | .addi rd ra imm => Sys2Proof.Machine.execAddi rd ra imm s
  | .andi rd ra imm => Sys2Proof.Machine.execAndi rd ra imm s
  | .ori rd ra imm => Sys2Proof.Machine.execOri rd ra imm s
  | .xori rd ra imm => Sys2Proof.Machine.execXori rd ra imm s
  | .slti rd ra imm => Sys2Proof.Machine.execSlti rd ra imm s
  | .sltiu rd ra imm => Sys2Proof.Machine.execSltiu rd ra imm s
  | .movhi rd imm => Sys2Proof.Machine.execMovhi rd imm s
  | .mul rd ra rb => Sys2Proof.Machine.execMul rd ra rb s
  | .mulh rd ra rb => Sys2Proof.Machine.execMulh rd ra rb s
  | .mulhu rd ra rb => Sys2Proof.Machine.execMulhu rd ra rb s
  | .div rd ra rb => Sys2Proof.Machine.execDiv rd ra rb s
  | .divu rd ra rb => Sys2Proof.Machine.execDivu rd ra rb s
  | .rem rd ra rb => Sys2Proof.Machine.execRem rd ra rb s
  | .remu rd ra rb => Sys2Proof.Machine.execRemu rd ra rb s
  | .lw rt ra imm => Sys2Proof.Machine.execLw rt ra imm s
  | .lh rt ra imm => Sys2Proof.Machine.execLh rt ra imm s
  | .lhu rt ra imm => Sys2Proof.Machine.execLhu rt ra imm s
  | .lb rt ra imm => Sys2Proof.Machine.execLb rt ra imm s
  | .lbu rt ra imm => Sys2Proof.Machine.execLbu rt ra imm s
  | .sw rt ra imm => Sys2Proof.Machine.execSw rt ra imm s
  | .sh rt ra imm => Sys2Proof.Machine.execSh rt ra imm s
  | .sb rt ra imm => Sys2Proof.Machine.execSb rt ra imm s
  | .beq ra rb imm => Sys2Proof.Machine.execBeq ra rb imm s
  | .bne ra rb imm => Sys2Proof.Machine.execBne ra rb imm s
  | .blt ra rb imm => Sys2Proof.Machine.execBlt ra rb imm s
  | .bge ra rb imm => Sys2Proof.Machine.execBge ra rb imm s
  | .bltu ra rb imm => Sys2Proof.Machine.execBltu ra rb imm s
  | .bgeu ra rb imm => Sys2Proof.Machine.execBgeu ra rb imm s
  | .jump off => Sys2Proof.Machine.execJump off s
  | .jal off => Sys2Proof.Machine.execJal off s
  | .jr ra => Sys2Proof.Machine.execJr ra s
  | .jalr rd ra => Sys2Proof.Machine.execJalr rd ra s
  | .syscall code => Sys2Proof.Machine.execSyscall code s
  | .breakOp code => Sys2Proof.Machine.execBreakOp code s
  | .eret => Sys2Proof.Machine.execEret s
  | .fence => Sys2Proof.Machine.execFence s
  | .iflush => Sys2Proof.Machine.execIflush s
  | .mfs rd sr => Sys2Proof.Machine.execMfs rd sr s
  | .mts rt sr => Sys2Proof.Machine.execMts rt sr s
  | .di => Sys2Proof.Machine.execDi s
  | .ei => Sys2Proof.Machine.execEi s
  | .reservedOp word => Sys2Proof.Machine.execReservedOp word s
  | .cmac acc z ag u => Sys2Proof.Machine.execCmac acc z ag u s
  | .cmacj acc z ag u => Sys2Proof.Machine.execCmacj acc z ag u s
  | .cmsu acc z ag u => Sys2Proof.Machine.execCmsu acc z ag u s
  | .cmul acc z ag u => Sys2Proof.Machine.execCmul acc z ag u s
  | .zld z ag u => Sys2Proof.Machine.execZld z ag u s
  | .zst z ag u => Sys2Proof.Machine.execZst z ag u s
  | .aclr acc => Sys2Proof.Machine.execAclr acc s
  | .zacc zd acc sh c => Sys2Proof.Machine.execZacc zd acc sh c s
  | .agset ag g field => Sys2Proof.Machine.execAgset ag g field s
  | .agget ag g field => Sys2Proof.Machine.execAgget ag g field s
  | .zput z g => Sys2Proof.Machine.execZput z g s
  | .zget z g => Sys2Proof.Machine.execZget z g s
  | .accput acc g part => Sys2Proof.Machine.execAccput acc g part s
  | .accget acc g part => Sys2Proof.Machine.execAccget acc g part s
  | .gather agD agI gBase count => Sys2Proof.Machine.execGather agD agI gBase count s
  | .dsave g => Sys2Proof.Machine.execDsave g s
  | .dload g => Sys2Proof.Machine.execDload g s
  | .cx e rd ra rb imm8 => Sys2Proof.Machine.execCx e rd ra rb imm8 s
  | .cpDtdata rt => Sys2Proof.Machine.execCpDtdata rt s
  | .cpDtlock rt => Sys2Proof.Machine.execCpDtlock rt s
  | .interruptEntry => Sys2Proof.Machine.execInterruptEntry s
  | .exceptionEntry => Sys2Proof.Machine.execExceptionEntry s
  | .runaheadEntry trigger => Sys2Proof.Machine.execRunaheadEntry trigger s
  | .runaheadExit => Sys2Proof.Machine.execRunaheadExit s
  | .storeDrain phase => Sys2Proof.Machine.execStoreDrain phase s
  | .lineWindowRead rt line => Sys2Proof.Machine.execLineWindowRead rt line s
  | .conduitEvent arriving => Sys2Proof.Machine.execConduitEvent arriving s
  | .gpSet mask => Sys2Proof.Machine.execGpSet mask s
  | .gpClr mask => Sys2Proof.Machine.execGpClr mask s
  | .gpTgl mask => Sys2Proof.Machine.execGpTgl mask s
  | .gpioEdge pin level => Sys2Proof.Machine.execGpioEdge pin level s
  | .gpioWake pin level => Sys2Proof.Machine.execGpioWake pin level s
  | .timerTick n => Sys2Proof.Machine.execTimerTick n s
  | .tmCapture n => Sys2Proof.Machine.execTmCapture n s
  | .pwmPeriodStart n => Sys2Proof.Machine.execPwmPeriodStart n s
  | .pwmLoad mask => Sys2Proof.Machine.execPwmLoad mask s
  | .pwmEnable mask => Sys2Proof.Machine.execPwmEnable mask s
  | .adcTrigger => Sys2Proof.Machine.execAdcTrigger s
  | .adcConversionEnd code => Sys2Proof.Machine.execAdcConversionEnd code s
  | .adDataRead rt => Sys2Proof.Machine.execAdDataRead rt s
  | .trngWord word => Sys2Proof.Machine.execTrngWord word s
  | .gpTrngData rt => Sys2Proof.Machine.execGpTrngData rt s
  | .trngHealthFail => Sys2Proof.Machine.execTrngHealthFail s
  | .shaStart => Sys2Proof.Machine.execShaStart s
  | .shaRunEnd => Sys2Proof.Machine.execShaRunEnd s
  | .aesStart => Sys2Proof.Machine.execAesStart s
  | .aesBlockDone => Sys2Proof.Machine.execAesBlockDone s
  | .scrubVisit => Sys2Proof.Machine.execScrubVisit s
  | .flKey value => Sys2Proof.Machine.execFlKey value s
  | .flashSeqTimeout => Sys2Proof.Machine.execFlashSeqTimeout s
  | .program value => Sys2Proof.Machine.execProgram value s
  | .erase value => Sys2Proof.Machine.execErase value s
  | .blankCheck value => Sys2Proof.Machine.execBlankCheck value s
  | .flashOpEnd => Sys2Proof.Machine.execFlashOpEnd s
  | .updatePortOp => Sys2Proof.Machine.execUpdatePortOp s
  | .flowstoneReclaim ring => Sys2Proof.Machine.execFlowstoneReclaim ring s
  | .patrolVisit => Sys2Proof.Machine.execPatrolVisit s
  | .orphanErase => Sys2Proof.Machine.execOrphanErase s
  | .resultRelease value phase => Sys2Proof.Machine.execResultRelease value phase s
  | .identity => Sys2Proof.Machine.execIdentity s
  | .calGet => Sys2Proof.Machine.execCalGet s
  | .calSet => Sys2Proof.Machine.execCalSet s
  | .calAlarm => Sys2Proof.Machine.execCalAlarm s
  | .wakeAt => Sys2Proof.Machine.execWakeAt s
  | .lifeGet => Sys2Proof.Machine.execLifeGet s
  | .lifeAdd => Sys2Proof.Machine.execLifeAdd s
  | .lifeSave => Sys2Proof.Machine.execLifeSave s
  | .bodHist => Sys2Proof.Machine.execBodHist s
  | .recRead => Sys2Proof.Machine.execRecRead s
  | .recWrite => Sys2Proof.Machine.execRecWrite s
  | .monoInc => Sys2Proof.Machine.execMonoInc s
  | .monoGet => Sys2Proof.Machine.execMonoGet s
  | .keyInstall => Sys2Proof.Machine.execKeyInstall s
  | .keyRetire => Sys2Proof.Machine.execKeyRetire s
  | .keyRemove => Sys2Proof.Machine.execKeyRemove s
  | .tokenWrite => Sys2Proof.Machine.execTokenWrite s
  | .tokenRevoke => Sys2Proof.Machine.execTokenRevoke s
  | .tokenRead => Sys2Proof.Machine.execTokenRead s
  | .provision => Sys2Proof.Machine.execProvision s
  | .lockWrite => Sys2Proof.Machine.execLockWrite s
  | .calendarTick => Sys2Proof.Machine.execCalendarTick s
  | .calCheckpoint => Sys2Proof.Machine.execCalCheckpoint s
  | .ltResetreq value phase => Sys2Proof.Machine.execLtResetreq value phase s
  | .stickInsert sfdp => Sys2Proof.Machine.execStickInsert sfdp s
  | .stickRemove => Sys2Proof.Machine.execStickRemove s
  | .confirm value phase => Sys2Proof.Machine.execConfirm value phase s
  | .confirmExpired => Sys2Proof.Machine.execConfirmExpired s
  | .openOp => Sys2Proof.Machine.execOpenOp s
  | .slotEraseDone => Sys2Proof.Machine.execSlotEraseDone s
  | .block => Sys2Proof.Machine.execBlock s
  | .closeOp => Sys2Proof.Machine.execCloseOp s
  | .verifyDone => Sys2Proof.Machine.execVerifyDone s
  | .activate => Sys2Proof.Machine.execActivate s
  | .abortOp => Sys2Proof.Machine.execAbortOp s
  | .sessionTimeout => Sys2Proof.Machine.execSessionTimeout s
  | .activationEdge => Sys2Proof.Machine.execActivationEdge s
  | .coreRestart => Sys2Proof.Machine.execCoreRestart s
  | .linkReload => Sys2Proof.Machine.execLinkReload s
  | .stickEvaluation stick => Sys2Proof.Machine.execStickEvaluation stick s
  | .hello addr tag payload crc phase => Sys2Proof.Machine.execHello addr tag payload crc phase s
  | .assign addr tag payload crc phase => Sys2Proof.Machine.execAssign addr tag payload crc phase s
  | .enumEnableChange level => Sys2Proof.Machine.execEnumEnableChange level s
  | .summary addr tag payload crc phase => Sys2Proof.Machine.execSummary addr tag payload crc phase s
  | .read addr tag payload crc phase => Sys2Proof.Machine.execRead addr tag payload crc phase s
  | .write addr tag payload crc phase => Sys2Proof.Machine.execWrite addr tag payload crc phase s
  | .clear addr tag payload crc phase => Sys2Proof.Machine.execClear addr tag payload crc phase s
  | .fetch addr tag payload crc phase => Sys2Proof.Machine.execFetch addr tag payload crc phase s
  | .updateOpen addr tag payload crc phase => Sys2Proof.Machine.execUpdateOpen addr tag payload crc phase s
  | .updateBlock addr tag payload crc phase => Sys2Proof.Machine.execUpdateBlock addr tag payload crc phase s
  | .updateClose addr tag payload crc phase => Sys2Proof.Machine.execUpdateClose addr tag payload crc phase s
  | .updateActivate addr tag payload crc phase => Sys2Proof.Machine.execUpdateActivate addr tag payload crc phase s
  | .frameSend addr tag payload crc phase => Sys2Proof.Machine.execFrameSend addr tag payload crc phase s
  | .frameTake addr tag payload crc phase => Sys2Proof.Machine.execFrameTake addr tag payload crc phase s
  | .lanternSubmit addr tag payload crc phase => Sys2Proof.Machine.execLanternSubmit addr tag payload crc phase s
  | .lanternResult addr tag payload crc phase => Sys2Proof.Machine.execLanternResult addr tag payload crc phase s
  | .memRead addr tag payload crc phase => Sys2Proof.Machine.execMemRead addr tag payload crc phase s
  | .memWrite addr tag payload crc phase => Sys2Proof.Machine.execMemWrite addr tag payload crc phase s
  | .resetUnit addr tag payload crc phase => Sys2Proof.Machine.execResetUnit addr tag payload crc phase s
  | .unsupportedOp op addr tag payload crc phase => Sys2Proof.Machine.execUnsupportedOp op addr tag payload crc phase s
  | .chDbgctl value phase => Sys2Proof.Machine.execChDbgctl value phase s
  | .causeClear g mask phase => Sys2Proof.Machine.execCauseClear g mask phase s
  | .csCmask g value => Sys2Proof.Machine.execCsCmask g value s
  | .rcFieldRead rt addr phase => Sys2Proof.Machine.execRcFieldRead rt addr phase s
  | .registerWrite addr value phase => Sys2Proof.Machine.execRegisterWrite addr value phase s
  | .relayPolicyStart slot phase => Sys2Proof.Machine.execRelayPolicyStart slot phase s
  | .nresetRelease => Sys2Proof.Machine.execNresetRelease s
  | .brownoutRelease => Sys2Proof.Machine.execBrownoutRelease s

end Sys2Proof.Machine
end

