-- ==== Sys2Proof/Safety.lean ====
section
/-!
DEFINITION. What holds of the device in every state, and the terms in which statements say when a command has its own effect and what it
leaves alone.
-/
namespace Sys2Proof.Machine

-- Invariants

/-- Memory keeps its canonical form. -/
def State.memOk (s : State) : Prop := Memory.wf s.mem = true

/-- Every gallery line's stored check agrees with its bytes (R623 to R625). -/
def State.linesOk (s : State) : Prop := ∀ n, n < 128 → s.lineGood n = true

/-- The reserved bits of CP_EPC and CP_VBASE read 0, and both levels of CP_STATUS are levels (R489, R17). -/
def State.coreOk (s : State) : Prop :=
  s.core.epc &&& 3#32 = 0#32 ∧ s.core.vbase &&& 0x1FF#32 = 0#32 ∧ s.core.ipl.toNat ≤ 4 ∧ s.core.pipl.toNat ≤ 4

-- The core

/-- The instruction at the PC issues and has its own effect: the core runs, outside run-ahead, no request has just ended DOZE, and the fetch of
the instruction raises nothing. -/
def State.executes (s : State) : Bool :=
  s.coreRuns && s.core.episode.isNone && s.wokenBy.isNone && (s.fetchFault s.core.pc.toNat).isNone

/-- A general register as the instruction reads it: a read waits for a slow load or a division that has not given its result yet (R398, R446). -/
def State.input (s : State) (r : GReg) : Word := s.core.reg r

/-- The special registers are as they were, CP_STATUS's sticky bits apart. -/
def CoreBlock.sameControl (c d : CoreBlock) : Prop :=
  (c.pcsd = d.pcsd ∧ c.csd = d.csd ∧ c.pipl = d.pipl ∧ c.ipl = d.ipl ∧ c.insvc = d.insvc ∧ c.pie = d.pie ∧ c.ie = d.ie) ∧
  (c.epc = d.epc ∧ c.cause = d.cause ∧ c.vbase = d.vbase ∧ c.badInst = d.badInst ∧ c.badAddr = d.badAddr) ∧
  (c.scratch0 = d.scratch0 ∧ c.scratch1 = d.scratch1 ∧ c.cycleHi = d.cycleHi ∧ c.dripHi = d.dripHi) ∧
  (c.dripPend = d.dripPend ∧ c.dripBusy = d.dripBusy ∧ c.dripDiv = d.dripDiv ∧ c.dripEn = d.dripEn ∧ c.dripMiss = d.dripMiss) ∧
  c.cx = d.cx

/-- The sticky bits SAT and DZ are as they were (R403). -/
def CoreBlock.sameSticky (c d : CoreBlock) : Prop := c.sat = d.sat ∧ c.dz = d.dz

/-- DSP state changes only as writes already in flight take effect (R501). -/
def CoreBlock.sameDsp (c d : CoreBlock) : Prop := c.dsp.inFlight = [] → d.dsp = c.dsp

/-- Every byte of memory, and every store on its way, is as it was. -/
def State.sameMemory (s t : State) : Prop := (∀ a, memGet t.mem a = memGet s.mem a) ∧ t.core.stores = s.core.stores

/-- Outside the core and memory, nothing differs but what the report of a corrected or clamped result sets: leaves, and the records of corrections
(R606, R504). -/
def State.sameDevice (s t : State) : Prop := { t with core := s.core, mem := s.mem, cause := s.cause, integ := s.integ } = s

/-- Every general register but `rd` is as the instruction found it. -/
def State.sameRegs (s t : State) (rd : GReg) : Prop := ∀ r, r ≠ rd → t.core.reg r = s.input r

/-- The frame of an instruction that writes no more than one general register: everything else of the core, all of memory, and the rest of the
device. With `rd` g0, every register. -/
def State.onlyReg (s t : State) (rd : GReg) : Prop :=
  s.sameRegs t rd ∧ s.core.sameControl t.core ∧ s.core.sameDsp t.core ∧ s.sameMemory t ∧ s.sameDevice t

/-- The command answers a next state of which `p` holds. -/
def State.completes (s : State) (i : Instr) (p : State → Prop) : Prop := ∃ t, exec i s = .next t ∧ p t

/-- The command answers a next state in which `rd` holds `v` (0 where `rd` is g0), execution goes on at the next instruction, the sticky bits
are these, and nothing else of the core, of memory or of the device has changed (R395, R403). -/
def State.yieldsFlags (s : State) (i : Instr) (rd : GReg) (v : Word) (sat dz : Bool) : Prop :=
  s.completes i fun t => t.core.reg rd = (if rd = 0 then 0 else v) ∧ t.core.pc = s.core.pc + 4 ∧ t.core.sat = sat ∧ t.core.dz = dz ∧ s.onlyReg t rd

/-- As `yieldsFlags`, with the sticky bits as they were. -/
def State.yields (s : State) (i : Instr) (rd : GReg) (v : Word) : Prop := s.yieldsFlags i rd v s.core.sat s.core.dz

/-- The registers, the special registers, memory and the rest of the device stand. -/
def State.restStands (s t : State) : Prop := s.core.sameSticky t.core ∧ s.onlyReg t 0

/-- A load from `a` meets nothing that stops it: memory of some kind is there, not busy and not lost (R47, R607 to R609, R648). -/
def State.readable (s : State) (a : Nat) : Bool :=
  match regionOf a with
  | .rom | .gallery | .window => true
  | .dtcm | .sram => !s.ramBad a
  | .flash => !s.flash.busyAt a && !s.integ.uncorrUnits.contains (unitOf a)
  | .flowstone => !s.integ.uncorrGroups.contains (groupOf a)
  | _ => false

/-- The load gives `v` to `rt`, for a reader to find once its latency has passed; the PC goes on, and everything else stands (R395, R398, R426). -/
def State.loads (s : State) (i : Instr) (rt : GReg) (v : Word) : Prop :=
  s.completes i fun t =>
    t.input rt = (if rt = 0 then 0 else v) ∧ (∀ r, r ≠ rt → t.input r = s.input r) ∧ t.core.pc = s.core.pc + 4 ∧
      s.core.sameSticky t.core ∧ s.core.sameControl t.core ∧ s.core.sameDsp t.core ∧ s.sameMemory t ∧ s.sameDevice t

/-- The registers, memory and the rest of the device stand, and of the core's control registers the state `c` holds what they become. -/
def State.controlBecomes (s t : State) (c : CoreBlock) : Prop :=
  c.sameControl t.core ∧ s.sameRegs t 0 ∧ s.core.sameDsp t.core ∧ s.sameMemory t ∧ s.sameDevice t

-- The DSP datapath

/-- A word of DTCM that a DSP instruction can access: aligned, inside, not lost, and in no store-buffer entry (R466, R498). -/
def State.dspWordOk (s : State) (a : Nat) : Bool :=
  a % 4 == 0 && decide (0x10000000 ≤ a) && decide (a + 4 ≤ 0x10008000) && !s.ramBad a && s.core.stores.all fun e => !e.overlaps a 4

/-- Once every write in flight has taken effect the DSP state is `d` (R501, R505); the PC goes on, and all else stands. -/
def State.dspBecomes (s : State) (i : Instr) (d : DspBlock) : Prop :=
  s.completes i fun t =>
    t.core.dsp.drain = d ∧ t.core.pc = s.core.pc + 4 ∧ s.core.sameSticky t.core ∧ s.core.sameControl t.core ∧ s.sameRegs t 0 ∧
      s.sameMemory t ∧ s.sameDevice t

/-- An accumulator component held between −2^39 and 2^39 − 1 (R495). -/
def held40 (x : Int) : BitVec 40 :=
  if x < -2 ^ 39 then BitVec.ofInt 40 (-2 ^ 39) else if 2 ^ 39 - 1 < x then BitVec.ofInt 40 (2 ^ 39 - 1) else BitVec.ofInt 40 x

/-- A component lies outside that range. -/
def outside40 (x : Int) : Bool := decide (x < -2 ^ 39) || decide (2 ^ 39 - 1 < x)

-- Exceptions

/-- Neither the report of a correction nor a DSP clamp can request an interrupt: the core mask enables neither (R860). -/
def State.reportsMasked (s : State) : Bool := !(s.cause.cmask[4]).getLsbD 1 && s.cause.cmask[5] == 0

/-- No asynchronous request is taken now, whatever a correction or a DSP clamp that the instruction reports may add (R477). -/
def State.uninterrupted (s : State) : Bool :=
  !s.core.ie || s.core.csd != 0 || (s.takeable.isNone && s.reportsMasked)

/-- The address of an exception's vector (R471). -/
def State.vectorOf (s : State) (code : BitVec 5) : Word := s.core.vbase + 0x20#32 * code.setWidth 32

/-- The vector's first instruction can be fetched, cached or not (R417, R480). -/
def State.vectorReady (s : State) (code : BitVec 5) : Bool :=
  let a := (s.vectorOf code).toNat
  match regionOf a with
  | .rom => true
  | .flash => !s.flash.busyAt a && !s.integ.uncorrUnits.contains (unitOf a)
  | .dtcm => !s.ramBad a
  | .sram => !s.ramBad a
  | _ => false

/-- What an entry leaves (R404, R471, R478, R489): `ipl` is the level after it, `cause` CP_CAUSE. DSP operations in flight have completed, nothing
is in progress; the other registers, memory and the rest of the device stand, but for the count of free values, one of which gives the entry's cycles
(R482; assumption 18). -/
def State.entered (s t : State) (code : BitVec 5) (epc : Word) (ipl : BitVec 3) (cause badInst badAddr : Word) : Prop :=
  t.core.pc = s.vectorOf code ∧ t.core.epc = epc ∧ t.core.cause = cause ∧ t.core.badInst = badInst ∧ t.core.badAddr = badAddr ∧
  (t.core.pie = s.core.ie ∧ t.core.ie = false ∧ t.core.pipl = s.core.ipl ∧ t.core.ipl = ipl ∧ t.core.pcsd = s.core.csd ∧ t.core.csd = 0 ∧
    t.core.insvc = true) ∧
  (t.core.vbase = s.core.vbase ∧ t.core.scratch0 = s.core.scratch0 ∧ t.core.scratch1 = s.core.scratch1 ∧ t.core.cx = s.core.cx ∧
    s.core.sameSticky t.core) ∧
  (t.core.dsp.inFlight = [] ∧ s.core.sameDsp t.core) ∧ (t.core.outs = [] ∧ t.core.episode = none) ∧ s.sameMemory t ∧ s.sameDevice { t with free := s.free }

/-- The command takes a synchronous exception: the entry, with the general registers as the instruction found them and the DRIP bits unchanged. -/
def State.raises (s : State) (i : Instr) (code : BitVec 5) (epc : Word) (store : Bool) (badInst badAddr : Word) : Prop :=
  s.completes i fun t =>
    s.entered t code epc s.core.ipl (code.setWidth 32 ||| flag 13 store ||| flag 17 s.core.insvc) badInst badAddr ∧ s.sameRegs t 0 ∧
      t.core.dripPend = s.core.dripPend ∧ t.core.dripBusy = s.core.dripBusy

end Sys2Proof.Machine
end

