-- ==== Sys2Proof/WellFormed.lean ====
section
/-!
DEFINITION. What an operand must be for a command to be an event that the spec can describe, beyond what its type says.
-/
namespace Sys2Proof

/-- Soft decisions of whole interleaver blocks of one frame, no more than the longest body of 277 bytes gives (R190, R198, R199). -/
def wfSoft (xs : List (BitVec 4)) : Bool := decide (xs.length ≤ 4544) && xs.length % 32 == 0

/-- A register address of a 32-bit access (R48). -/
def wfAddr (a : Word) : Bool := a.toNat % 4 == 0

/-- A chain frame: the two length bytes hold its payload's length (R809, R811). -/
def wfPayload (b : List Byte) : Bool := decide (b.length < 65536)

/-- The raw samples that one half of a run, or a whole run, delivers (R390). -/
def wfRaw (xs : List (BitVec 16)) : Bool := decide (xs.length ≤ 4096)

/-- The amplitude at LF_SENSE in each microsecond of a carrier-off listen of 100 µs (R341, R351). -/
def wfListen (xs : List Byte) : Bool := xs.length == 100

/-- The command is well-formed. -/
def Instr.wellFormed : Instr → Bool
  | .phyHeaderCheck _ soft => wfSoft soft
  | .crcVerdict _ soft => wfSoft soft
  | .snapshotStart _ samples _ => decide (samples.length = 256)
  | .presencePoll xs _ _ | .confirmPoll xs _ | .noTokenRetry xs _ | .lfFlood xs _ _ | .lfFloodListen xs => wfListen xs
  | .rawStop xs => wfRaw xs
  | .rawDone xs => wfRaw xs
  | .stickInsert sfdp => decide (sfdp.length = 8)
  | .rcFieldRead _ addr _ => wfAddr addr
  | .registerWrite addr _ _ => wfAddr addr
  | .hello _ _ p _ _ | .assign _ _ p _ _ | .summary _ _ p _ _ | .read _ _ p _ _ | .write _ _ p _ _ | .clear _ _ p _ _
  | .fetch _ _ p _ _ | .updateOpen _ _ p _ _ | .updateBlock _ _ p _ _ | .updateClose _ _ p _ _ | .updateActivate _ _ p _ _
  | .frameSend _ _ p _ _ | .frameTake _ _ p _ _ | .lanternSubmit _ _ p _ _ | .lanternResult _ _ p _ _ | .memRead _ _ p _ _
  | .memWrite _ _ p _ _ | .resetUnit _ _ p _ _ | .unsupportedOp _ _ _ p _ _ => wfPayload p
  | _ => true

end Sys2Proof
end

