-- ==== Sys2Proof/Certificates/Slice0/Obligations.lean ====
section
/-!
DEFINITION. The statements about this model that the provers settle.
-/

open Sys2Proof Sys2Proof.Machine

-- The device as a whole

/-- For every command c, queue rest and state s: the step of s with c in front of rest is exec of c on s with rest waiting. With no command
waiting a step answers the same state: that clause is the model's choice (assumption 12). (22_cause_tree.md; 00_scope.md 3) -/
def Obligations.StepRunsTheFrontCommand : Prop :=
  (∀ (c : Instr) (rest : List Instr) (s : State), step { s with pending := c :: rest } = exec c { s with pending := rest }) ∧
    ∀ s : State, s.pending = [] → step s = .next s

/-- The reset state's memory is in canonical form and lists nothing; every gallery line's stored check agrees with its bytes; the reserved bits
of CP_EPC and CP_VBASE are 0 and both priority levels are levels. CP_STATUS, every interrupt mask of the core and every latched leaf are 0,
no job is out of FREE, no drip has been counted and no command waits. That g1 to g31 and the PC hold 0, and what memory that nothing has
written reads as, where the spec gives no value, is the model's choice (assumptions 13 and 16); this statement claims nothing of it.
(15_memory_integrity.md 2.2 (R610); 01_architecture.md 2.4 (R12); R489) -/
def Obligations.ResetHoldsTheInvariants : Prop :=
  State.reset.memOk ∧ State.reset.mem = [] ∧ State.reset.linesOk ∧ State.reset.coreOk ∧
    (State.reset.core.status = 0 ∧ ∀ g : Fin 15, State.reset.cause.cmask[g] = 0 ∧ State.reset.cause.leaf[g] = 0) ∧
    (∀ n : Fin 16, (State.reset.job n).state = .free) ∧ State.reset.drip.count = 0 ∧ State.reset.pending = []

/-- For every state whose memory is in canonical form (addresses strictly rising, no entry equal to what an unlisted address reads as), if a
step answers a next state, that state's memory is in canonical form too, whatever the command. (01_architecture.md 4 (R46);
15_memory_integrity.md 2.2 (R610); 16_flash.md; 17_flowstone.md) -/
def Obligations.EveryStepKeepsMemoryCanonical : Prop :=
  ∀ s t : State, s.memOk → step s = .next t → t.memOk

/-- For every state in which bits [1:0] of CP_EPC and bits [8:0] of CP_VBASE are 0 and IPL and PIPL are at most 4, if a step answers a next
state, the same holds of it, whatever the command. (09_kraura_isa.md 4 (R404); 10_core_execution.md (R489); R439) -/
def Obligations.EveryStepKeepsTheCoreLegal : Prop :=
  ∀ s t : State, s.coreOk → step s = .next t → t.coreOk

-- The scalar core

/-- For every state in which the instruction at the PC executes, and all registers, each instruction of the register ALU without saturation
answers a next state: rd holds the result the table gives (0 where rd is g0), the PC is at the next instruction, the sticky bits SAT and DZ
stand, and no other general or special register, no DSP state, no byte of memory and no other part of the device changes. (09_kraura_isa.md
6.1 (R420); R395; R398) -/
def Obligations.RegisterInstructionsGiveTheirResults : Prop :=
  ∀ (s : State) (rd ra rb : GReg) (sh : BitVec 5), s.executes = true →
    let a := s.input ra
    let b := s.input rb
    (s.yields (.add rd ra rb) rd (a + b) ∧ s.yields (.sub rd ra rb) rd (a - b)) ∧
    (s.yields (.and rd ra rb) rd (a &&& b) ∧ s.yields (.or rd ra rb) rd (a ||| b) ∧ s.yields (.xor rd ra rb) rd (a ^^^ b) ∧
      s.yields (.nor rd ra rb) rd (~~~(a ||| b))) ∧
    (s.yields (.slt rd ra rb) rd (if a.toInt < b.toInt then 1 else 0) ∧
      s.yields (.sltu rd ra rb) rd (if a.toNat < b.toNat then 1 else 0)) ∧
    (s.yields (.sll rd ra sh) rd (a <<< sh.toNat) ∧ s.yields (.srl rd ra sh) rd (a >>> sh.toNat) ∧
      s.yields (.sra rd ra sh) rd (a.sshiftRight sh.toNat) ∧ s.yields (.ror rd ra sh) rd (a.rotateRight sh.toNat)) ∧
    (s.yields (.sllv rd ra rb) rd (a <<< (b.toNat % 32)) ∧ s.yields (.srlv rd ra rb) rd (a >>> (b.toNat % 32)) ∧
      s.yields (.srav rd ra rb) rd (a.sshiftRight (b.toNat % 32)) ∧ s.yields (.rorv rd ra rb) rd (a.rotateRight (b.toNat % 32))) ∧
    (s.yields (.min rd ra rb) rd (if a.toInt ≤ b.toInt then a else b) ∧ s.yields (.max rd ra rb) rd (if a.toInt ≤ b.toInt then b else a) ∧
      s.yields (.minu rd ra rb) rd (if a.toNat ≤ b.toNat then a else b) ∧
      s.yields (.maxu rd ra rb) rd (if a.toNat ≤ b.toNat then b else a)) ∧
    (∃ n : Nat, s.yields (.clz rd ra) rd (BitVec.ofNat 32 n) ∧ n ≤ 32 ∧ (∀ i, i < n → a.getMsbD i = false) ∧ (n < 32 → a.getMsbD n = true)) ∧
    (s.yields (.sextb rd ra) rd ((a.setWidth 8).signExtend 32) ∧ s.yields (.sexth rd ra) rd ((a.setWidth 16).signExtend 32) ∧
      s.yields (.zexth rd ra) rd (a &&& 0xFFFF#32)) ∧
    (∃ v : Word, s.yields (.bswap rd ra) rd v ∧ ∀ i : Nat, i < 4 → v.extractLsb' (8 * i) 8 = a.extractLsb' (8 * (3 - i)) 8) ∧
    (s.yields (.cmovz rd ra rb) rd (if b = 0 then a else s.input rd) ∧ s.yields (.cmovnz rd ra rb) rd (if b = 0 then s.input rd else a))

/-- For every state in which the instruction executes: when the exact signed result lies between -2^31 and 2^31 - 1, rd holds it and SAT is
unchanged; below the range rd holds -2^31 and above it 2^31 - 1, and SAT is set. ABS of 0x80000000 gives 0x7FFFFFFF and sets SAT. DZ and
everything else stand. (R421) -/
def Obligations.SaturatingInstructionsClampAndSetSat : Prop :=
  ∀ (s : State) (rd ra rb : GReg), s.executes = true →
    let saturates (i : Instr) (x : Int) : Prop :=
      ((-2 ^ 31 ≤ x ∧ x ≤ 2 ^ 31 - 1) → s.yieldsFlags i rd (BitVec.ofInt 32 x) s.core.sat s.core.dz) ∧
      (x < -2 ^ 31 → s.yieldsFlags i rd 0x80000000#32 true s.core.dz) ∧
      (2 ^ 31 - 1 < x → s.yieldsFlags i rd 0x7FFFFFFF#32 true s.core.dz)
    saturates (.addsat rd ra rb) ((s.input ra).toInt + (s.input rb).toInt) ∧
    saturates (.subsat rd ra rb) ((s.input ra).toInt - (s.input rb).toInt) ∧
    saturates (.abs rd ra) (Int.ofNat (s.input ra).toInt.natAbs) ∧
    (s.input ra = 0x80000000#32 → s.yieldsFlags (.abs rd ra) rd 0x7FFFFFFF#32 true s.core.dz)

/-- For every state in which the instruction executes: ADDI, SLTI and SLTIU use the sign-extended immediate, ANDI, ORI and XORI the zero-extended
one, and MOVHI writes the immediate shifted left by 16; rd holds the result (0 where rd is g0), the PC is at the next instruction, and nothing
else changes. (09_kraura_isa.md 6.2 (R422); R395) -/
def Obligations.ImmediateInstructionsGiveTheirResults : Prop :=
  ∀ (s : State) (rd ra : GReg) (imm : BitVec 16), s.executes = true →
    let a := s.input ra
    let sx : Word := imm.signExtend 32
    let zx : Word := imm.setWidth 32
    s.yields (.addi rd ra imm) rd (a + sx) ∧ s.yields (.andi rd ra imm) rd (a &&& zx) ∧ s.yields (.ori rd ra imm) rd (a ||| zx) ∧
    s.yields (.xori rd ra imm) rd (a ^^^ zx) ∧ s.yields (.slti rd ra imm) rd (if a.toInt < sx.toInt then 1 else 0) ∧
    s.yields (.sltiu rd ra imm) rd (if a.toNat < sx.toNat then 1 else 0) ∧ s.yields (.movhi rd imm) rd (imm ++ 0#16)

/-- For every state in which the instruction executes: MUL writes bits [31:0] of the product, MULH bits [63:32] of the signed product and MULHU
bits [63:32] of the unsigned product; nothing else changes. (09_kraura_isa.md 6.3 (R423)) -/
def Obligations.ProductsGiveTheirHalves : Prop :=
  ∀ (s : State) (rd ra rb : GReg), s.executes = true →
    let a := s.input ra
    let b := s.input rb
    s.yields (.mul rd ra rb) rd ((a.setWidth 64 * b.setWidth 64).extractLsb' 0 32) ∧
    s.yields (.mulh rd ra rb) rd ((a.signExtend 64 * b.signExtend 64).extractLsb' 32 32) ∧
    s.yields (.mulhu rd ra rb) rd ((a.setWidth 64 * b.setWidth 64).extractLsb' 32 32)

/-- For every state in which the division executes. With a divisor of 0, DIV and DIVU give 0xFFFFFFFF, REM and REMU give ra, and DZ is set. DIV
of 0x80000000 by 0xFFFFFFFF gives 0x80000000 and REM of them gives 0. With any other divisor DIV rounds toward zero, REM has the sign of ra,
DIVU and REMU are the unsigned quotient and remainder, and DZ is unchanged. None raises an exception: each answers a next state with nothing
else changed. (R424) -/
def Obligations.DivisionsGiveTheirResults : Prop :=
  ∀ (s : State) (rd ra rb : GReg), s.executes = true →
    let a := s.input ra
    let b := s.input rb
    (b = 0 →
      s.yieldsFlags (.div rd ra rb) rd 0xFFFFFFFF#32 s.core.sat true ∧ s.yieldsFlags (.divu rd ra rb) rd 0xFFFFFFFF#32 s.core.sat true ∧
      s.yieldsFlags (.rem rd ra rb) rd a s.core.sat true ∧ s.yieldsFlags (.remu rd ra rb) rd a s.core.sat true) ∧
    (a = 0x80000000#32 → b = 0xFFFFFFFF#32 →
      s.yields (.div rd ra rb) rd 0x80000000#32 ∧ s.yields (.rem rd ra rb) rd 0#32) ∧
    (b ≠ 0 →
      s.yields (.div rd ra rb) rd (BitVec.ofInt 32 (a.toInt.tdiv b.toInt)) ∧
      s.yields (.rem rd ra rb) rd (BitVec.ofInt 32 (a.toInt - b.toInt * a.toInt.tdiv b.toInt)) ∧
      s.yields (.divu rd ra rb) rd (BitVec.ofNat 32 (a.toNat / b.toNat)) ∧
      s.yields (.remu rd ra rb) rd (BitVec.ofNat 32 (a.toNat % b.toNat)))

-- Loads and stores

/-- For every state in which the load executes with an empty store buffer, an address aligned to the width and readable memory there (boot ROM,
flash, DTCM, SRAM, gallery, line window, Flowstone window): rt receives the bytes at (ra + sign-extended offset) modulo 2^32, sign- or zero-
extended as the mnemonic says, formed from ra before the load, whatever its latency (a slow load, of bytes of flash or Flowstone storage outside
the buffers, too). Every other register, the special registers, all of memory and the rest of the device stand. For every state in which the load
executes on an aligned address of DTCM, SRAM or the gallery direct view: when exactly one store-buffer entry overlaps the access and holds all its
bytes, the load gives those bytes of the entry, and the entry stays in the buffer; memory and everything else stand. (09_kraura_isa.md 6.4 (R426);
R412; R395; R7; R455; 10_core_execution.md 3 (R466)) -/
def Obligations.LoadsGiveTheBytesAtTheAddress : Prop :=
  (∀ (s : State) (rt ra : GReg) (imm : BitVec 16), s.executes = true → s.core.stores = [] →
      let a := (s.input ra + imm.signExtend 32).toNat
      s.readable a = true →
      (a % 4 = 0 → s.loads (.lw rt ra imm) rt (s.rawLoad a 4)) ∧
      (a % 2 = 0 → s.loads (.lh rt ra imm) rt (((s.rawLoad a 2).setWidth 16).signExtend 32) ∧ s.loads (.lhu rt ra imm) rt (s.rawLoad a 2)) ∧
      s.loads (.lb rt ra imm) rt (((s.rawLoad a 1).setWidth 8).signExtend 32) ∧ s.loads (.lbu rt ra imm) rt (s.rawLoad a 1)) ∧
  (∀ (s : State) (rt ra : GReg) (imm : BitVec 16) (w : Width) (e : StoreEntry), s.executes = true →
      let a := (s.input ra + imm.signExtend 32).toNat
      a % w.size = 0 → (regionOf a = .dtcm ∨ regionOf a = .sram ∨ regionOf a = .gallery) →
      s.core.stores.filter (·.overlaps a w.size) = [e] → e.addr ≤ a → a + w.size ≤ e.addr + e.size →
      let v := BitVec.ofNat 32 (leNat (((wordBytes e.value).drop (a - e.addr)).take w.size))
      let i : Instr := match w with
        | .word => .lw rt ra imm
        | .half => .lh rt ra imm
        | .halfU => .lhu rt ra imm
        | .byte => .lb rt ra imm
        | .byteU => .lbu rt ra imm
      s.loads i rt (w.extend v))

/-- For every state in which the store executes with a free entry, an address aligned to the width, and no BUS_FAULT for it (DTCM, SRAM, gallery,
or a word register that exists): the store becomes the youngest entry of the buffer, with the effective address, the width and the value of rt; no
byte of memory changes yet, and every register, special register and other part of the device stands. For every state with canonical memory and a
running core whose oldest store-buffer entry is for DTCM or SRAM, aligned to its width of 1, 2 or 4 bytes, and older than every load and division
in progress: STORE_DRAIN removes it from the buffer, memory then holds its low bytes in little-endian order from its address on, every byte
outside those reads as before, and the general registers, the PC and the special registers stand. (09_kraura_isa.md 6.4 (R426, R428); R412;
10_core_execution.md 3 (R465); R470; R607) -/
def Obligations.StoresReachMemoryThroughTheirBuffer : Prop :=
  (∀ (s : State) (rt ra : GReg) (imm : BitVec 16), s.executes = true → s.core.stores.length < 8 →
      let a := (s.input ra + imm.signExtend 32).toNat
      let enters (i : Instr) (size : Nat) : Prop :=
        a % size = 0 → (regionOf a = .dtcm ∨ regionOf a = .sram ∨ regionOf a = .gallery ∨ (size = 4 ∧ regionOf a = .io ∧ s.ioExists a = true)) →
          s.completes i fun t =>
            t.core.stores = s.core.stores ++ [⟨a, size, s.input rt⟩] ∧ t.core.pc = s.core.pc + 4 ∧ s.core.sameSticky t.core ∧ s.sameRegs t 0 ∧
              s.core.sameControl t.core ∧ s.core.sameDsp t.core ∧ (∀ b, memGet t.mem b = memGet s.mem b) ∧ s.sameDevice t
      enters (.sw rt ra imm) 4 ∧ enters (.sh rt ra imm) 2 ∧ enters (.sb rt ra imm) 1) ∧
  (∀ (s : State) (e : StoreEntry) (rest : List StoreEntry) (phase : Fin 8000), s.memOk → s.coreRuns = true → s.core.stores = e :: rest →
      s.core.storesHeld = false → (e.size = 1 ∨ e.size = 2 ∨ e.size = 4) → e.addr % e.size = 0 → (regionOf e.addr = .dtcm ∨ regionOf e.addr = .sram) →
      s.completes (.storeDrain phase) fun t =>
        t.core.stores = rest ∧ (∀ k, k < e.size → memGet t.mem (e.addr + k) = e.value.extractLsb' (8 * k) 8) ∧
          (∀ b, b < e.addr ∨ e.addr + e.size ≤ b → memGet t.mem b = memGet s.mem b) ∧
          t.core.g = s.core.g ∧ t.core.pc = s.core.pc ∧ s.core.sameSticky t.core ∧ s.core.sameControl t.core ∧ t.core.dsp = s.core.dsp)

/-- For every state in which the load or store executes, with its vector ready and no request pending: a word access with address bits [1:0] not
0 and a halfword access with bit [0] not 0 raise ALIGN; an aligned access where no range is, a byte or halfword access to the I/O region,
and an aligned store to boot ROM, flash or a window raise BUS_FAULT. The entry saves the address of the instruction, CP_BADADDR holds the
effective address and CP_CAUSE says whether it was a store; rt and every register, the store buffer and memory are unchanged.
(09_kraura_isa.md 5.1 (R413, R414, R416); R47; R49; R404) -/
def Obligations.BadAccessesRaiseAlignOrBusFault : Prop :=
  ∀ (s : State) (rt ra : GReg) (imm : BitVec 16), s.executes = true → s.uninterrupted = true → s.core.pc.toNat % 4 = 0 →
    let ea := s.input ra + imm.signExtend 32
    let a := ea.toNat
    let fails (i : Instr) (code : BitVec 5) (store : Bool) : Prop := s.raises i code s.core.pc store s.core.badInst ea
    (s.vectorReady xAlign = true →
      (a % 4 ≠ 0 → fails (.lw rt ra imm) xAlign false ∧ fails (.sw rt ra imm) xAlign true) ∧
      (a % 2 ≠ 0 → fails (.lh rt ra imm) xAlign false ∧ fails (.lhu rt ra imm) xAlign false ∧ fails (.sh rt ra imm) xAlign true)) ∧
    (s.vectorReady xBusFault = true →
      (regionOf a = .none →
        (a % 4 = 0 → fails (.lw rt ra imm) xBusFault false) ∧
        (a % 2 = 0 → fails (.lh rt ra imm) xBusFault false ∧ fails (.lhu rt ra imm) xBusFault false) ∧
        fails (.lb rt ra imm) xBusFault false ∧ fails (.lbu rt ra imm) xBusFault false) ∧
      (regionOf a = .io →
        (a % 2 = 0 → fails (.lh rt ra imm) xBusFault false ∧ fails (.lhu rt ra imm) xBusFault false) ∧
        fails (.lb rt ra imm) xBusFault false ∧ fails (.lbu rt ra imm) xBusFault false) ∧
      (regionOf a = .none ∨ regionOf a = .rom ∨ regionOf a = .flash ∨ regionOf a = .window ∨ regionOf a = .flowstone →
        (a % 4 = 0 → fails (.sw rt ra imm) xBusFault true) ∧ (a % 2 = 0 → fails (.sh rt ra imm) xBusFault true) ∧
        fails (.sb rt ra imm) xBusFault true))

-- Branches, jumps and system instructions

/-- For every state in which the branch executes: BEQ, BNE, BLT, BGE, BLTU and BGEU are taken when ra equals, differs from, is signed less than,
is signed not less than, is unsigned less than, is unsigned not less than rb. A taken branch leaves the PC at its address + 4 x the sign-extended
offset modulo 2^32, one not taken at the next instruction; no branch raises an exception, and nothing else changes. (09_kraura_isa.md 6.5 (R429);
R418) -/
def Obligations.BranchesGoToTheirTargets : Prop :=
  ∀ (s : State) (ra rb : GReg) (imm : BitVec 16), s.executes = true →
    let a := s.input ra
    let b := s.input rb
    let target := s.core.pc + (imm.signExtend 32) * 4#32
    let branches (i : Instr) (taken : Prop) : Prop :=
      s.completes i fun t => (taken → t.core.pc = target) ∧ (¬taken → t.core.pc = s.core.pc + 4) ∧ s.restStands t
    branches (.beq ra rb imm) (a = b) ∧ branches (.bne ra rb imm) (a ≠ b) ∧ branches (.blt ra rb imm) (a.toInt < b.toInt) ∧
    branches (.bge ra rb imm) (b.toInt ≤ a.toInt) ∧ branches (.bltu ra rb imm) (a.toNat < b.toNat) ∧ branches (.bgeu ra rb imm) (b.toNat ≤ a.toNat)

/-- For every state in which the jump executes: J and JAL continue at their address + 4 x the sign-extended 26-bit offset modulo 2^32, JR and
JALR at ra where its bits [1:0] are 0. JAL writes its address + 4 to g31 and JALR to rd, discarded for g0; JALR reads ra before it writes
rd, so with rd = ra it goes to the old value. Nothing else changes. Where bits [1:0] of the target of JR, JALR or ERET (ra, or CP_EPC) are
not 0, with no request pending and the vector ready, ALIGN is taken with CP_BADADDR holding the target and CP_EPC the instruction's address;
the jump is not taken and no general register is written. (R419; R431) -/
def Obligations.JumpsGoToTheirTargets : Prop :=
  ∀ (s : State) (rd ra : GReg) (off : BitVec 26), s.executes = true →
    let target := s.core.pc + (off.signExtend 32) * 4#32
    let next := s.core.pc + 4
    let links (i : Instr) (r : GReg) (target : Word) : Prop :=
      s.completes i fun t => t.core.pc = target ∧ t.core.reg r = (if r = 0 then 0 else next) ∧ s.core.sameSticky t.core ∧ s.onlyReg t r
    let fails (i : Instr) (target : Word) : Prop :=
      target.toNat % 4 ≠ 0 → s.uninterrupted = true → s.vectorReady xAlign = true → s.core.pc.toNat % 4 = 0 →
        s.raises i xAlign s.core.pc false s.core.badInst target
    (s.completes (.jump off) fun t => t.core.pc = target ∧ s.restStands t) ∧ links (.jal off) 31 target ∧
    ((s.input ra).toNat % 4 = 0 →
      (s.completes (.jr ra) fun t => t.core.pc = s.input ra ∧ s.restStands t) ∧ links (.jalr rd ra) rd (s.input ra)) ∧
    fails (.jr ra) (s.input ra) ∧ fails (.jalr rd ra) (s.input ra) ∧ fails .eret s.core.epc

/-- For every state in which SYSCALL or BREAK executes with no request pending and its vector ready: the entry of R478 is taken to CP_VBASE +
0x100 or + 0x120; CP_BADINST holds the instruction word, whose bits [15:0] are the code; CP_EPC holds the address of the SYSCALL + 4, or of
the BREAK itself; CP_BADADDR, the general registers, memory and the rest of the device stand. (R433) -/
def Obligations.SyscallAndBreakEnterTheirVectors : Prop :=
  ∀ (s : State) (code : BitVec 16), s.executes = true → s.uninterrupted = true → s.core.pc.toNat % 4 = 0 →
    (s.vectorReady xSyscall = true → s.raises (.syscall code) xSyscall (s.core.pc + 4) false (0x0C00#16 ++ code) s.core.badAddr) ∧
    (s.vectorReady xBreak = true → s.raises (.breakOp code) xBreak s.core.pc false (0x0C01#16 ++ code) s.core.badAddr)

/-- For every state in which ERET executes with CP_EPC aligned: in one step IE = PIE, IPL = PIPL, CSD = PCSD, INSVC = 0 and the PC is CP_EPC,
whatever INSVC held. CP_DRIPCTL.BUSY clears exactly when IPL was 2 and PIPL is below 2. Every other control register, the sticky bits, the
general registers, memory and the rest of the device stand. (R435) -/
def Obligations.EretRestoresTheSavedStatus : Prop :=
  ∀ s : State, s.executes = true → s.core.epc.toNat % 4 = 0 →
    s.completes .eret fun t =>
      t.core.pc = s.core.epc ∧ s.core.sameSticky t.core ∧
        s.controlBecomes t { s.core with
          ie := s.core.pie, ipl := s.core.pipl, csd := s.core.pcsd, insvc := false
          dripBusy := if s.core.ipl = 2 ∧ s.core.pipl.toNat < 2 then false else s.core.dripBusy }

/-- For every state in which the instruction executes: DI raises CSD by 1, holding at 15, and no asynchronous request can be taken after it.
With the leaves of corrections and DSP clamps masked, EI lowers CSD by 1, holding at 0. When CSD was 1 and a request can be taken at depth
0, that request is taken at once: CP_EPC holds the address after the EI, PCSD is 0, IPL is its level, the PC its vector. When CSD was not 1,
or no request can be taken, execution goes on at the next instruction. IE, the general registers and everything else stand. (R439) -/
def Obligations.DiAndEiCountCriticalSections : Prop :=
  ∀ s : State, s.executes = true →
    let s0 : State := { s with core.csd := if s.core.csd = 0 then 0 else s.core.csd - 1 }
    (s.completes .di fun t =>
      t.core.pc = s.core.pc + 4 ∧ s.core.sameSticky t.core ∧ t.takeable = none ∧
        s.controlBecomes t { s.core with csd := if s.core.csd.toNat = 15 then 15 else s.core.csd + 1 }) ∧
    (s.reportsMasked = true → s.core.pc.toNat % 4 = 0 →
      (s.core.csd ≠ 1 ∨ s0.takeable = none → s.completes .ei fun t =>
        t.core.pc = s.core.pc + 4 ∧ s.core.sameSticky t.core ∧ s.controlBecomes t { s.core with csd := s0.core.csd }) ∧
      (∀ r : AsyncReq, s.core.csd = 1 → s0.takeable = some r → s.vectorReady r.code = true → s.completes .ei fun t =>
        s0.entered t r.code (s.core.pc + 4) (BitVec.ofNat 3 r.level)
          (r.code.setWidth 32 ||| nfld 8 (r.level - 1) ||| flag 17 s.core.insvc) s.core.badInst s.core.badAddr ∧ s.sameRegs t 0))

/-- For every state in which MFS executes: for every special register but CP_CYCLE_LO, CP_DTDATA and CP_DRIP_LO, rd receives its value and
nothing else changes. CP_DRIP_LO gives bits [31:0] of the drip count and captures [47:32] for CP_DRIP_HI; CP_CYCLE_LO captures for
CP_CYCLE_HI bits [63:32] of the very count whose bits [31:0] it gives; CP_DTDATA gives the selected word and advances CP_DTADDR where INC is
1. A number that names no special register raises RESERVED_OP. (09_kraura_isa.md 2 (R401, R405, R434); 02_drip.md 7;
12_custom_instructions.md 6 (R552)) -/
def Obligations.MfsReadsSpecialRegisters : Prop :=
  ∀ (s : State) (rd : GReg) (sr : BitVec 8), s.executes = true →
    (isSpecial sr = true → sr ≠ 0x09 → sr ≠ 0x15 → sr ≠ 0x20 → s.yields (.mfs rd sr) rd (s.special sr)) ∧
    (s.completes (.mfs rd 0x20) fun t =>
      t.core.reg rd = (if rd = 0 then 0 else s.drip.count.extractLsb' 0 32) ∧ t.core.pc = s.core.pc + 4 ∧ s.sameRegs t rd ∧
        ({ s.core with dripHi := s.drip.count.extractLsb' 32 16 }).sameControl t.core ∧ s.sameMemory t) ∧
    (∃ n : BitVec 64, s.core.cycle.toNat ≤ n.toNat ∧ s.completes (.mfs rd 0x09) fun t =>
      t.core.reg rd = (if rd = 0 then 0 else n.extractLsb' 0 32) ∧ t.core.pc = s.core.pc + 4 ∧ s.sameRegs t rd ∧
        ({ s.core with cycleHi := n.extractLsb' 32 32 }).sameControl t.core ∧ s.sameMemory t) ∧
    (s.completes (.mfs rd 0x15) fun t =>
      t.core.reg rd = (if rd = 0 then 0 else (s.core.cx.table[s.core.cx.entry]).read s.core.cx.word.toNat) ∧ t.core.pc = s.core.pc + 4 ∧
        s.sameRegs t rd ∧ ({ s.core with cx := s.core.cx.advance }).sameControl t.core ∧ s.sameMemory t) ∧
    (isSpecial sr = false → s.uninterrupted = true → s.vectorReady xReservedOp = true → s.core.pc.toNat % 4 = 0 →
      s.raises (.mfs rd sr) xReservedOp s.core.pc false (0x0C080000#32 ||| (BitVec.ofNat 32 rd.val) <<< 21 ||| sr.setWidth 32) s.core.badAddr)

/-- For every state in which MTS executes: CP_STATUS takes its fields from rt (a level above 4 is stored as 0; SAT and DZ are written too);
CP_EPC and CP_VBASE keep their reserved low bits 0; CP_BADINST, CP_BADADDR, the scratch registers and CP_DRIPMISS take rt; CP_DRIPCTL takes
DIV and EN alone; CP_DTADDR takes INC, ENTRY and WORD; CP_DTLOCK sets LOCK by 1 and clears DENIED by 1; a read-only register takes nothing;
a number that names none raises RESERVED_OP. The general registers, memory and everything else stand. (09_kraura_isa.md 2 (R401 to R403,
R434); R489; R17; 12_custom_instructions.md 6 (R541, R552)) -/
def Obligations.MtsWritesSpecialRegisters : Prop :=
  ∀ (s : State) (rt : GReg) (sr : BitVec 8), s.executes = true →
    let c := s.core
    let v := s.input rt
    let level (x : BitVec 3) : BitVec 3 := if x.toNat ≤ 4 then x else 0
    let sets (n : BitVec 8) (d : CoreBlock) : Prop :=
      s.completes (.mts rt n) fun t => t.core.pc = c.pc + 4 ∧ d.sameSticky t.core ∧ s.controlBecomes t d
    sets 0x00 { c with
      pcsd := v.extractLsb' 24 4, csd := v.extractLsb' 20 4, dz := v.getLsbD 17, sat := v.getLsbD 16, pipl := level (v.extractLsb' 8 3)
      ipl := level (v.extractLsb' 4 3), insvc := v.getLsbD 2, pie := v.getLsbD 1, ie := v.getLsbD 0 } ∧
    sets 0x01 { c with epc := v &&& 0xFFFFFFFC#32 } ∧ sets 0x03 { c with vbase := v &&& 0xFFFFFE00#32 } ∧
    sets 0x04 { c with badInst := v } ∧ sets 0x05 { c with badAddr := v } ∧ sets 0x06 { c with scratch0 := v } ∧
    sets 0x07 { c with scratch1 := v } ∧ sets 0x23 { c with dripDiv := v.extractLsb' 8 8, dripEn := v.getLsbD 0 } ∧
    sets 0x24 { c with dripMiss := v } ∧
    sets 0x14 { c with cx := { c.cx with inc := v.getLsbD 8, entry := (v.extractLsb' 5 3).toFin, word := v.extractLsb' 0 5 } } ∧
    sets 0x16 { c with cx := { c.cx with lock := c.cx.lock || v.getLsbD 0, denied := c.cx.denied && !v.getLsbD 1 } } ∧
    (∀ n ∈ [0x02#8, 0x08#8, 0x09#8, 0x0A#8, 0x11#8, 0x12#8, 0x20#8, 0x21#8, 0x22#8], sets n c) ∧
    (s.core.dsp.inFlight = [] → s.completes (.mts rt 0x10) fun t =>
      t.core.pc = c.pc + 4 ∧ c.sameControl t.core ∧ t.core.dsp = { c.dsp with gstart := v.extractLsb' 0 5 } ∧ s.sameRegs t 0 ∧ s.sameMemory t) ∧
    (isSpecial sr = false → s.uninterrupted = true → s.vectorReady xReservedOp = true → c.pc.toNat % 4 = 0 →
      s.raises (.mts rt sr) xReservedOp c.pc false (0x0C090000#32 ||| (BitVec.ofNat 32 rt.val) <<< 21 ||| sr.setWidth 32) c.badAddr)

/-- For every state in which FENCE or IFLUSH executes with stores to DTCM and SRAM alone in the buffer: afterwards the store buffer is empty and
no slow load or division is in progress, every byte outside the stored ones reads as before, the registers stand, and after IFLUSH the instruction
cache, its parity errors and the flash read buffer hold nothing. For every state in which DOZE executes with an empty store buffer and the leaves
of corrections and clamps masked: with no event of R122 pending the core is in DOZE afterwards, runs no instruction until it wakes, and its DSP
operations have completed; with one pending that cannot be taken, it goes on at the next instruction. The registers, memory and the rest of the
device stand either way. So does MTS to CP_DOZE with bit 0 of rt set; with bit 0 clear it does nothing. (09_kraura_isa.md 6.6 (R436, R437); R467;
03_power_clocks_modes.md 4 (R121, R122); R505) -/
def Obligations.FenceIflushAndDozeDrain : Prop :=
  (∀ s : State, s.executes = true → (∀ e ∈ s.core.stores, regionOf e.addr = .dtcm ∨ regionOf e.addr = .sram) →
      let drained (t : State) : Prop :=
        t.core.stores = [] ∧ t.core.outs = [] ∧ t.core.pc = s.core.pc + 4 ∧ s.core.sameSticky t.core ∧ s.core.sameControl t.core ∧ s.sameRegs t 0 ∧
          ∀ b, (∀ e ∈ s.core.stores, b < e.addr ∨ e.addr + e.size ≤ b) → memGet t.mem b = memGet s.mem b
      s.completes .fence drained ∧ s.completes .iflush fun t => drained t ∧ t.core.icache = [] ∧ t.core.icacheParity = [] ∧ t.core.flashBuf = []) ∧
  (∀ (s : State) (rt : GReg), s.executes = true → s.core.stores = [] → s.reportsMasked = true →
      let dozes (i : Instr) (asked : Prop) : Prop :=
        (asked → s.dozeEnds = false → s.completes i fun t =>
          t.core.doze = true ∧ t.coreRuns = false ∧ t.core.dsp.inFlight = [] ∧ t.core.pc = s.core.pc + 4 ∧ s.restStands t) ∧
        (¬asked ∨ (s.dozeEnds = true ∧ s.takeable = none) → s.completes i fun t =>
          t.core.doze = false ∧ t.core.pc = s.core.pc + 4 ∧ s.restStands t)
      dozes .doze True ∧ dozes (.mts rt 0x25) ((s.input rt).getLsbD 0 = true))

/-- For every state in which the instruction at the PC executes with no request pending and the vector ready, and every word that no encoding
assigns: the entry of RESERVED_OP is taken, CP_BADINST holds the word, CP_EPC the address of the instruction, and registers and memory
stand. The all-zero word, majors 0x04 and 0x3F and an ADD with a nonzero sh field are such words; ADD, SYSCALL, CX and J with every operand
at 0 are not. (09_kraura_isa.md 3 (R407 to R411); R404; R471) -/
def Obligations.ReservedWordsRaiseReservedOp : Prop :=
  (∀ (s : State) (w : Word), s.executes = true → isAssigned w = false → s.uninterrupted = true → s.vectorReady xReservedOp = true →
    s.core.pc.toNat % 4 = 0 → s.raises (.reservedOp w) xReservedOp s.core.pc false w s.core.badAddr) ∧
  ([0x00000000#32, 0x10000000#32, 0xFFFFFFFF#32, 0x00100001#32].all fun w => !isAssigned w) = true ∧
  ([0x00100000#32, 0x0C000000#32, 0xF8000000#32, 0xA0000000#32].all isAssigned) = true

-- The DSP datapath, GATHER and custom instructions

/-- For every state with no DSP write in flight in which the instruction executes on a good word m of DTCM: with the product z x m (I: z.I m.I -
z.Q m.Q, Q: z.I m.Q + z.Q m.I) and z x conj(m) (I: z.I m.I + z.Q m.Q, Q: z.Q m.I - z.I m.Q), CMAC and CMACJ add, and CMSU subtracts, each
component to the accumulator component of 40 bits, clamped independently to the nearer end of its range, a clamp setting ASAT; CMUL writes
the product and clamps nothing. ag steps when U is 1. No register, no byte of memory and nothing else changes. (R495) -/
def Obligations.MultiplyInstructionsAccumulateExactProducts : Prop :=
  ∀ (s : State) (acc : Fin 4) (z : Fin 8) (ag : Fin 4) (u : Bool), s.executes = true → s.core.dsp.inFlight = [] →
    let d := s.core.dsp
    let a := (d.ag[ag]).p.toNat
    s.dspWordOk a = true →
    let m := s.rawLoad a 4
    let zi := ((d.z[z]).extractLsb' 0 16).toInt
    let zq := ((d.z[z]).extractLsb' 16 16).toInt
    let mi := (m.extractLsb' 0 16).toInt
    let mq := (m.extractLsb' 16 16).toInt
    let ags := if u then d.ag.set ag (d.ag[ag]).step else d.ag
    let ai := (d.accI[acc]).toInt
    let aq := (d.accQ[acc]).toInt
    let adds (i : Instr) (pi pq : Int) : Prop :=
      s.dspBecomes i { d with
        accI := d.accI.set acc (held40 (ai + pi)), accQ := d.accQ.set acc (held40 (aq + pq)), ag := ags
        asat := d.asat || outside40 (ai + pi) || outside40 (aq + pq) }
    adds (.cmac acc z ag u) (zi * mi - zq * mq) (zi * mq + zq * mi) ∧
    adds (.cmacj acc z ag u) (zi * mi + zq * mq) (zq * mi - zi * mq) ∧
    adds (.cmsu acc z ag u) (-(zi * mi - zq * mq)) (-(zi * mq + zq * mi)) ∧
    s.dspBecomes (.cmul acc z ag u) { d with
      accI := d.accI.set acc (BitVec.ofInt 40 (zi * mi - zq * mq)), accQ := d.accQ.set acc (BitVec.ofInt 40 (zi * mq + zq * mi)), ag := ags }

/-- For every state with no DSP write in flight in which the instruction executes: ZLD writes the good DTCM word at ag.P to z and ZST puts z in
the store buffer as a word store there, each stepping ag when U is 1; ACLR clears an accumulator; AGSET writes P, S, B or L from g and AGGET
reads it, S sign- and L zero-extended; ZPUT and ZGET copy between g and z; ACCPUT writes bits [31:0] or [39:32] of one component and keeps
the others, and ACCGET reads them, the high part sign-extended. A destination g0 discards the result; everything else stands.
(11_dsp_datapath.md 3 (R494, R501); R395; R498) -/
def Obligations.DspMovesTransferTheirOperands : Prop :=
  ∀ (s : State) (acc : Fin 4) (z : Fin 8) (ag : Fin 4) (u : Bool) (g : GReg), s.executes = true → s.core.dsp.inFlight = [] →
    let d := s.core.dsp
    let n := d.ag[ag]
    let v := s.input g
    let ags := if u then d.ag.set ag n.step else d.ag
    let i := d.accI[acc]
    let q := d.accQ[acc]
    (s.dspWordOk n.p.toNat = true → s.dspBecomes (.zld z ag u) { d with z := d.z.set z (s.rawLoad n.p.toNat 4), ag := ags }) ∧
    (n.p.toNat % 4 = 0 → 0x10000000 ≤ n.p.toNat → n.p.toNat + 4 ≤ 0x10008000 → s.core.stores.length < 8 → s.completes (.zst z ag u) fun t =>
      t.core.stores = s.core.stores ++ [⟨n.p.toNat, 4, d.z[z]⟩] ∧ t.core.dsp = { d with ag := ags } ∧ t.core.pc = s.core.pc + 4 ∧
        s.core.sameSticky t.core ∧ s.core.sameControl t.core ∧ s.sameRegs t 0 ∧ (∀ b, memGet t.mem b = memGet s.mem b) ∧ s.sameDevice t) ∧
    s.dspBecomes (.aclr acc) { d with accI := d.accI.set acc 0, accQ := d.accQ.set acc 0 } ∧
    (s.dspBecomes (.agset ag g 0) { d with ag := d.ag.set ag { n with p := v } } ∧
      s.dspBecomes (.agset ag g 1) { d with ag := d.ag.set ag { n with s := v.extractLsb' 0 16 } } ∧
      s.dspBecomes (.agset ag g 2) { d with ag := d.ag.set ag { n with b := v } } ∧
      s.dspBecomes (.agset ag g 3) { d with ag := d.ag.set ag { n with l := v.extractLsb' 0 16 } }) ∧
    (s.yields (.agget ag g 0) g n.p ∧ s.yields (.agget ag g 1) g (n.s.signExtend 32) ∧ s.yields (.agget ag g 2) g n.b ∧
      s.yields (.agget ag g 3) g (n.l.setWidth 32)) ∧
    (s.dspBecomes (.zput z g) { d with z := d.z.set z v } ∧ s.yields (.zget z g) g d.z[z]) ∧
    (s.dspBecomes (.accput acc g 0) { d with accI := d.accI.set acc (i.extractLsb' 32 8 ++ v) } ∧
      s.dspBecomes (.accput acc g 1) { d with accQ := d.accQ.set acc (q.extractLsb' 32 8 ++ v) } ∧
      s.dspBecomes (.accput acc g 2) { d with accI := d.accI.set acc (v.extractLsb' 0 8 ++ i.extractLsb' 0 32) } ∧
      s.dspBecomes (.accput acc g 3) { d with accQ := d.accQ.set acc (v.extractLsb' 0 8 ++ q.extractLsb' 0 32) }) ∧
    (s.yields (.accget acc g 0) g (i.extractLsb' 0 32) ∧ s.yields (.accget acc g 1) g (q.extractLsb' 0 32) ∧
      s.yields (.accget acc g 2) g ((i.extractLsb' 32 8).signExtend 32) ∧ s.yields (.accget acc g 3) g ((q.extractLsb' 32 8).signExtend 32))

/-- For every state with no DSP write in flight in which ZACC executes: each component y of zd is the accumulator component for sh = 0 and
otherwise its sum with 2^(sh-1) shifted right arithmetically by sh; y outside -32768 to 32767 is clamped to the nearer end and sets ZSAT.
With C = 1 the accumulator then becomes 0. Nothing else changes. (11_dsp_datapath.md 3 (R494, R496)) -/
def Obligations.ZaccRoundsAndSaturates : Prop :=
  ∀ (s : State) (zd : Fin 8) (acc : Fin 4) (sh : BitVec 5) (c : Bool), s.executes = true → s.core.dsp.inFlight = [] →
    let d := s.core.dsp
    let y (x : Int) : Int := if sh.toNat = 0 then x else (x + 2 ^ (sh.toNat - 1)).fdiv (2 ^ sh.toNat)
    let out (y : Int) : Bool := decide (y < -32768) || decide (32767 < y)
    let held (y : Int) : BitVec 16 := if y < -32768 then 0x8000 else if 32767 < y then 0x7FFF else BitVec.ofInt 16 y
    let yi := y (d.accI[acc]).toInt
    let yq := y (d.accQ[acc]).toInt
    s.dspBecomes (.zacc zd acc sh c) { d with
      z := d.z.set zd (held yq ++ held yi), zsat := d.zsat || out yi || out yq
      accI := if c then d.accI.set acc 0 else d.accI, accQ := if c then d.accQ.set acc 0 else d.accQ }

/-- For every address generator: the step adds the sign-extended S to P modulo 2^32; with L not 0 it then subtracts L when P is not below B + L
(formed in 33 bits), or else adds L when P is below B; S, B and L are unchanged. When B ≤ P < B + L, |S| ≤ L and neither the buffer nor its
neighbourhood of L bytes leaves the address space, P lies in B to B + L - 1 after the step. (11_dsp_datapath.md 4 (R497)) -/
def Obligations.AddressGeneratorStepCorrectsOnce : Prop :=
  ∀ g : AddrGen,
    let p := g.p + g.s.signExtend 32
    let l : Word := g.l.setWidth 32
    (g.step.s = g.s ∧ g.step.b = g.b ∧ g.step.l = g.l) ∧ (g.l = 0 → g.step.p = p) ∧
    (g.l ≠ 0 → g.b.toNat + g.l.toNat ≤ p.toNat → g.step.p = p - l) ∧
    (g.l ≠ 0 → p.toNat < g.b.toNat + g.l.toNat → p.toNat < g.b.toNat → g.step.p = p + l) ∧
    (g.l ≠ 0 → p.toNat < g.b.toNat + g.l.toNat → g.b.toNat ≤ p.toNat → g.step.p = p) ∧
    (g.b.toNat ≤ g.p.toNat → g.p.toNat < g.b.toNat + g.l.toNat → g.s.toInt.natAbs ≤ g.l.toNat →
      g.l.toNat ≤ g.b.toNat → g.b.toNat + 2 * g.l.toNat ≤ 2 ^ 32 →
      g.b.toNat ≤ g.step.p.toNat ∧ g.step.p.toNat < g.b.toNat + g.l.toNat)

/-- For every state with no DSP write in flight in which the instruction executes with no request pending and the vectors ready: CMAC, ZLD, ZST,
DSAVE and DLOAD with bits [1:0] of their address not 0 raise ALIGN, and with an aligned address outside DTCM (for DSAVE and DLOAD: whose 136
bytes are not all in DTCM) BUS_FAULT; CP_BADADDR holds the address and CP_CAUSE.STORE is 1 for ZST and DSAVE; the DSP state, the store
buffer, memory and the general registers stand. A GATHER with an empty store buffer and CP_GSTART below count whose next index address is
misaligned or outside DTCM takes GATHER_FAULT: CP_GFIDX holds reason 1 and the element, CP_GFADDR that address, CP_GSTART and the generators
stand, CP_EPC holds the GATHER's address, CP_BADADDR is unchanged and no byte of memory changes. (11_dsp_datapath.md 4, 6, 7 (R498, R499,
R511, R517, R522); R404) -/
def Obligations.DspAccessFaultsChangeNothing : Prop :=
  ∀ (s : State) (acc : Fin 4) (z : Fin 8) (ag agI : Fin 4) (u : Bool) (g : GReg) (count : Fin 16), s.executes = true →
    s.uninterrupted = true → s.core.pc.toNat % 4 = 0 → s.core.dsp.inFlight = [] →
    let d := s.core.dsp
    let p := (d.ag[ag]).p
    let v := s.input g
    let x := ((d.ag[agI]).steps d.gstart.toNat).p
    let fails (i : Instr) (code : BitVec 5) (a : Word) (store : Bool) : Prop := s.raises i code s.core.pc store s.core.badInst a
    (s.vectorReady xAlign = true →
      (p.toNat % 4 ≠ 0 → fails (.cmac acc z ag u) xAlign p false ∧ fails (.zld z ag u) xAlign p false ∧ fails (.zst z ag u) xAlign p true) ∧
      (v.toNat % 4 ≠ 0 → fails (.dsave g) xAlign v true ∧ fails (.dload g) xAlign v false)) ∧
    (s.vectorReady xBusFault = true →
      (p.toNat % 4 = 0 → (p.toNat < 0x10000000 ∨ 0x10008000 ≤ p.toNat) →
        fails (.cmac acc z ag u) xBusFault p false ∧ fails (.zld z ag u) xBusFault p false ∧ fails (.zst z ag u) xBusFault p true) ∧
      (v.toNat % 4 = 0 → (v.toNat < 0x10000000 ∨ 0x10007F78 < v.toNat) →
        fails (.dsave g) xBusFault v true ∧ fails (.dload g) xBusFault v false)) ∧
    (s.vectorReady xGatherFault = true → s.core.stores = [] → d.gstart.toNat ≤ count.val →
      (x.toNat % 4 ≠ 0 ∨ x.toNat < 0x10000000 ∨ 0x10008000 ≤ x.toNat) → s.completes (.gather ag agI g count) fun t =>
        t.core.pc = s.vectorOf xGatherFault ∧ t.core.epc = s.core.pc ∧ t.core.badAddr = s.core.badAddr ∧
          t.core.dsp = { d with gfReason := 1, gfK := d.gstart, gfAddr := x } ∧ s.sameRegs t 0 ∧ ∀ b, memGet t.mem b = memGet s.mem b)

/-- For every state with canonical memory, empty store buffer, no DSP write in flight and no request pending in which GATHER executes, with agD
and agI distinct, when every element from CP_GSTART on has its index word and destination in DTCM and a good source in a range of check 4,
and no destination word overlaps an index, a source or another destination: the destination of element k then holds the word at gBase + 4 x
index as memory stood before; every other byte reads as before; agD and agI have advanced by count steps, CP_GSTART is 0, and the PC is at
the next instruction. (11_dsp_datapath.md 6 (R510 to R513)) -/
def Obligations.GatherCollectsIndexedWords : Prop :=
  ∀ (s : State) (agD agI : Fin 4) (gBase : GReg) (count : Fin 16), s.memOk → s.executes = true → s.core.stores = [] → s.core.dsp.inFlight = [] →
    s.uninterrupted = true → agD ≠ agI →
    let d := s.core.dsp
    let start := d.gstart.toNat
    let n := count.val + 1
    let index (k : Nat) : Nat := ((d.ag[agI]).steps k).p.toNat
    let dest (k : Nat) : Nat := ((d.ag[agD]).steps k).p.toNat
    let source (k : Nat) : Nat := (s.input gBase + memWord s.mem (index k) * 4#32).toNat
    let apart (a b : Nat) : Prop := a + 4 ≤ b ∨ b + 4 ≤ a
    (∀ k, start ≤ k → k < n →
      gatherDtcm (index k) = true ∧ s.ramBad (index k) = false ∧ source k % 4 = 0 ∧ gatherSource (source k) = true ∧
        s.sourceBad (source k) = false ∧ s.flash.busyAt (source k) = false ∧ gatherDtcm (dest k) = true) →
    (∀ j k, start ≤ j → j < n → start ≤ k → k < n →
      apart (dest j) (index k) ∧ apart (dest j) (source k) ∧ (j ≠ k → apart (dest j) (dest k))) →
    s.completes (.gather agD agI gBase count) fun t =>
      (∀ k, start ≤ k → k < n → memWord t.mem (dest k) = memWord s.mem (source k)) ∧
      (∀ b, (∀ k, start ≤ k → k < n → b < dest k ∨ dest k + 4 ≤ b) → memGet t.mem b = memGet s.mem b) ∧
      t.core.dsp = { d with ag := (d.ag.set agD ((d.ag[agD]).steps n)).set agI ((d.ag[agI]).steps n), gstart := 0 } ∧
      t.core.pc = s.core.pc + 4 ∧ s.core.sameSticky t.core ∧ s.core.sameControl t.core ∧ s.sameRegs t 0 ∧ t.core.stores = []

/-- For every state with canonical memory, empty store buffer, no DSP write in flight and no request pending in which DSAVE executes with the
136-byte area word-aligned in DTCM: word i of the area then holds word i of the table (z, accumulators, generators, CP_GSTART with the flags, 0),
every byte outside the area reads as before, and the DSP state, the registers and the PC's advance are as for any instruction. For every state s
in which DSAVE of an area in DTCM executes, with canonical memory, empty store buffer, no write in flight and no request pending, and every state
u in which DLOAD of the same area executes with an empty store buffer, the area's words good and its bytes as the DSAVE left them: DLOAD answers a
next state whose z registers, accumulators, address generators, CP_GSTART, ASAT and ZSAT are those of s, whatever they were in u; it changes no
general register and no memory. For every state in which DLOAD executes with an empty store buffer and the 136-byte area word-aligned in DTCM, its
words good: it answers a next state whose z registers, accumulators, address generators, CP_GSTART, ZSAT and ASAT are what the area's words hold
in the layout of R521, the PC at the next instruction, and the registers, memory and the rest of the device as they were. (11_dsp_datapath.md 7
(R521 to R524)) -/
def Obligations.DsaveAndDloadKeepTheDspState : Prop :=
  (∀ (s : State) (g : GReg), s.memOk → s.executes = true → s.core.stores = [] → s.core.dsp.inFlight = [] → s.uninterrupted = true →
      let a := (s.input g).toNat
      a % 4 = 0 → 0x10000000 ≤ a → a + 136 ≤ 0x10008000 →
      let d := s.core.dsp
      s.completes (.dsave g) fun t =>
        (∀ i : Fin 8, memWord t.mem (a + 4 * i) = d.z[i]) ∧
        (∀ i : Fin 4,
          memWord t.mem (a + 4 * (8 + 3 * i)) = (d.accI[i]).extractLsb' 0 32 ∧ memWord t.mem (a + 4 * (9 + 3 * i)) = (d.accQ[i]).extractLsb' 0 32 ∧
          memWord t.mem (a + 4 * (10 + 3 * i)) = 0#16 ++ (d.accQ[i]).extractLsb' 32 8 ++ (d.accI[i]).extractLsb' 32 8 ∧
          memWord t.mem (a + 4 * (20 + 3 * i)) = (d.ag[i]).p ∧ memWord t.mem (a + 4 * (21 + 3 * i)) = (d.ag[i]).b ∧
          memWord t.mem (a + 4 * (22 + 3 * i)) = (d.ag[i]).l ++ (d.ag[i]).s) ∧
        memWord t.mem (a + 128) = d.gstart.setWidth 32 ||| flag 16 d.zsat ||| flag 17 d.asat ∧ memWord t.mem (a + 132) = 0 ∧
        (∀ b, b < a ∨ a + 136 ≤ b → memGet t.mem b = memGet s.mem b) ∧
        t.core.dsp = d ∧ t.core.pc = s.core.pc + 4 ∧ s.core.sameSticky t.core ∧ s.core.sameControl t.core ∧ s.sameRegs t 0) ∧
  (∀ (s u : State) (g h : GReg), s.memOk → s.executes = true → s.core.stores = [] → s.core.dsp.inFlight = [] → s.uninterrupted = true →
      u.executes = true → u.core.stores = [] → s.input g = u.input h →
      let a := (s.input g).toNat
      a % 4 = 0 → 0x10000000 ≤ a → a + 136 ≤ 0x10008000 → (∀ i, i < 34 → u.ramBad (a + 4 * i) = false) →
      (∀ t, exec (.dsave g) s = .next t → ∀ b, a ≤ b → b < a + 136 → memGet u.mem b = memGet t.mem b) →
      u.completes (.dload h) fun v =>
        v.core.dsp.z = s.core.dsp.z ∧ v.core.dsp.accI = s.core.dsp.accI ∧ v.core.dsp.accQ = s.core.dsp.accQ ∧ v.core.dsp.ag = s.core.dsp.ag ∧
          v.core.dsp.gstart = s.core.dsp.gstart ∧ v.core.dsp.asat = s.core.dsp.asat ∧ v.core.dsp.zsat = s.core.dsp.zsat ∧
          v.core.pc = u.core.pc + 4 ∧ u.core.sameControl v.core ∧ u.sameRegs v 0 ∧ u.sameMemory v) ∧
  (∀ (s : State) (g : GReg), s.executes = true → s.core.stores = [] →
      let a := (s.input g).toNat
      let w (i : Nat) : Word := memWord s.mem (a + 4 * i)
      a % 4 = 0 → 0x10000000 ≤ a → a + 136 ≤ 0x10008000 → (∀ i, i < 34 → s.ramBad (a + 4 * i) = false) →
      s.completes (.dload g) fun t =>
        (∀ i : Fin 8, t.core.dsp.z[i] = w i) ∧
        (∀ i : Fin 4,
          t.core.dsp.accI[i] = (w (10 + 3 * i)).extractLsb' 0 8 ++ w (8 + 3 * i) ∧
          t.core.dsp.accQ[i] = (w (10 + 3 * i)).extractLsb' 8 8 ++ w (9 + 3 * i) ∧
          t.core.dsp.ag[i] = ⟨w (20 + 3 * i), (w (22 + 3 * i)).extractLsb' 0 16, w (21 + 3 * i), (w (22 + 3 * i)).extractLsb' 16 16⟩) ∧
        t.core.dsp.gstart = (w 32).extractLsb' 0 5 ∧ t.core.dsp.zsat = (w 32).getLsbD 16 ∧ t.core.dsp.asat = (w 32).getLsbD 17 ∧
        t.core.pc = s.core.pc + 4 ∧ s.core.sameSticky t.core ∧ s.core.sameControl t.core ∧ s.sameRegs t 0 ∧ s.sameMemory t ∧ s.sameDevice t)

/-- For every state in which a custom instruction executes with its entry's VALID bit at 0, no request pending and the vector ready: CX_EMPTY is
taken, CP_BADINST holds the word (major 0x3E, entry, rd, ra, rb, imm8), CP_EPC the instruction's address, and the registers, the DSP state
once its writes in flight have completed, memory and the rest of the device stand. (R528) -/
def Obligations.EmptyEntriesRaiseCxEmpty : Prop :=
  ∀ (s : State) (e : Fin 8) (rd ra rb : GReg) (imm8 : Byte), s.executes = true → (s.core.cx.table[e]).valid = false →
    s.uninterrupted = true → s.vectorReady xCxEmpty = true → s.core.pc.toNat % 4 = 0 →
    s.raises (.cx e rd ra rb imm8) xCxEmpty s.core.pc false
      (BitVec.ofNat 32 (0xF8000000 + e.val * 0x800000 + rd.val * 0x40000 + ra.val * 0x2000 + rb.val * 0x100 + imm8.toNat)) s.core.badAddr

/-- For every state in which a custom instruction executes whose valid entry has N = 2: a computing micro-op (MOV, ADD, SUB, AND, OR, XOR, SLL,
SRL, SRA, MUL) on rd, ra, rb or imm8 into a temporary, then WRG of that temporary. The register that WRG's field names (0 rd, 1 ra, 2 rb)
receives the result formed from the values at issue, shifts by bits [4:0]; execution goes on at the next instruction and nothing else
changes. (12_custom_instructions.md 2, 4 (R529 to R532)) -/
def Obligations.CustomInstructionsCompute : Prop :=
  ∀ (s : State) (e : Fin 8) (rd ra rb : GReg) (imm8 : Byte), s.executes = true →
    let x := s.core.cx.table[e]
    let m := x.ops[0]
    let w := x.ops[1]
    x.valid = true → x.n = 2 → 1 ≤ uOp m → uOp m ≤ 10 → uA m < 4 → uB m < 4 →
    uOp w = 0x20 → uA w = 4 + (uD m).val → (w.extractLsb' 16 2).toNat < 3 →
    let src (n : Nat) : Word := if n = 0 then s.input rd else if n = 1 then s.input ra else if n = 2 then s.input rb else imm8.setWidth 32
    let a := src (uA m)
    let b := src (uB m)
    let n := b.toNat % 32
    let v := match uOp m with
      | 1 => a
      | 2 => a + b
      | 3 => a - b
      | 4 => a &&& b
      | 5 => a ||| b
      | 6 => a ^^^ b
      | 7 => a <<< n
      | 8 => a >>> n
      | 9 => a.sshiftRight n
      | _ => a * b
    let r := if (w.extractLsb' 16 2).toNat = 0 then rd else if (w.extractLsb' 16 2).toNat = 1 then ra else rb
    s.yields (.cx e rd ra rb imm8) r v

/-- For every state in which the instruction executes: with LOCK 0, CP_DTDATA writes the word that CP_DTADDR selects; a micro-op word makes its
entry empty, a header with VALID = 0 too. With LOCK 1 the table is unchanged and DENIED is set. CP_DTADDR.WORD goes on after the access when
INC is 1, from 16 back to 0. CP_DTLOCK sets LOCK where bit 0 of rt is 1 and never clears it, and clears DENIED where bit 1 is. The
registers, memory and everything else stand. (12_custom_instructions.md 3, 6 (R539 to R541, R552)) -/
def Obligations.DecodeTableWritesObeyTheLock : Prop :=
  ∀ (s : State) (rt : GReg), s.executes = true →
    let c := s.core.cx
    let v := s.input rt
    let e := c.table[c.entry]
    let next : BitVec 5 := if c.inc = true ∧ c.word.toNat ≤ 16 then (if c.word = 16 then 0 else c.word + 1) else c.word
    let becomes (i : Instr) (d : CxBlock) : Prop :=
      s.completes i fun t => t.core.pc = s.core.pc + 4 ∧ s.core.sameSticky t.core ∧ s.controlBecomes t { s.core with cx := d }
    (c.lock = true → becomes (.cpDtdata rt) { c with denied := true, word := next }) ∧
    (c.lock = false → (h : 1 ≤ c.word.toNat ∧ c.word.toNat ≤ 16) → becomes (.cpDtdata rt) { c with
      table := c.table.set c.entry { e with ops := e.ops.set (c.word.toNat - 1) v (by omega), valid := false }, word := next }) ∧
    (c.lock = false → c.word = 0 → v.getLsbD 8 = false → becomes (.cpDtdata rt) { c with
      table := c.table.set c.entry { e with n := v.extractLsb' 0 5, valid := false }, word := next }) ∧
    becomes (.cpDtlock rt) { c with lock := c.lock || v.getLsbD 0, denied := c.denied && !v.getLsbD 1 }

/-- For every entry and header word with VALID = 1: the entry becomes valid, with BAD 0, when N is from 1 to 16 and each of micro-ops 0 to N-1
has a listed OP, zero unused fields and a WRG field other than 3, no LDT, LDA, STT or STA follows a DSP-writing micro-op, and there are at
most 4 STT or STA and at most 2 WRG. Otherwise it is empty, BAD reads 1 and BADIDX names a position at which one of these fails in the
micro-ops up to it (0 for N, i + 1 for micro-op i) such that none fails in those before it. The words above N are not checked. (R538) -/
def Obligations.HeaderWritesValidateEntries : Prop :=
  ∀ (e : CxEntry) (w : Word), w.getLsbD 8 = true →
    let n := (w.extractLsb' 0 5).toNat
    let f := e.writeHeader w
    let ops := e.ops.toList.take n
    let storeOps := [0x12, 0x13]
    let dspOps := [0x18, 0x19, 0x1C, 0x1D]
    let memOps := [0x10, 0x11, 0x12, 0x13]
    let good (l : List Word) : Prop :=
      (∀ u ∈ l, uWellFormed u = true) ∧
      (∀ i j : Nat, i < j → j < l.length → uOp (l.getD i 0) ∈ dspOps → uOp (l.getD j 0) ∉ memOps) ∧
      l.countP (fun u => storeOps.contains (uOp u)) ≤ 4 ∧ l.countP (fun u => uOp u == 0x20) ≤ 2
    (1 ≤ n ∧ n ≤ 16 ∧ good ops → f.valid = true ∧ f.bad = false) ∧
    (¬(1 ≤ n ∧ n ≤ 16 ∧ good ops) → f.valid = false ∧ f.bad = true ∧
      (¬(1 ≤ n ∧ n ≤ 16) → f.badIdx = 0) ∧
      (1 ≤ n ∧ n ≤ 16 → ∃ p : Nat, f.badIdx = BitVec.ofNat 5 (p + 1) ∧ p < n ∧ good (ops.take p) ∧ ¬good (ops.take (p + 1))))

-- Core events

/-- For every state with a running core, IE = 1 and CSD = 0, when a request is there whose level is above IPL and no request before it in the
order IRQ level 4, IRQ level 3, DRIP, IRQ level 2, IRQ level 1 is there with a level above IPL, and its vector is ready: INTERRUPT_ENTRY enters
its vector with IPL its level, LEVEL = level - 1 and CP_EPC the PC; DRIP clears PEND and sets BUSY; the general registers and memory stand. Where
slow loads or divisions are in progress, the oldest is abandoned with all that issued after it: CP_EPC holds its address, and the general
registers, the sticky bits, the DSP state and the store buffer are as before it. With IE = 0, CSD not 0 or no such request, nothing is taken. The
instruction at the PC has raised nothing. (R477) -/
def Obligations.InterruptEntryTakesTheHighestRequest : Prop :=
  ∀ s : State, s.coreRuns = true →
    let can (code : BitVec 5) (level : Nat) : Prop :=
      s.core.ipl.toNat < level ∧ (if code = 0x0A#5 then s.core.dripPend = true else s.cause.levelRequested level = true)
    let (epc, s1) : Word × State := match s.core.outs with
      | [] => (s.core.pc, s)
      | o :: _ => (o.pc, { s with core := { s.core with
          g := o.back.g, sat := o.back.sat, dz := o.back.dz, dsp := o.back.dsp
          stores := s.core.stores.take (s.core.stores.length - o.younger) } })
    let taken (code : BitVec 5) (level : Nat) : Prop :=
      s.vectorReady code = true → s.completes .interruptEntry fun t =>
        s1.entered t code (epc &&& 0xFFFFFFFC#32) (BitVec.ofNat 3 level)
          (code.setWidth 32 ||| nfld 8 (level - 1) ||| flag 16 s.core.wokeDoze ||| flag 17 s.core.insvc ||| flag 18 s.core.episode.isSome)
          s.core.badInst s.core.badAddr ∧ t.core.g = s1.core.g ∧
        t.core.dripPend = (s.core.dripPend && code != 0x0A#5) ∧ t.core.dripBusy = (s.core.dripBusy || code == 0x0A#5)
    (s.core.ie = true → s.core.csd = 0 →
      (can 0x0E 4 → taken 0x0E 4) ∧
      (¬can 0x0E 4 → can 0x0D 3 → taken 0x0D 3) ∧
      (¬can 0x0E 4 → ¬can 0x0D 3 → can 0x0A 2 → taken 0x0A 2) ∧
      (¬can 0x0E 4 → ¬can 0x0D 3 → ¬can 0x0A 2 → can 0x0C 2 → taken 0x0C 2) ∧
      (¬can 0x0E 4 → ¬can 0x0D 3 → ¬can 0x0A 2 → ¬can 0x0C 2 → can 0x0B 1 → taken 0x0B 1)) ∧
    (s.core.ie = false ∨ s.core.csd ≠ 0 ∨ (¬can 0x0E 4 ∧ ¬can 0x0D 3 ∧ ¬can 0x0A 2 ∧ ¬can 0x0C 2 ∧ ¬can 0x0B 1) →
      exec .interruptEntry s = .next s)

/-- For every state with a running core outside run-ahead and no request pending: at a PC in a busy flash bank EXCEPTION_ENTRY takes
BANK_BUSY_FETCH, at one outside boot ROM, flash, DTCM and SRAM BUS_FAULT with FETCH = 1, at a DTCM or SRAM word with an uncorrectable error
ECC_UNCORR with FETCH = 1, where the vector is ready; CP_EPC and CP_BADADDR hold the PC, and memory stands. Where the vector of the
BUS_FAULT lies outside those regions too, the device takes a System reset with cause VECTOR. (09_kraura_isa.md 5.2 (R417); R473; R480; R607;
R650; R906) -/
def Obligations.FetchFaultsEnterTheirVectors : Prop :=
  ∀ s : State, s.coreRuns = true → s.core.episode = none → s.takeable = none → s.core.pc.toNat % 4 = 0 →
    let a := s.core.pc.toNat
    let faults (code : BitVec 5) (fetch : Bool) : Prop :=
      s.completes .exceptionEntry fun t =>
        s.entered t code s.core.pc s.core.ipl (code.setWidth 32 ||| flag 12 fetch ||| flag 16 s.core.wokeDoze ||| flag 17 s.core.insvc)
          s.core.badInst s.core.pc ∧ s.sameRegs t 0
    (s.flash.busyAt a = true → s.vectorReady xBankBusy = true → faults xBankBusy false) ∧
    (s.flash.busyAt a = false → fetchable a = false →
      (s.vectorReady xBusFault = true → faults xBusFault true) ∧
      (fetchable (s.vectorOf xBusFault).toNat = false → s.completes .exceptionEntry fun t =>
        t.lantern.cause = .vector ∧ t.power.hold = .crystal)) ∧
    (s.flash.busyAt a = false → (regionOf a = .dtcm ∨ regionOf a = .sram) → s.ramBad a = true → s.vectorReady xEccUncorr = true →
      faults xEccUncorr true)

/-- For every state with a running core in a run-ahead episode: an ALU instruction, a division, a load, a store, a branch or a jump executed there
leaves the general registers, the PC, the special registers, the sticky bits, the store buffer and every byte of memory as they were, and loads
and divisions in progress leave only oldest first. For every state with a running core: RUNAHEAD_ENTRY with the data of the triggering load not
yet there, outside an episode and with no request pending, starts an episode at the PC whose shadow registers are g0 to g31, in which every
outstanding load's destination is poisoned, and which lasts until the triggering load and every older one has its data; nothing else changes.
RUNAHEAD_EXIT of an episode ends it 1 cycle after that: of the loads and divisions in progress those that had that long to go or less have
completed, in program order and with the results that their destinations hold, the PC stands at the first waiting instruction, and the special
registers, the store buffer and memory stand. (10_core_execution.md 2 (R455, R457, R458, R462); R905) -/
def Obligations.RunAheadLeavesNoTrace : Prop :=
  (∀ (s : State) (e : Episode) (rd ra rb : GReg) (imm : BitVec 16) (off : BitVec 26), s.coreRuns = true → s.core.episode = some e →
      ∀ i ∈ ([.add rd ra rb, .addsat rd ra rb, .mul rd ra rb, .div rd ra rb, .addi rd ra imm, .lw rd ra imm, .lb rd ra imm, .sw rd ra imm,
          .sb rd ra imm, .beq ra rb imm, .jump off, .jal off, .jr ra, .jalr rd ra] : List Instr),
        s.completes i fun t =>
          t.core.g = s.core.g ∧ t.core.pc = s.core.pc ∧ s.core.sameControl t.core ∧ s.core.sameSticky t.core ∧
            t.core.outs.map (fun o => (o.pc, o.rt, o.unit)) <:+ s.core.outs.map (fun o => (o.pc, o.rt, o.unit)) ∧ s.sameMemory t) ∧
  (∀ s : State, s.coreRuns = true →
      (∀ (n : Fin 4) (l : Outstanding), s.core.episode = none → s.core.wokeDoze = false → s.core.loads[n.val]? = some l → l.left ≠ 0 →
        s.takeable = none →
        ∃ e : Episode, exec (.runaheadEntry n) s = .next { s with core := { s.core with episode := some e } } ∧
          e.g = s.core.g ∧ e.pc = s.core.pc ∧ e.stopped = false ∧ e.count = 0 ∧ l.left ≤ e.left ∧
          (∀ k, k ≤ n.val → ∀ x, s.core.loads[k]? = some x → x.left ≤ e.left) ∧ (∃ k, k ≤ n.val ∧ ∃ x, s.core.loads[k]? = some x ∧ x.left = e.left) ∧
          ∀ r : GReg, e.poison.getLsbD r.val = s.core.loads.any fun l => l.rt == r) ∧
      (∀ e : Episode, s.core.episode = some e → s.completes .runaheadExit fun t =>
        t.core.episode = none ∧
          t.core.outs = (s.core.outs.map fun o => { o with left := o.left - (e.left + 1) }).dropWhile (fun o => o.left == 0) ∧
          t.core.g = s.core.g ∧ t.core.pc = s.core.pc ∧ s.core.sameControl t.core ∧ s.core.sameSticky t.core ∧ s.sameMemory t ∧ s.sameDevice t))

-- Drip, supply, clocks and modes

/-- For every state with a running drip and nothing holding the device in reset, DRIP_EDGE completes. It leaves the count one higher, holding at
its end, the phase at 0 and the capture for a late transfer empty; everything the planes then hold is visible, unless the drip went on past the
capture of cycle 7,967. The one exception is a software reset asked for at the transfer, which leaves the device held until its crystal is stable,
with cause SOFTWARE. At SLICE_DEADLINE with no reload in progress a slice that has not finished leaves the link controller and its jobs unchanged,
counts one overrun and sets leaf LINK.SEQ_OVERRUN; one that has finished arms the jobs due next. LFCAL_RUN_END writes its count to C and makes it
valid. (02_drip.md 1 (R58, R59, R63 to R65); 01_architecture.md 2 (R25, R28); R74; R70; R71; R730) -/
def Obligations.DripEdgeOpensTheNextDrip : Prop :=
  ∀ s : State, s.drip.running = true → s.power.hold = .none →
    (s.completes .dripEdge fun t =>
      (t.drip.count = (if s.drip.count = 0xFFFFFFFFFFFF#48 then s.drip.count else s.drip.count + 1) ∧ t.drip.phase = 0 ∧ t.crossing = none ∧
        (s.crossing = none → t.seen = t.toBlocks)) ∨
      (t.power.hold = .crystal ∧ t.lantern.cause = .software)) ∧
    (s.link.reloadEdge = none → s.completes (.sliceDeadline false) fun t =>
      t.link = s.link ∧ t.drip.count = s.drip.count ∧ t.drip.phase = max s.drip.phase 7600 ∧
        t.drip.seqOvrCount = (if s.drip.seqOvrCount = 0xFFFF#16 then s.drip.seqOvrCount else s.drip.seqOvrCount + 1) ∧
        (t.cause.leaf[1]).getLsbD 6 = true ∧ t.core = s.core ∧ t.mem = s.mem) ∧
    (s.link.reloadEdge = none → exec (.sliceDeadline true) s = .next (s.atPhase 7600).sliceArm) ∧
    (∀ c : Word, exec (.lfcalRunEnd c) s = .next { s with drip.lfcal := c, drip.keptC := c, drip.calValid := true })

/-- For every state in SLEEP or DEEP whose crystal is starting, every e below 978 that is the count captured at the stop, and every n: RESUME_TICK
leaves the drip running from L = e + floor(n C / 4096) cycles after the last edge: the count is the edge's count + floor(L / 8000), held at the
end of the count, and the phase L mod 8000; LK_LASTSLEEP holds n (held at 2^32 - 1), RESUMED is 1, the device is in RUN with its crystal and PLL,
and the core's clock waits for the first edge 20 us or more later. What the captured count is, the first command that names one says (assumption
49). (R74) -/
def Obligations.StoppedDripResumesFromTheTicks : Prop :=
  ∀ (s : State) (e : Fin 8978) (n : Nat), (s.power.mode = .sleep ∨ s.power.mode = .deep) → s.power.hold = .none →
    (s.power.wake = .starting ∨ s.power.wake = .restarted) → e.val ≤ 977 → (s.drip.stopCycles = none ∨ s.drip.stopCycles = some e.val) →
    let l := e.val + n * s.drip.keptC.toNat / 4096
    s.completes (.resumeTick e n) fun t =>
      t.drip.count.toNat = min (s.drip.stopEdge.toNat + l / 8000) (2 ^ 48 - 1) ∧ t.drip.phase = l % 8000 ∧ t.drip.running = true ∧
        t.drip.resumed = true ∧ t.drip.stopCycles = some e.val ∧ t.drip.lastSleep.toNat = min n 0xFFFFFFFF ∧ t.power.mode = .run ∧ t.power.xoOk = true ∧
        t.power.pllLock = true ∧ t.power.wake = (if l % 8000 ≤ 7360 then .resumed else .resumedLate)

/-- For every state with nothing holding the device in reset: outside the stopped modes EARLY_WARNING with no warning in force sets BOD_WARN and
leaf POWER.BOD_WARN and counts a warning, and WARNING_RELEASE clears BOD_WARN; in SLEEP and DEEP BOD_SAMPLE does the same from the comparator's
sample. With the buck selected BYPASS_ENTRY sets BYPASS, and BYPASS_EXIT clears it. LFXO_FAIL of the selected crystal, active or starting for the
first time, leaves LFCLK on the RC and sets its leaf. XO_RESTART marks the one restart of a starting crystal. KCLK_CALIBRATION changes nothing
that a register shows. None changes the core. (03_power_clocks_modes.md 1, 2 (R99, R104, R105, R108, R115, R140)) -/
def Obligations.SupplyEventsSetTheirStatus : Prop :=
  ∀ s : State, s.power.hold = .none →
    let warned (t : State) : Prop :=
      t.power.bodWarn = true ∧ (t.cause.leaf[9]).getLsbD 0 = true ∧ s.lantern.warnings + 1 ≤ t.lantern.warnings ∧ t.core.g = s.core.g ∧ t.core.pc = s.core.pc
    let released (t : State) : Prop := t.power.bodWarn = false ∧ t.core.g = s.core.g ∧ t.core.pc = s.core.pc ∧ t.link = s.link
    (s.stoppedMode = false →
      (s.power.bodWarn = false → s.completes .earlyWarning warned) ∧ (s.power.bodWarn = true → s.completes .warningRelease released) ∧
      (s.power.cfg.getLsbD 0 = true → exec .bypassEntry s = .next { s with power.bypass := true }) ∧
      exec .bypassExit s = .next { s with power.bypass := false }) ∧
    (s.power.mode = .sleep ∨ s.power.mode = .deep →
      (s.power.bodWarn = false → s.completes (.bodSample true) warned) ∧ (s.power.bodWarn = true → s.completes (.bodSample false) released)) ∧
    (s.power.lfSrcRc = false → (s.power.lfActiveRc = false ∨ s.power.lfFailed = false) → s.completes .lfxoFail fun t =>
      t.power.lfActiveRc = true ∧ t.power.lfXoRun = false ∧ t.power.lfFailed = true ∧ (t.cause.leaf[9]).getLsbD 4 = true ∧ t.core = s.core ∧ t.mem = s.mem) ∧
    (s.power.wake = .starting → exec .xoRestart s = .next { s with power.wake := .restarted }) ∧
    exec .kclkCalibration s = .next s

/-- For every state with no flash operation running: BROWNOUT_RESET outside one in force, POWER_ON_RESET, PIN_RESET of 5 us or more outside a
brownout or pin reset, CLOCK_RESET of a crystal restarted without success and HIBERNATE_WAKE of a starting crystal in HIBERNATE record their
cause, hold the device until the supply, the pin or the crystal lets boot begin, put the core, link controller and radio at their reset
values, make SRAM, DTCM and the gallery read as cleared, keep every byte of flash and Flowstone storage, and keep the waiting commands. A
PIN_RESET shorter than 1 us changes nothing. (03_power_clocks_modes.md 2, 4 (R102, R140, R142); 04_pins_board.md (R148); R12; R610; R658;
R729) -/
def Obligations.ResetsClearTheDevice : Prop :=
  ∀ s : State, s.flash.run = none →
    let reset (c : Instr) (cause : ResetCause) (hold : ResetHold) : Prop :=
      s.completes c fun t =>
        t.lantern.cause = cause ∧ t.power.hold = hold ∧ t.power.mode = .run ∧ t.core = State.reset.core ∧ t.link = State.reset.link ∧
          t.radio = State.reset.radio ∧ t.pending = s.pending ∧ (∀ a, isStorage a = true → memGet t.mem a = memGet s.mem a) ∧
          ∀ a, isStorage a = false → memGet t.mem a = memDefault a
    (s.power.hold ≠ .brownout → reset .brownoutReset .brownout .brownout) ∧ reset .powerOnReset .powerOn .brownout ∧
    (∀ n, 5 ≤ n → s.power.hold ≠ .brownout → s.power.hold ≠ .pin → reset (.pinReset n) .pin .pin) ∧
    (s.power.wake = .restarted → reset .clockReset .clock .crystal) ∧
    (s.power.mode = .hibernate → s.power.hold = .none → s.power.wake = .starting → reset .hibernateWake .hibernate .crystal) ∧
    exec (.pinReset 0) s = .next s

/-- For every state held by a brownout reset, BROWNOUT_RELEASE boots the device: nothing holds it any more, its crystal and PLL run, what boot did
is visible to every plane, and it is in SUMP exactly when LT_BOOT.SUMP reads 1. With NRESET still low it leaves the device held by NRESET. For
every state held by NRESET, NRESET_RELEASE leaves only the wait for the crystal. RESUME_TICK with the count captured at the stop then boots the
device in the same way. (03_power_clocks_modes.md 2 (R102); 04_pins_board.md (R148); 19_boot_pairing.md 2, 6 (R736, R738, R763)) -/
def Obligations.ReleasesLeadToBoot : Prop :=
  (∀ s : State, s.power.hold = .brownout → s.power.nresetLow = true → exec .brownoutRelease s = .next { s with power.hold := .pin }) ∧
  (∀ s : State, s.power.hold = .brownout → s.power.nresetLow = false → s.completes .brownoutRelease fun t =>
    t.power.hold = .none ∧ t.power.xoOk = true ∧ t.power.pllLock = true ∧ t.seen = t.toBlocks ∧
      (s.power.mode = .run → s.boot.sump = false → (t.power.mode = .sump ↔ t.boot.sump = true))) ∧
  (∀ s : State, s.power.hold = .pin → exec .nresetRelease s = .next { s with power.hold := .crystal, power.nresetLow := false }) ∧
  (∀ (s : State) (e : Fin 8978) (n : Nat), s.power.hold = .crystal → (s.drip.stopCycles = none ∨ s.drip.stopCycles = some e.val) →
    (s.drip.stopRan = true ∨ e.val ≤ 977) → s.completes (.resumeTick e n) fun t =>
    t.power.hold = .none ∧ t.power.xoOk = true ∧ t.seen = t.toBlocks)

/-- For every state in a stopped mode outside a wake: WAKE_TICK with an enabled source active, or a CH_CSN edge enabled in SLEEP and DEEP, and
SCHEDULED_WAKE of an armed wake at the tick that E, e, C and the wake latency predict, add the active sources to PW_WAKESRC and start the crystal.
GPIO_WAKE with an edge that the pin's armed detector selects latches the pin and makes the GPIO source active; any other level change only changes
the level. A core in DOZE with an event pending leaves DOZE at DOZE_WAKE; in LISTEN an enabled request, or an enabled GPIO wake, ends the mode at
LISTEN_WAKE, with the PLL locked and the core out of DOZE. (03_power_clocks_modes.md 4 (R122, R133, R134, R137, R139); R92; R580; R581) -/
def Obligations.WakesLatchTheirSources : Prop :=
  ∀ s : State, s.power.hold = .none →
    (s.stoppedMode = true → s.power.wake = .none →
      let woken (src : BitVec 7) (t : State) : Prop :=
        t.power.wakeSrc = s.power.wakeSrc ||| src ∧ t.power.wake = .starting ∧ t.power.wakeActive = 0 ∧ t.core = s.core ∧ t.mem = s.mem
      (s.power.wakeActive ≠ 0 → s.completes (.wakeTick false) (woken s.power.wakeActive)) ∧
      (s.power.mode ≠ .hibernate → s.power.wakeEn.getLsbD 4 = true → s.completes (.wakeTick true) (woken (s.power.wakeActive ||| 0x10))) ∧
      (∀ (e : Fin 978) (d : BitVec 48), s.lantern.wake = some d → (s.drip.stopCycles = none ∨ s.drip.stopCycles = some e.val) →
        let latency := if s.power.mode = .sleep then 17600 else if s.power.mode = .deep then 22400 else 38400
        s.completes (.scheduledWake e (((d.toNat - s.drip.stopEdge.toNat) * 8000 - e.val - latency) * 4096 / s.drip.keptC.toNat))
          (woken (s.power.wakeActive ||| 0x40))) ∧
      (∀ (pin : Fin 20) (level : Bool), s.periph.gpio.level.getLsbD pin ≠ level → s.wakeArmed pin level = true →
        s.completes (.gpioWake pin level) fun t =>
          t.periph.gpio.latched.getLsbD pin = true ∧ t.periph.gpio.level.getLsbD pin = level ∧ t.power.wakeActive = s.power.wakeActive ||| 1 ∧
            t.core = s.core) ∧
      (∀ (pin : Fin 20) (level : Bool), s.periph.gpio.level.getLsbD pin = level ∨ s.wakeArmed pin level = false →
        exec (.gpioWake pin level) s = .next { s with periph.gpio.level := putBit s.periph.gpio.level pin level })) ∧
    (s.core.doze = true → s.dozeEnds = true → s.power.wake = .none → (s.power.mode = .run ∨ s.power.mode = .service) →
      s.completes .dozeWake fun t => t.core.doze = false ∧ t.core.dozeEvent = false ∧ t.core.wokeDoze = s.takeable.isSome ∧
        t.core.pc = s.core.pc ∧ t.core.g = s.core.g ∧ t.power = s.power ∧ t.mem = s.mem) ∧
    (s.power.mode = .listen → (s.power.wakeActive.getLsbD 0 = true ∨ ∃ p, p < 4 ∧ s.cause.levelRequested (p + 1) = true) →
      s.completes .listenWake fun t => t.power.mode = .run ∧ t.power.pllLock = true ∧ t.core.doze = false ∧ t.core.g = s.core.g ∧ t.mem = s.mem)

/-- For every state with a running core, each command that writes a register of another plane's region (MODE_REQUEST, LK_SUBMIT, LK_JOBFREE,
LK_CANCEL, LK_CLAIM, LK_RELEASE, LK_GIVE, RESULT_RELEASE, LT_RESETREQ, CONFIRM, CH_DBGCTL) in a cycle before 7,968 joins the writes of the next
transfer with its register's address and value, and from cycle 7,968 on those of the transfer after it; the drip phase moves to the write's cycle,
with the capture of cycle 7,967 where it passes that, and nothing else changes. (01_architecture.md 2.4 (R30, R31, R63); R124; R233; R239; R242;
R263; R706; R730; R756; R848) -/
def Obligations.FarWritesWaitForTheTransfer : Prop :=
  ∀ (s : State) (phase : Fin 8000) (slots : BitVec 16) (target : BitVec 4) (group : Fin 4) (v : Word), s.coreRuns = true →
    let s1 : State := { s with
      drip.phase := max s.drip.phase phase.val
      crossing := if s.drip.phase < 7968 ∧ 7968 ≤ phase.val then some s.toBlocks else s.crossing }
    let waits (c : Instr) (addr : Nat) (v : Word) : Prop :=
      (s1.drip.phase < 7968 → exec c s = .next { s1 with coreWrites := s.coreWrites ++ [⟨addr, v⟩] }) ∧
      (7968 ≤ s1.drip.phase → exec c s = .next { s1 with coreWritesLate := s.coreWritesLate ++ [⟨addr, v⟩] })
    waits (.modeRequest target phase) 0x60000800 (0x10000#32 ||| target.setWidth 32) ∧
    waits (.lkSubmit slots phase) 0x50000030 (slots.setWidth 32) ∧ waits (.lkJobfree slots phase) 0x5000003C (slots.setWidth 32) ∧
    waits (.lkCancel slots phase) 0x50000038 (slots.setWidth 32) ∧ waits (.lkClaim group v phase) (0x500000A0 + 4 * group.val) v ∧
    waits (.lkRelease group v phase) (0x500000B0 + 4 * group.val) v ∧ waits (.lkGive group v phase) (0x500000C0 + 4 * group.val) v ∧
    waits (.resultRelease v phase) 0x60000034 v ∧ waits (.ltResetreq v phase) 0x60000B24 v ∧ waits (.confirm v phase) 0x60000C00 v ∧
    waits (.chDbgctl v phase) 0x60000F00 v

-- Radio and link controller

/-- For every state: a searching lane whose last 8 instantaneous frequencies show the half-rate component and the coarse mean of R202 and R203,
with the RSSI at its threshold, has detected and moves its NCO to the mean, else it goes on searching. FINE_ESTIMATE over the next 16 gives the
offset and the symbol phase, a free value where their half-rate component is 0. SYNC_FOUND within the tolerance, after an estimate within the
pull-in and capture ranges, freezes the refined offset and phase and takes the lowest FREE line, cleared, for LINK and counts SYNC, or with no
FREE line drops the frame with LINK.GALLERY_FULL; NO_SYNC counts NOSYNC and returns to searching; LINE_EXTEND adds the lowest FREE line to a frame
of fewer than three; PHY_HEADER_CHECK keeps a good header that the lane decodes, with MIC8 from CTRL of a secured frame, and on a rejected one
counts HDR_BAD and holds no frame. ADC_CLIP during a frame sets CLIP and its leaf. A loss of lock while receiving sets RADIO.SYNTH_UNLOCK and
leaves no frame; SYNTH_RELOCK returns to reception. Means are rounded down, and what one symbol shows of offset and phase is the command's: both
are the model's choice (assumption 52). (05_radio_phy.md 5, 6, 8 (R192, R202 to R210, R228); R256; R257; R624) -/
def Obligations.LanesAcquireFrames : Prop :=
  ∀ (s : State) (l : Lane) (phase : Fin 8000),
    let x := s.lane l
    let s1 := s.reach phase
    let x1 := s1.lane l
    let half (f : List Int) : Int := ((List.range f.length).map fun k => if k % 2 = 0 then f.getD k 0 else -f.getD k 0).sum
    (∀ (f : Vector Int 8) (rssi : BitVec 8), x1.stage = .searching →
      let heard := x1.mode.preambleDeviation s1.radio.s3Wide * 65536 * 8 ≤ 2 * (half f.toList).natAbs * 4000000 ∧
        s1.radio.detRssi.toInt ≤ rssi.toInt ∧ f.toList.sum.natAbs * 4000000 ≤ x1.mode.capture * 65536 * 8
      (heard → exec (.laneDetection l f rssi phase) s = .next (s1.setLane l { x1 with
        rssi := rssi, stage := .detected, coarse := f.toList.sum / 8, nco := f.toList.sum / 8, wide := s1.radio.s3Wide
        sync := s1.radio.syncWord l, syncTol := s1.radio.syncTol.toNat })) ∧
      (¬heard → exec (.laneDetection l f rssi phase) s = .next (s1.setLane l { x1 with rssi := rssi }))) ∧
    (∀ (f : Vector Int 16) (rssi : BitVec 8), x.stage = .detected →
      let d := BitVec.ofInt 16 (f.toList.sum / 16)
      ∃ tau : Int, (0 < half f.toList → tau = 0) ∧ (half f.toList < 0 → tau = 65536) ∧ s.completes (.fineEstimate l f rssi) fun t =>
        t.lane l = { x with stage := .estimated, offset := d, nco := x.coarse + d.toInt, tau := tau, rssi := rssi, frameRssi := rssi } ∧
          t.lane (otherLane l) = s.lane (otherLane l) ∧ t.link = s.link ∧ t.core = s.core ∧ t.mem = s.mem) ∧
    (∀ (decisions : Word) (offsets phases : Vector Int 16), x1.stage = .estimated →
      x1.offset.toInt.natAbs * 4000000 ≤ x1.mode.ksym * 250 * 65536 →
      (x1.coarse + x1.offset.toInt).natAbs * 4000000 ≤ x1.mode.capture * 65536 →
      (List.range 32).countP (fun i => (decisions ^^^ x1.sync).getLsbD i) ≤ x1.syncTol →
      (∀ n, s1.link.lowestFree = some n → s.completes (.syncFound l decisions offsets phases phase) fun t =>
        (t.lane l).stage = .frame ∧ (t.lane l).cntSync = satInc x1.cntSync ∧ (t.lane l).offset = x1.offset ∧
          (t.lane l).nco = x1.coarse + offsets.toList.sum / 16 ∧ (t.lane l).tau = phases.toList.sum / 16 ∧
          ((t.lane l).frame.map (·.lines)) = some [n] ∧ t.link.ownerOf n = .link ∧
          (∀ k, k ≠ n → t.link.ownerOf k = s1.link.ownerOf k) ∧
          (∀ k, k < 128 → memGet t.mem (lineBase n + k) = 0) ∧ t.storedCheck n = 0 ∧
          (∀ b, b < lineBase n ∨ lineBase n + 128 ≤ b → memGet t.mem b = memGet s.mem b) ∧ t.core = s.core) ∧
      (s1.link.lowestFree = none → s.completes (.syncFound l decisions offsets phases phase) fun t =>
        (t.lane l).frame = none ∧ t.link.dropGallery = satInc s1.link.dropGallery ∧ (t.cause.leaf[1]).getLsbD 2 = true ∧ t.mem = s.mem)) ∧
    (x.stage = .estimated →
      exec (.noSync l) s = .next (s.setLane l { x with stage := .searching, cntNoSync := satInc x.cntNoSync })) ∧
    (∀ (f : RxFrame) (n : Nat), x.frame = some f → f.lines.length < 3 → s.link.lowestFree = some n → s.completes (.lineExtend l) fun t =>
      (t.lane l).frame = some { f with lines := f.lines ++ [n] } ∧ t.link.ownerOf n = .link ∧
        (∀ b, b < lineBase n ∨ lineBase n + 128 ≤ b → memGet t.mem b = memGet s.mem b)) ∧
    (∀ (f : RxFrame) (soft : List (BitVec 4)), x.frame = some f → f.header = none → headerBits x.mode ≤ soft.length →
      let got := receivedSoFar x.mode soft
      let h := headerOfBits got
      let mic8 := phySecure h && ctrlMic8 ((bytesOfBits 11 got).getD 10 0)
      (phyHeaderOk h = true → (phySecure h = true → macBits x.mode ≤ soft.length) → soft.length ≤ paddedBits x.mode (bodyLength h mic8) →
        exec (.phyHeaderCheck l soft) s = .next (s.setLane l { x with frame := some { f with header := some h, mic8 := mic8, soft := soft } })) ∧
      (phyHeaderOk h = false → s.completes (.phyHeaderCheck l soft) fun t =>
        (t.lane l).frame = none ∧ (t.lane l).cntHdrBad = satInc x.cntHdrBad ∧ t.mem = s.mem ∧ t.core = s.core)) ∧
    (x.stage = .frame → s.completes .adcClip fun t => t.radio.clip = true ∧ (t.cause.leaf[0]).getLsbD 0 = true ∧ t.link = s.link ∧ t.core = s.core) ∧
    (s.radio.synthOn = true → s.radio.use = .receive → s.completes .synthUnlock fun t =>
      t.radio.use = .relocking ∧ (t.lane l).frame = none ∧ (t.cause.leaf[0]).getLsbD 2 = true ∧ t.core = s.core ∧ t.mem = s.mem) ∧
    (s.radio.use = .relocking → s.completes .synthRelock fun t => t.radio.use = .receive ∧ t.core = s.core ∧ t.mem = s.mem)

/-- For every state with no ACK window open and every core job that no lane receives under: an armed, due TX job with a free radio that comes
first of those due (R245), passes the checks and needs no key is ACTIVE and on air at its start, LATE when that is after its instant; in a mode
that forbids transmission it ends with MODE_BLOCKED. At the end of its attempt a job without ACKREQ is DONE with result DONE and its lines on
their way back, one with ACKREQ awaits its window; the radio receives again. ACK_WINDOW_OPEN opens the window on the job's lane. A window that
closes without sync backs off to a drip within 2^min(attempts, 6) of this one while retries are left, else the job ends with NO_ACK, or CANCELLED
when it was cancelled. RETRY_START sends again after the duty check, and in SERVICE ends the job with MODE_BLOCKED. ACK_TURNAROUND sends the
pending ACK 192 us after the frame end, or as soon as a relock lets it (assumption 57), and ACK_END ends and counts it. (06_link_controller.md 3,
4 (R245, R247, R250, R251, R265, R268 to R270); R130; R217; R240; R241) -/
def Obligations.TransmissionsRunTheirCourse : Prop :=
  ∀ (s : State) (n : Fin 16) (phase : Fin 8000), s.link.windows = [] → (∀ l, (s.lane l).job ≠ some n) →
    let j := s.job n
    let s1 := s.reach phase
    let j1 := s1.job n
    let sending (t : State) : Prop := ∃ x, t.radio.use = .transmit x ∧ x.kind = .job n ∧ x.mode = j1.mode ∧ x.channel = j1.channel ∧ x.start = s1.linearNow
    let done (u t : State) (r : BitVec 4) : Prop :=
      (t.job n).state = .done ∧ (t.job n).result = r ∧ (t.cause.leaf[1]).getLsbD 1 = true ∧ (u.link.toCore ++ (u.job n).lines).Sublist t.link.toCore
    (j1.kind = some .tx → j1.host = false → j1.state = .armed → j1.due s1.linearNow = true → s1.radioFree = true → s1.comesFirst n = true →
      (s1.txBlocked = true → s.completes (.txAttemptStart n phase) fun t => done s1 t 7) ∧
      (s1.firstChecks j1 = none → j1.secure = false → s1.dutyAllows j1.mode j1.channel j1.bodyLen = true → j1.phase = .idle →
        s.completes (.txAttemptStart n phase) fun t =>
          sending t ∧ (t.job n).state = .active ∧ (t.job n).phase = .onAir ∧ (t.job n).attempts = min 8 (j1.attempts + 1) ∧
            (t.job n).late = (j1.late || decide (linear j1.startDrip j1.startOffset < s1.linearNow)))) ∧
    (∀ x, s.radio.use = .transmit x → x.kind = .job n → j.host = false → j.state = .active → s.completes (.txAttemptEnd n) fun t =>
      t.radio.use = .receive ∧ t.radio.lastTx = some x ∧ t.link.evSent = s.link.evSent + 1 ∧
        (j.ackReq = false → done s t 1) ∧ (j.ackReq = true → (t.job n).state = .active ∧ (t.job n).phase = .awaitWindow)) ∧
    (j.state = .active → j.phase = .awaitWindow → s.completes (.ackWindowOpen n) fun t =>
      t.link.windows = [⟨n, false⟩] ∧ (t.job n).phase = .window ∧ t.core = s.core) ∧
    (j.state = .active → j.host = false →
      let w : State := { s with link.windows := [⟨n, false⟩] }
      (j.cancelled = true → w.completes (.ackWindowClose n) fun t => done s t 9) ∧
      (j.cancelled = false → j.attempts ≤ j.retries → w.completes (.ackWindowClose n) fun t =>
        (t.job n).state = .active ∧ (t.job n).phase = .backoff ∧ t.link.windows = [] ∧
          ∃ b, b < 2 ^ min j.attempts 6 ∧ (t.job n).retryDrip = s.drip.count + BitVec.ofNat 48 (b + 1)) ∧
      (j.cancelled = false → j.retries < j.attempts → w.completes (.ackWindowClose n) fun t => done s t 2)) ∧
    (j1.state = .active → j1.phase = .backoff → linear j1.retryDrip j1.offset ≤ s1.linearNow → s1.radioFree = true → s1.comesFirst n = true →
      j1.host = false →
      (s1.txBlocked = true → s.completes (.retryStart n phase) fun t => done s1 t 7) ∧
      (s1.txBlocked = false →
        (s1.dutyAllows j1.mode j1.channel j1.bodyLen = true → s.completes (.retryStart n phase) sending) ∧
        (s1.dutyAllows j1.mode j1.channel j1.bodyLen = false → s.completes (.retryStart n phase) fun t => done s1 t 3))) ∧
    (∀ a, s.link.pendingAck = some a → s.radio.use = .receive → (a.frameEnd + 4608) / 8000 ≤ s.drip.count.toNat →
      s.completes .ackTurnaround fun t =>
        ∃ x, t.radio.use = .transmit x ∧ x.kind = .ack ∧ x.mode = a.mode ∧ x.channel = a.channel ∧ x.sync = a.sync ∧
          x.start = (if s.linearNow ≤ a.frameEnd + 4608 then a.frameEnd + 6144 else s.linearNow + 1536) ∧
          x.body = [0x01#8, a.seq, a.crc16.extractLsb' 0 8, a.crc16.extractLsb' 8 8]) ∧
    (∀ x, s.radio.use = .transmit x → x.kind = .ack → s.completes .ackEnd fun t =>
      t.link.pendingAck = none ∧ t.radio.use = .receive ∧ t.link.evAcks = s.link.evAcks + 1 ∧ t.core = s.core)

/-- For every state with no ACK window open and every armed, due core job on a channel whose band is in range: an RX or LISTEN job on an idle
radio with both lanes off and no acknowledgement awaited becomes ACTIVE on its lane; RX_WINDOW_END, at its window's length after the start, ends
an RX job whose lane holds no frame with DONE, and marks one whose lane holds a frame to end at its verdict. Outside SERVICE and SUMP and with no
reload in progress a RELAY job becomes its lane's policy and a CAL job that comes first takes the radio, else each ends with MODE_BLOCKED. A
SNAPSHOT job takes its samples from an idle lane, and at its end is DONE, writing no byte outside its lines. CAL_JOB_END returns the radio to
reception. LINK_TRIG arms the lowest-numbered job that waits for it no earlier than its cycle plus OFFSET. That a policy starts at its OFFSET is
the model's choice (assumption 60). (06_link_controller.md 3, 7 (R254, R255, R277, R281, R282); R240; R560) -/
def Obligations.OtherJobsRunTheirCourse : Prop :=
  ∀ (s : State) (n : Fin 16) (phase : Fin 8000), s.link.windows = [] →
    let j := s.job n
    let s1 := s.reach phase
    let j1 := s1.job n
    let x1 := s1.lane j1.lane
    let idle := s1.radio.use = .receive ∧ s1.link.noAckJob = true ∧ x1.stage = .off ∧ (s1.lane (otherLane j1.lane)).stage = .off ∧ x1.job = none ∧
      x1.frame = none ∧ (s1.lane (otherLane j1.lane)).frame = none
    let startable := j1.host = false ∧ j1.state = .armed ∧ j1.due s1.linearNow = true ∧ bandInRange (s1.radio.band j1.mode j1.channel) = true
    let apart (u : State) : Prop := ∀ l, (u.lane l).job ≠ some n
    let ended (t : State) (r : BitVec 4) : Prop := (t.job n).state = .done ∧ (t.job n).result = r ∧ (t.cause.leaf[1]).getLsbD 1 = true
    (startable → idle → (j1.kind = some .rx ∨ j1.kind = some .listen) → s.completes (.laneStart n phase) fun t =>
      (t.job n).state = .active ∧ (t.lane j1.lane).job = some n ∧ (t.lane j1.lane).stage = .searching ∧
        (t.lane j1.lane).mode = j1.mode ∧ (t.lane j1.lane).channel = j1.channel ∧ (t.job n).endDrip = s1.drip.count + BitVec.ofNat 48 j1.param) ∧
    (∀ u, s.reachTime (linear j.endDrip j.startOffset) = some u → (u.job n).kind = some .rx → (u.job n).host = false → (u.job n).state = .active →
      let l := (u.job n).lane
      (u.lane l).job = some n → (u.lane (otherLane l)).job ≠ some n →
      ((u.lane l).frame = none → s.completes (.rxWindowEnd n) fun t => ended t 1 ∧ (t.lane l).job = none) ∧
      ((u.lane l).frame ≠ none → exec (.rxWindowEnd n) s = .next (u.setLane l { u.lane l with ending := some 1 }))) ∧
    (startable → apart s1 → j1.kind = some .relay → s1.link.reloadEdge = none →
      (s1.txBlocked = true → s.completes (.relayPolicyStart n phase) fun t => ended t 7) ∧
      (s1.txBlocked = false → x1.policy = none → s.completes (.relayPolicyStart n phase) fun t =>
        (t.job n).state = .active ∧ (t.lane j1.lane).policy = some n)) ∧
    (∀ samples : List Word, startable → idle → s1.link.snapshotsOn j1.lane = [] → j1.kind = some .snapshot →
      s.completes (.snapshotStart n samples phase) fun t =>
        (t.job n).state = .active ∧ (t.job n).samples = samples ∧ (t.lane j1.lane).stage = .searching) ∧
    (j.kind = some .snapshot → j.host = false → j.state = .active → apart s → s.completes (.snapshotEnd n) fun t =>
      ended t 1 ∧ ∀ b, (∀ l ∈ j.lines, b < lineBase l ∨ lineBase l + 128 ≤ b) → memGet t.mem b = memGet s.mem b) ∧
    (startable → apart s1 → j1.kind = some .cal → s1.radioFree = true → s1.comesFirst n = true →
      (s1.txBlocked = true → s.completes (.calJobStart n phase) fun t => ended t 7) ∧
      (s1.txBlocked = false → s.completes (.calJobStart n phase) fun t =>
        t.radio.use = .cal n ∧ (t.job n).state = .active ∧ (t.lane .a).stage = .off ∧ (t.lane .b).stage = .off)) ∧
    (s.radio.use = .cal n → j.host = false → apart s → s.completes (.calJobEnd n) fun t => ended t 1 ∧ t.radio.use = .receive) ∧
    (s1.drip.count.toNat < 2 ^ 47 → s1.drip.phase < 8000 → j1.waitsTrigger = true → (∀ m : Fin 16, m < n → (s1.job m).waitsTrigger = false) →
      s.completes (.linkTrig phase) fun t =>
        (t.job n).state = .armed ∧ s1.linearNow + j1.offset ≤ linear (t.job n).startDrip (t.job n).startOffset)

/-- For every state and a lane whose frame has its header and all its lines, and coded bits that complete the frame, with no ACK window open at
its frame end (the sync instant plus the coded section's symbol periods), no verdict of lane A due there first and none of lane B waiting for it:
at CRC_VERDICT the lane no longer holds the frame. Body and CRC are what the lane decodes. With a CRC that does not match, its lines are FREE and
nothing is counted. With a matching one, the good frames of the record go up by 1, and an unsecured, unacknowledged broadcast frame of this
network that is no duplicate, with no relay policy on the lane, no job about to end, RX_AUTO 0, is handed to the core: its lines join those that
pass to CORE, its first line the receive queue's next entries, and LINK.RX_FRAME is set. SECURITY_CHECK takes the oldest frame under check; one
whose slot held no key, with canonical memory, gets SECSTAT NO_KEY in its record, MESH.KEY_MISS is set, and it is handed over in the same way.
(05_radio_phy.md 4 (R190, R201, R219); 06_link_controller.md 4, 5 (R258 to R261); 07_istiyn_security.md 3 (R301 to R303)) -/
def Obligations.VerdictsStoreOrFreeFrames : Prop :=
  ∀ (s : State) (l : Lane) (f : RxFrame) (h : BitVec 16) (soft : List (BitVec 4)),
    let B := bodyLength h f.mic8
    let e := linear f.syncDrip f.syncPhase + sectionCycles (s.lane l).mode B
    ((s.lane l).frame = some f → f.header = some h → f.soft.length + soft.length = paddedBits (s.lane l).mode B →
      (32 + B + 127) / 128 ≤ f.lines.length → ∀ u, s.reachTime e = some u → u.link.windows = [] → u.waitsForA l e = false →
      (∀ g, (u.lane .b).frame = some g → g.ended = false) →
      let d := decodeFrame (u.lane l).mode B (f.soft ++ soft)
      let body := d.1
      (frameCrc h body ≠ d.2.1 → s.completes (.crcVerdict l soft) fun t =>
        (t.lane l).frame = none ∧ (∀ n ∈ f.lines, t.link.ownerOf n = .free) ∧ t.link.evGood = u.link.evGood ∧
          t.link.rxqNext = u.link.rxqNext ∧ t.mem = s.mem) ∧
      (frameCrc h body = d.2.1 → phyAckFrame h = false → phyAckReq h = false → phySecure h = false → (u.lane l).policy = none →
        (u.lane l).ending = none → u.mesh.netMatches body = true → macDest body = 0xFFFF →
        u.link.dupCache.contains (macSrc body, macSeq body) = false →
        u.link.rxAuto = false → s.completes (.crcVerdict l soft) fun t =>
          (t.lane l).frame = none ∧ t.link.evGood = u.link.evGood + 1 ∧ (u.link.toCore ++ f.lines).Sublist t.link.toCore ∧
            t.link.rxqNext = u.link.rxqNext ++ f.lines.take 1 ∧ (t.cause.leaf[1]).getLsbD 0 = true ∧
            ∀ b, (∀ n ∈ f.lines, b < lineBase n ∨ lineBase n + 128 ≤ b) → memGet t.mem b = memGet s.mem b)) ∧
    (∀ (c : CheckFrame) (rest : List CheckFrame) (n : Nat), s.link.checking = c :: rest → c.lines = [n] → c.cur = none → s.memOk →
      s.link.rxAuto = false → s.completes .securityCheck fun t =>
        t.link.checking = rest ∧ memGet t.mem (lineBase n + 1) = 0x04 ∧ (t.cause.leaf[2]).getLsbD 1 = true ∧
          t.link.toCore = s.link.toCore ++ [n] ∧ t.link.rxqNext = s.link.rxqNext ++ [n] ∧
          ∀ b, b < lineBase n ∨ lineBase n + 128 ≤ b → memGet t.mem b = memGet s.mem b)

/-- For every state and a candidate whose slot has come: a busy radio makes it wait; on a free radio it is dropped and counted when its lane has
no policy, and on air from the slot on, with TTL one less, and counted as sent when its policy, mode, age below 64 drips, fence and ledger allow;
either way it leaves the relay store. A relay whose ramp-down has ended by the instant of a radio event has left the antenna and is counted in its
drip. RECOVERY_BEACON in SUMP with a free radio at or after its drip puts the next one 40,000 drips later and, where fence and ledger allow, puts
a beacon with the next sequence number on air. LEASE_COMMIT answers a slot's lease request with the next lease end once the MONO record of the
lease is committed, and with a refusal when it cannot be. (06_link_controller.md 6 (R279); R901; 07_istiyn_security.md 5 (R315, R318);
19_boot_pairing.md 6 (R767)) -/
def Obligations.RelaysBeaconsAndLeases : Prop :=
  ∀ (s : State) (i : Fin 8) (phase : Fin 8000) (c : Candidate),
    let s1 := s.reach phase
    (s1.link.relays[i.val]? = some c → c.waiting = false → linear c.slotDrip c.slotOffset ≤ s1.linearNow →
      (s1.relayBusy = true → exec (.relaySlot i phase) s = .next (s1.setCandidates (s1.link.relays.set i { c with waiting := true }))) ∧
      (s1.relayBusy = false → (s1.lane c.lane).policy = none → exec (.relaySlot i phase) s = .next
        { s1 with link.relays := s1.link.relays.eraseIdx i, link.dropRelay := satInc s1.link.dropRelay }) ∧
      (∀ n : Fin 16, s1.relayBusy = false → (s1.lane c.lane).policy = some n → s.power.mode ≠ .service →
        s1.drip.count.toNat - c.verdictDrip.toNat < 64 → s1.radio.inFence (s1.job n).mode (s1.job n).channel = true →
        s1.dutyAllows (s1.job n).mode (s1.job n).channel c.body.length = true → s1.link.windows = [] → s.completes (.relaySlot i phase) fun t =>
          t.link.relays = s1.link.relays.eraseIdx i ∧ t.link.relaySent = satInc s1.link.relaySent ∧
            ∃ x, t.radio.use = .transmit x ∧ x.kind = .relay ∧ x.start = s1.linearNow ∧ x.body = c.body.set 7 (macTtl c.body - 1))) ∧
    (∀ x, s.radio.use = .transmit x → x.kind = .relay → x.downTime ≤ (s.atPhase phase).linearNow →
      s1.radio.use = .receive ∧ s1.radio.lastTx = some x ∧ s1.link.evRelays = s.link.evRelays + 1) ∧
    (s.dripRuns = true → s.power.mode = .sump → s.link.beaconDrip ≤ s.drip.count → s.radioFree = true → s.completes .recoveryBeacon fun t =>
      t.link.beaconDrip = s.link.beaconDrip + 40000 ∧
        (s.radio.inFence (s.lane .a).mode (s.lane .a).channel = true →
          s.dutyAllows (s.lane .a).mode (s.lane .a).channel s.beaconBody.length = true → s.link.windows = [] →
          t.link.beaconSeq = s.link.beaconSeq + 1 ∧
            ∃ x, t.radio.use = .transmit x ∧ x.kind = .beacon ∧ x.body = s.beaconBody ∧ x.start = s.linearNow)) ∧
    (∀ n : Fin 8, s.flowBackground = true → s.lantern.leaseAsked.contains n = true →
      let u : State := { s with lantern.leaseAsked := s.lantern.leaseAsked.filter (· != n) }
      let stop := nextLease (s.leaseBase n).1
      let r := u.store 2 n.val 8 (monoRecord stop (s.leaseBase n).2)
      let answers (a : Option Word) : State := { r.2.2 with lantern.leaseAnswers := r.2.2.lantern.leaseAnswers ++ [(n, a)] }
      (r.1 = stOk → exec (.leaseCommit n) s = .next (answers (some (BitVec.ofNat 32 stop)))) ∧
      (r.1 ≠ stOk → exec (.leaseCommit n) s = .next (answers none)) ∧
      stop = min 0xFFFFFFFF ((s.leaseBase n).1 + 1024))

-- Register accesses, peripherals and conduit

/-- For every state in which the core runs, and every cycle of the drip: a CAUSE_g clear takes effect at once in a group of the control plane (the
condition leaf PERIPH.GPIO apart) and else waits with the next transfer's clears, the leaves standing; CS_CMASKg takes the bits that have leaves.
A read of LK_RXQ with no removal waiting gives the head and the count behind it and sends the head's removal, or gives bit 31 alone. The RC fields
of CS_ECCNT, CS_LWSTAT, AD_DATA and TK_IRSTAT clear with the read, one of the link region leaves the counters to the transfer. GP_TRNG_DATA takes
the FIFO's head, or reads 0 and sets UNDERRUN. A read of a line's last word through the line window gives the word and the result NOT_CORE, GOOD
or BAD, counting a bad one and setting CORE.LINE_CHECK. A write to an unassigned address does nothing, one to GP_OUT sets its 20 bits, and one to
a link or Lantern register waits for the transfer. The older loads complete and the store buffer empties before a read, of the window only as far
as its stores to the Gallery; the read itself writes rt alone of the registers, and leaves the PC and memory. (01_architecture.md 2.4, 3 (R8, R11,
R31); 06_link_controller.md (R262); 10_core_execution.md (R446, R467); 14_peripherals.md (R592, R596); 15_memory_integrity.md (R628);
22_cause_tree.md (R860, R862); R900) -/
def Obligations.RegisterAccessesReachTheirRegister : Prop :=
  ∀ (s : State) (phase : Fin 8000), s.coreRuns = true →
    let early := s.drip.phase < 7968 ∧ phase.val < 7968
    let u := (s.atPhase phase.val).settle.drainStores
    let now := (s.atPhase 0).settle.drainStores
    let got (u t : State) (rt : GReg) (v : Word) : Prop :=
      t.core.reg rt = (if rt = 0 then 0 else v) ∧ (∀ r, r ≠ rt → t.core.reg r = u.core.reg r) ∧ t.core.pc = u.core.pc ∧ t.mem = u.mem
    (∀ (g : Fin 15) (m : Word),
      (groupIsControl g = true → (g = 13 → s.periph.gpio.condition = false) → s.completes (.causeClear g m phase) fun t =>
        t.cause.leaf[g] = s.cause.leaf[g] &&& ~~~m ∧ (∀ k : Fin 15, k ≠ g → t.cause.leaf[k] = s.cause.leaf[k]) ∧ t.core = s.core ∧ t.mem = s.mem) ∧
      (g = 13 → s.periph.gpio.condition = true → s.completes (.causeClear g m phase) fun t => (t.cause.leaf[13]).getLsbD 0 = true) ∧
      (groupIsControl g = false → s.completes (.causeClear g m phase) fun t => t.cause.leaf = s.cause.leaf ∧ t.core = s.core ∧ t.mem = s.mem ∧
        (early → t.cause.coreClear[g] = s.cause.coreClear[g] ||| (m &&& leafMask g)))) ∧
    (∀ (g : Fin 15) (v : Word), s.completes (.csCmask g v) fun t => t.cause.cmask[g] = v &&& leafMask g ∧
      (∀ k : Fin 15, k ≠ g → t.cause.cmask[k] = s.cause.cmask[k]) ∧ t.cause.leaf = s.cause.leaf ∧ t.core = s.core ∧ t.mem = s.mem) ∧
    (∀ rt : GReg, u.coreRemovals = [] → u.coreRemovalsLate = [] → early →
      (u.seen.link.rxq = [] → s.completes (.lkRxq rt phase) fun t => got u t rt 0x80000000#32 ∧ t.coreRemovals = []) ∧
      (∀ n ns, u.seen.link.rxq = n :: ns → n < 128 → ns.length < 128 → s.completes (.lkRxq rt phase) fun t =>
        got u t rt (BitVec.ofNat 32 ns.length <<< 8 ||| BitVec.ofNat 32 n) ∧ t.coreRemovals = [⟨0x50000040, BitVec.ofNat 32 n⟩] ∧ t.link = u.link)) ∧
    (∀ rt : GReg,
      (s.completes (.rcFieldRead rt 0xE0004000#32 phase) fun t =>
        got u t rt (u.integ.corr.setWidth 32 <<< 16) ∧ t.integ = { u.integ with corr := 0 }) ∧
      (s.completes (.rcFieldRead rt 0xE000400C#32 phase) fun t => t.integ = { u.integ with lwBad := 0 } ∧ t.core.pc = u.core.pc ∧ t.mem = u.mem) ∧
      (s.completes (.rcFieldRead rt 0x40004008#32 phase) fun t => t.periph.adc = { u.periph.adc with new := false }) ∧
      (s.completes (.rcFieldRead rt 0x40006044#32 phase) fun t => t.key.irLost = 0 ∧ t.mem = u.mem) ∧
      (s.completes (.rcFieldRead rt 0x50000050#32 phase) fun t => t.link = u.link ∧ (early → t.coreRemovals.length = u.coreRemovals.length + 1))) ∧
    (∀ rt : GReg, s.completes (.adDataRead rt) fun t =>
      let x := now.periph.adc
      got now t rt ((if x.new then 0x80000000#32 else 0) ||| x.dataCh.setWidth 32 <<< 12 ||| x.result.setWidth 32) ∧
        t.periph = { now.periph with adc := { x with new := false } }) ∧
    (∀ rt : GReg,
      (now.periph.trng.fifo = [] → s.completes (.gpTrngData rt) fun t => got now t rt 0 ∧ t.periph.trng = { now.periph.trng with underrun := true }) ∧
      (∀ w ws, now.periph.trng.fifo = w :: ws → s.completes (.gpTrngData rt) fun t =>
        got now t rt w ∧ t.periph.trng = { now.periph.trng with fifo := ws })) ∧
    (∀ (rt : GReg) (n : Fin 128),
      let w := State.drainWhile (fun e => regionOf e.addr == .gallery) s.settle.core.stores.length s.settle
      s.completes (.lineWindowRead rt n) fun t =>
        got w t rt (memWord w.mem (lineBase n + 0x7C)) ∧ t.integ.lwLine.toNat = n.val ∧
          (w.seen.link.ownerOf n ≠ .core → t.integ.lwResult = 3) ∧
          (w.seen.link.ownerOf n = .core → w.lineGood n = true → t.integ.lwResult = 1 ∧ t.cause.leaf = w.cause.leaf) ∧
          (w.seen.link.ownerOf n = .core → w.lineGood n = false →
            t.integ.lwResult = 2 ∧ t.integ.lwBad = satInc w.integ.lwBad ∧ (t.cause.leaf[4]).getLsbD 3 = true)) ∧
    (∀ a v : Word,
      (s.ioExists a.toNat = false → exec (.registerWrite a v phase) s = .next s) ∧
      (a = 0x40001008#32 → s.completes (.registerWrite a v phase) fun t =>
        t.periph.gpio.out = v &&& 0xFFFFF#32 ∧ t.core = s.core ∧ t.mem = s.mem) ∧
      (a.toNat / 0x10000 = 0x5000 ∨ a.toNat / 0x10000 = 0x6000 → a.toNat % 4 = 0 → s.ioExists a.toNat = true → early →
        s.completes (.registerWrite a v phase) fun t =>
          t.coreWrites = s.coreWrites ++ [⟨a.toNat, v⟩] ∧ t.link = s.link ∧ t.lantern = s.lantern ∧ t.core = s.core ∧ t.mem = s.mem))

/-- For every state in which PCLK runs: GP_SET, GP_CLR and GP_TGL set, clear and invert the outputs that their mask names, pins 0 to 19 alone. A
change of an input is stored, and sets the pin's GP_EDGE bit exactly when the pin is not analog and the edge is selected; while an enabled
edge bit is set, PERIPH.GPIO is. A running timer counts on, or from TOP goes to 0, sets OVF and in one-shot mode stops; it sets CMP exactly
when the new count is the compare value and that is no more than TOP; a stopped one does nothing. A capture stores the count and sets CAP,
and CAPLOST where CAP stood. A period start of a running channel takes PRESC, and PER and DUTY when AUTO or a load request is set, which it
ends; a load request is held by the running channels of its mask; enabling a stopped channel takes the values at once, disabling one drops
its request. Other timers and channels stand, and so do the core and memory. (14_peripherals.md 1 to 3 (R577 to R579, R582 to R584, R586,
R588, R589)) -/
def Obligations.PinsTimersAndPwmActAsTheirRulesSay : Prop :=
  ∀ s : State, s.pclkRuns = true →
    let apart (t : State) : Prop := t.core = s.core ∧ t.mem = s.mem ∧ t.link = s.link ∧ t.flash = s.flash ∧ t.periph.adc = s.periph.adc
    (∀ m : Word,
      let outBecomes (i : Instr) (f : Bool → Bool → Bool) : Prop := s.completes i fun t =>
        (∀ k, k < 20 → t.periph.gpio.out.getLsbD k = f (s.periph.gpio.out.getLsbD k) (m.getLsbD k)) ∧
          { t with periph.gpio.out := s.periph.gpio.out } = s
      outBecomes (.gpSet m) (fun o b => o || b) ∧ outBecomes (.gpClr m) (fun o b => o && !b) ∧ outBecomes (.gpTgl m) (fun o b => o != b)) ∧
    (∀ (pin : Fin 20) (level : Bool), s.completes (.gpioEdge pin level) fun t =>
      t.periph.gpio.level.getLsbD pin = level ∧ (∀ k : Fin 20, k ≠ pin → t.periph.gpio.level.getLsbD k = s.periph.gpio.level.getLsbD k) ∧
        t.periph.gpio.edge.getLsbD pin = (s.periph.gpio.edge.getLsbD pin || s.pinEdge pin level) ∧
        (∀ k : Fin 20, k ≠ pin → t.periph.gpio.edge.getLsbD k = s.periph.gpio.edge.getLsbD k) ∧
        (t.periph.gpio.edge &&& s.periph.gpio.irqEn ≠ 0 → (t.cause.leaf[13]).getLsbD 0 = true) ∧ apart t) ∧
    (∀ n : Fin 4,
      let x := s.periph.timer[n]
      (x.en = false → exec (.timerTick n) s = .next s) ∧
      (x.en = true → s.completes (.timerTick n) fun t =>
        let y := t.periph.timer[n]
        (x.cnt = x.top → y.cnt = 0 ∧ y.ovf = true ∧ y.en = !x.oneshot) ∧ (x.cnt ≠ x.top → y.cnt = x.cnt + 1 ∧ y.ovf = x.ovf ∧ y.en = true) ∧
          y.cmpFlag = (x.cmpFlag || (y.cnt == x.cmp && decide (x.cmp.toNat ≤ x.top.toNat))) ∧
          { y with cnt := x.cnt, ovf := x.ovf, en := x.en, cmpFlag := x.cmpFlag } = x ∧
          (∀ k : Fin 4, k ≠ n → t.periph.timer[k] = s.periph.timer[k]) ∧ apart t) ∧
      (s.completes (.tmCapture n) fun t =>
        t.periph.timer[n] = { x with cap := x.cnt, capFlag := true, capLost := x.capLost || x.capFlag } ∧
          (∀ k : Fin 4, k ≠ n → t.periph.timer[k] = s.periph.timer[k]) ∧ apart t)) ∧
    (∀ n : Fin 6,
      let x := s.periph.pwm[n]
      x.en = true → s.completes (.pwmPeriodStart n) fun t =>
        let y := t.periph.pwm[n]
        y.prescCur = x.presc ∧ y.load = false ∧
          (x.auto = true ∨ x.load = true → y.perCur = x.per ∧ y.dutyCur = x.duty) ∧
          (x.auto = false → x.load = false → y.perCur = x.perCur ∧ y.dutyCur = x.dutyCur) ∧
          (∀ k : Fin 6, k ≠ n → t.periph.pwm[k] = s.periph.pwm[k]) ∧ apart t) ∧
    (∀ m : BitVec 6,
      (s.completes (.pwmLoad m) fun t => (∀ n : Fin 6,
        t.periph.pwm[n] = { s.periph.pwm[n] with load := (s.periph.pwm[n]).load || ((s.periph.pwm[n]).en && m.getLsbD n) }) ∧ apart t) ∧
      (s.completes (.pwmEnable m) fun t => (∀ n : Fin 6,
        let x := s.periph.pwm[n]
        let y := t.periph.pwm[n]
        y.en = m.getLsbD n ∧ (x.en = m.getLsbD n → y = x) ∧ (x.en = true → m.getLsbD n = false → y = { x with en := false, load := false }) ∧
          (x.en = false → m.getLsbD n = true → y.perCur = x.per ∧ y.dutyCur = x.duty ∧ y.prescCur = x.presc)) ∧ apart t))

/-- For every state: an ADC trigger with PCLK running does nothing to a disabled ADC, starts an idle one with its CH and its window and leaf
enables, and on a busy one is lost with TRIGLOST and the leaf. The end of a conversion whose input is selected stores code and channel, sets NEW
and DONE, and OVERWRITE where NEW stood; with the analog function of the pin not selected, some code in its place. A TRNG word enters the FIFO
while it has room; a health failure empties it, sets FAIL and the leaf, and the third stops the TRNG. START of an idle SHA engine begins a run of
MODE over its range, of a busy one gives ERR with reason 5; with PCLK a run ends with its reason in ERR, or with DONE and a new state. START of an
idle AES engine makes it busy, and at its end the output is the AES-128 block of key and input, with DONE and the leaf. Pulses that arrive leave
the others on their way; with no route enabled nothing else changes, and fixed link 8 alone carries the pulse of producer 0 to the ADC trigger;
outside RUN, LISTEN and SERVICE every pulse is lost. (13_conduit.md (R553, R557, R564); 14_peripherals.md 4 to 8 (R590 to R593, R595, R597 to
R602)) -/
def Obligations.EnginesAndConduitActAsTheirRulesSay : Prop :=
  ∀ s : State,
    let a := s.periph.adc
    let adcOnly (t : State) : Prop := t.core = s.core ∧ t.mem = s.mem ∧ t.periph.gpio = s.periph.gpio ∧ t.periph.timer = s.periph.timer
    (s.pclkRuns = true →
      (a.en = false → exec .adcTrigger s = .next s) ∧
      (a.en = true → a.busy = none → exec .adcTrigger s = .next { s with periph.adc.busy := some ⟨a.ch, a.winEn, a.ieWin, a.ieDone⟩ }) ∧
      (a.en = true → a.busy ≠ none → s.completes .adcTrigger fun t =>
        t.periph.adc = { a with trigLost := true } ∧ (t.cause.leaf[13]).getLsbD 7 = true ∧ adcOnly t)) ∧
    (∀ (r : AdcRun) (code : BitVec 12), a.busy = some r →
      let ended (t : State) (x : BitVec 12) : Prop := t.periph.adc.busy = none ∧ t.periph.adc.result = x ∧ t.periph.adc.dataCh = r.ch ∧
        t.periph.adc.new = true ∧ t.periph.adc.done = true ∧ t.periph.adc.overwrite = (a.overwrite || a.new) ∧
        (r.winEn = true → x < a.lo ∨ a.hi < x → t.periph.adc.win = true) ∧ (r.ieDone = true → (t.cause.leaf[13]).getLsbD 5 = true) ∧
        (r.ch = 9 → t.periph.adc.vbat.toNat = x.toNat * 4800 / 4095) ∧ adcOnly t
      (8 ≤ r.ch.toNat ∨ s.periph.gpio.func.getLsbD (12 + r.ch.toNat) = true → s.completes (.adcConversionEnd code) fun t => ended t code) ∧
      (r.ch.toNat < 8 → s.periph.gpio.func.getLsbD (12 + r.ch.toNat) = false → s.completes (.adcConversionEnd code) fun t => ∃ x, ended t x)) ∧
    (s.trngRuns = true →
      (∀ w : Word, s.completes (.trngWord w) fun t => adcOnly t ∧ t.cause = s.cause ∧
        t.periph.trng.fifo = (if s.periph.trng.fifo.length < 16 then s.periph.trng.fifo ++ [w] else s.periph.trng.fifo)) ∧
      (s.completes .trngHealthFail fun t => t.periph.trng.fifo = [] ∧ t.periph.trng.fail = true ∧ (t.cause.leaf[13]).getLsbD 8 = true ∧
        t.periph.trng.failures = s.periph.trng.failures + 1 ∧ (t.periph.trng.stopped = true ↔ 2 ≤ s.periph.trng.failures) ∧ adcOnly t)) ∧
    (s.coreRuns = true →
      (s.periph.sha.run = none → s.completes .shaStart fun t =>
        (∃ r, t.periph.sha.run = some r ∧ r.mode = s.periph.sha.mode ∧ r.addr = s.periph.sha.addr.toNat ∧ r.len = s.periph.sha.len.toNat) ∧
          { t with periph.sha.run := none } = s) ∧
      (s.periph.sha.run ≠ none → s.completes .shaStart fun t =>
        t.periph.sha = { s.periph.sha with err := true, reason := 5 } ∧ (t.cause.leaf[13]).getLsbD 9 = true ∧ adcOnly t)) ∧
    (∀ r, s.pclkRuns = true → s.periph.sha.run = some r →
      (r.reason ≠ 0 → s.completes .shaRunEnd fun t =>
        t.periph.sha.run = none ∧ t.periph.sha.err = true ∧ t.periph.sha.reason = r.reason ∧ t.periph.sha.done = s.periph.sha.done ∧
          t.periph.sha.h = s.periph.sha.h ∧ (t.cause.leaf[13]).getLsbD 9 = true ∧ adcOnly t) ∧
      (r.reason = 0 → s.shaReason r.mode r.addr r.len = 0 → r.mode = 2 → r.bytes = memBytes s.mem r.addr r.len → s.completes .shaRunEnd fun t =>
        let msg := r.bytes ++ shaTail r.len r.len
        t.periph.sha.run = none ∧ t.periph.sha.done = true ∧ t.periph.sha.err = s.periph.sha.err ∧
          t.periph.sha.h = shaState (shaBlocks ((msg.length + 63) / 64) shaInit msg) ∧ (t.cause.leaf[13]).getLsbD 9 = true ∧ adcOnly t)) ∧
    (s.pclkRuns = true → exec .aesStart s = .next { s with periph.aes.busy := true }) ∧
    (s.periph.aes.busy = true → s.completes .aesBlockDone fun t =>
      t.periph.aes.busy = false ∧ t.periph.aes.done = true ∧ t.periph.aes.key = s.periph.aes.key ∧ t.periph.aes.input = s.periph.aes.input ∧
        (∀ i : Fin 4, t.periph.aes.output[i] =
          wordAt (aes128 (wordsToBytes s.periph.aes.key.toList) (wordsToBytes s.periph.aes.input.toList)) (4 * i.val)) ∧
        (t.cause.leaf[13]).getLsbD 10 = true ∧ adcOnly t) ∧
    (∀ p : BitVec 48,
      (s.carriesEvents = false → exec (.conduitEvent p) s = .next { s with conduit.pulses := 0 }) ∧
      (s.carriesEvents = true → s.conduit.table = [] →
        exec (.conduitEvent p) s = .next { s with conduit.pulses := s.conduit.pulses &&& ~~~p }) ∧
      (s.carriesEvents = true → s.conduit.table = [1#32, 0x100#32] → p = 1 → s.conduit.pulses = 1 → a.en = true → a.busy = none →
        s.completes (.conduitEvent p) fun t => t.periph.adc.busy = some ⟨a.ch, a.winEn, a.ieWin, a.ieDone⟩ ∧ t.conduit.pulses = 0 ∧ t.core = s.core ∧ t.mem = s.mem))

-- The Keyholder engine

/-- For every state: a poll of a resting channel L that differs from the baseline by DELTA or more asks for confirmation, a quieter one joins the
history; a listen with the amplitude above NOISE for 50 us floods the channel; a confirmed change begins a transaction, or with the channel locked
gives LOCKED. A channel that receives answers an ID frame with a good CRC with some challenge, sent in the pulses of its frame; a bad frame
changes nothing, but that one on channel O ends dormancy, and one is lost on a channel that does not receive. A response with a good CRC ends the
transaction with the verdict: UNKNOWN without a record, REVOKED, WRONG_CHANNEL, BAD_RESPONSE, PENDING or PROMOTED, EXPIRED and GRANT in the
table's order; a bad or missing one ends it with NO_RESPONSE. NO_TOKEN gives its result and one repeat, then the object level. A noisy listen, and
an envelope that departs by more than 4 x DELTA for 1,000 us of a transaction or raw run, stop channel L and discard its transaction; a saturated
amplifier or carrier for longer than 3 x M stops channel O. Four clean listens in a row end the flood of L, a rearm that of O. A mark is added to
the code being received; a code's end delivers it with TOKEN.IR_CODE, or counts it lost while the buffer is held. Carrier of less than 100 us is
nothing. Core and memory stand throughout. (08_keyholder.md 2 to 5 (R332 to R334, R336, R337, R339, R341 to R346, R351, R352, R354); R356 to R362;
R368) -/
def Obligations.KeyholderSensesAndDecides : Prop :=
  ∀ s : State,
    let k := s.key
    let keeps (t : State) : Prop := t.core = s.core ∧ t.mem = s.mem ∧ t.link = s.link
    let gives (t : State) (c : KeyChannel) (code : Byte) (id : Option Word) (slot : Option (Fin 64)) : Prop :=
      t.key.results = k.results ++ [⟨c, code, id, slot, false⟩]
    let loud (listen : List Byte) : Nat := listen.countP fun x => decide (k.noise < x)
    (s.lPolls = true → k.lAct = .idle →
      (∀ (listen : List Byte) (a b : BitVec 8), loud listen < 50 → k.present = none → k.keptArrival = none → k.object = false → k.baseline = some b →
        (k.delta.toNat ≤ ampDiff a b → s.completes (.presencePoll listen a none) fun t =>
          t.key.lAct = .confirming ∧ t.key.last = a ∧ t.key.history = k.history ∧ t.key.results = k.results ∧ keeps t) ∧
        (ampDiff a b < k.delta.toNat → s.completes (.presencePoll listen a none) fun t =>
          t.key.lAct = .idle ∧ t.key.last = a ∧ t.key.history = (a :: k.history).take 16 ∧ t.key.results = k.results ∧ keeps t)) ∧
      (∀ (listen : List Byte) a r, 50 ≤ loud listen → s.completes (.presencePoll listen a r) fun t =>
        t.key.lFlood = true ∧ t.key.lAct = .idle ∧ t.key.present = none ∧ (t.cause.leaf[3]).getLsbD 5 = true ∧ keeps t)) ∧
    (∀ (listen : List Byte) (a b : BitVec 8), loud listen < 50 → s.keyRuns = true → s.dozing = false → k.lAct = .confirming → k.baseline = some b →
      (k.delta.toNat ≤ ampDiff a b → k.locked = false → s.completes (.confirmPoll listen a) fun t =>
        t.key.lAct = .waitId false ∧ t.key.results = k.results ∧ keeps t) ∧
      (k.delta.toNat ≤ ampDiff a b → k.locked = true → s.completes (.confirmPoll listen a) fun t =>
        t.key.lAct = .idle ∧ t.key.present.isSome = true ∧ gives t .l 0x0C none none ∧ keeps t) ∧
      (ampDiff a b < k.delta.toNat → s.completes (.confirmPoll listen a) fun t =>
        t.key.lAct = .idle ∧ t.key.history = (a :: k.history).take 16 ∧ t.key.results = k.results ∧ keeps t)) ∧
    (∀ id : Word,
      let f := 0x5A#8 :: wordBytes id
      (s.receivesFrames .l = true → k.lAct.inTransaction = true → k.locked = false → s.periph.trng.stopped = false →
        s.completes (.idFrame .l f (keyCrc f)) fun t =>
          (∃ ch, t.key.lAct = .challenged id ch ∧ t.key.lSent = lPauses (challengeBits ch)) ∧ t.key.quiet = 0 ∧ t.key.results = k.results ∧ keeps t) ∧
      (s.receivesFrames .o = true → k.oAct ≠ .raw → s.periph.trng.stopped = false →
        s.completes (.idFrame .o f (keyCrc f)) fun t =>
          (∃ ch, t.key.oAct = .challenged id ch ∧ t.key.oSent = oFrame (challengeBits ch)) ∧ t.key.dormant = false ∧ t.key.results = k.results ∧ keeps t) ∧
      (∀ x, x ≠ keyCrc f → exec (.idFrame .l f x) s = .next s ∧
        (s.receivesFrames .o = true → k.oAct ≠ .raw → s.completes (.idFrame .o f x) fun t =>
          t.key.dormant = false ∧ t.key.oAct = k.oAct ∧ t.key.results = k.results ∧ keeps t)) ∧
      (∀ c x, s.receivesFrames c = false → exec (.idFrame c f x) s = .next s)) ∧
    (∀ (c : KeyChannel) (id : Word) (ch : BitVec 64) (resp : List Byte), k.activity c = .challenged id ch → resp.length = 8 →
      let f := 0x3C#8 :: resp
      let ends (i : Instr) (code : Byte) (who : Option Word) (slot : Option (Fin 64)) : Prop := s.completes i fun t =>
        gives t c code who slot ∧ t.key.activity c = .idle ∧ keeps t ∧
          (c = .l → who.isSome = true → t.key.present = some { id := some id, slot := slot, granted := false, raw := false })
      (s.receivesFrames c = true →
        (k.lookup id = none → ends (.responseFrame c f (keyCrc f)) 0x03 (some id) none) ∧
        (∀ n, k.lookup id = some n →
          let r := k.table[n]
          let good := expectedResponse r.key ch id = resp
          (r.state = 2 → ends (.responseFrame c f (keyCrc f)) 0x04 (some id) (some n)) ∧
          (r.state = 1 ∨ r.state = 3 → r.allows c = false → ends (.responseFrame c f (keyCrc f)) 0x08 (some id) (some n)) ∧
          (r.state = 1 ∨ r.state = 3 → r.allows c = true → ¬good → ends (.responseFrame c f (keyCrc f)) 0x02 (some id) (some n)) ∧
          (r.state = 3 → r.allows c = true → good →
            ends (.responseFrame c f (keyCrc f)) (if k.enrollLeft.isSome && !r.master then 0x07 else 0x06) (some id) (some n)) ∧
          (r.state = 1 → r.allows c = true → good → k.expired r = true → ends (.responseFrame c f (keyCrc f)) 0x05 (some id) (some n)) ∧
          (r.state = 1 → r.allows c = true → good → k.expired r = false → ends (.responseFrame c f (keyCrc f)) 0x01 (some id) (some n))) ∧
        (∀ x, x ≠ keyCrc f → ends (.responseFrame c f x) 0x0A none none)) ∧
      (∀ x, s.receivesFrames c = false → exec (.responseFrame c f x) s = .next s) ∧ ends (.noResponse c) 0x0A none none) ∧
    ((k.lAct = .waitId false → s.completes .noToken fun t => gives t .l 0x09 none none ∧ t.key.lAct = .retryWait ∧ keeps t) ∧
      (k.lAct = .waitId true → s.completes .noToken fun t =>
        gives t .l 0x09 none none ∧ t.key.lAct = .idle ∧ t.key.object = true ∧ t.key.ref = k.last ∧ keeps t) ∧
      (∀ (listen : List Byte) (a b : BitVec 8), loud listen < 50 → s.keyRuns = true → s.dozing = false → k.locked = false → k.lAct = .retryWait →
        k.baseline = some b → s.completes (.noTokenRetry listen a) fun t =>
          t.key.lAct = (if k.delta.toNat ≤ ampDiff a b then .waitId true else .idle) ∧ t.key.last = a ∧ t.key.results = k.results ∧ keeps t)) ∧
    ((∀ (listen : List Byte) (d : Byte) (us : Nat),
        let carrier := k.lAct.inTransaction = true ∨ k.lAct = .raw
        let departs := 4 * k.delta.toNat < d.toNat ∧ 1000 ≤ us
        (s.keyRuns = true → k.hasL = true → (s.lPolls = true ∨ carrier) ∧ 50 ≤ loud listen ∨ carrier ∧ departs →
          s.completes (.lfFlood listen d us) fun t =>
            t.key.lFlood = true ∧ t.key.lAct = .idle ∧ (t.cause.leaf[3]).getLsbD 5 = true ∧
              (k.lAct.inTransaction = true → gives t .l 0x0B none none) ∧ keeps t) ∧
        (loud listen < 50 → ¬departs → exec (.lfFlood listen d us) s = .next s)) ∧
      (k.lFlood = true → ∀ listen : List Byte,
        (loud listen < 50 → 3 ≤ k.cleanListens →
          exec (.lfFloodListen listen) s = .next { s with key.lFlood := false, key.cleanListens := 0 }) ∧
        (loud listen < 50 → k.cleanListens < 3 → exec (.lfFloodListen listen) s = .next { s with key.cleanListens := k.cleanListens + 1 }) ∧
        (50 ≤ loud listen → exec (.lfFloodListen listen) s = .next { s with key.cleanListens := 0 })) ∧
      (∀ sat us : Nat,
        (s.oRuns = true → 50 ≤ sat ∨ 3 * k.longestMark < us → s.completes (.irFlood sat us) fun t =>
          t.key.oFlood = true ∧ t.key.oAct = .idle ∧ t.key.irRun = [] ∧ (t.cause.leaf[3]).getLsbD 6 = true ∧ keeps t) ∧
        (sat < 50 → us ≤ 3 * k.longestMark → exec (.irFlood sat us) s = .next s)) ∧
      exec .irRearm s = .next { s with key.oFlood := false }) ∧
    (s.oRuns = true → k.oCaptures = true → k.oAct ≠ .raw → k.irRun.length = k.irCount →
      (∀ m sp, 2 * m ≤ 3 * k.longestMark → sp ≤ k.endUnits → k.irCount < 64 → s.completes (.irMark m sp) fun t =>
        t.key = { k with irRun := k.irRun ++ [(irUnits m, irUnits sp)], irCount := k.irCount + 1 } ∧ keeps t) ∧
      (∀ m sp, 3 * k.longestMark < 2 * m → s.completes (.irMark m sp) fun t =>
        t.key.oFlood = true ∧ t.key.irRun = [] ∧ t.key.irPairs = k.irPairs ∧ (t.cause.leaf[3]).getLsbD 6 = true ∧ keeps t) ∧
      (∀ m, 2 * m ≤ 3 * k.longestMark → k.irCount < 64 →
        (k.irValid = false → s.completes (.irCodeEnd m) fun t =>
          t.key.irValid = true ∧ t.key.irPairs = k.irRun ++ [(irUnits m, 0)] ∧ t.key.irOverflow = false ∧ t.key.irRun = [] ∧
            (t.cause.leaf[3]).getLsbD 9 = true ∧ t.key.dormant = false ∧ keeps t) ∧
        (k.irValid = true → s.completes (.irCodeEnd m) fun t =>
          t.key.irPairs = k.irPairs ∧ t.key.irLost = satInc k.irLost ∧ t.key.irRun = [] ∧ keeps t))) ∧
    (∀ n : Nat, (n < 100 → exec (.oSenseWindow n) s = .next s) ∧
      (100 ≤ n → s.dozing = true → k.oEn = true → s.power.wakeEn = 4 → s.power.wake = .none → s.completes (.oSenseWindow n) fun t =>
        t.power.wakeActive = s.power.wakeActive ||| 4 ∧ t.key = k ∧ keeps t))

/-- For every state: a lockout with no time left ends with its count cleared and a LOCK write asked for; a checkpoint that is due asks for one of
the present state; DORMANCY falls due at the quiet time, a transaction or raw run going on, and sets its leaf; the enrollment window closes when
its seconds have run out; a hold that has run out ends its term, and in SLEEP and DEEP drops RELEASE at once with TOKEN.LOSS; the engine becomes
READY from an empty LOCK record with its state as reset, from a record with the state it names. A sensed arrival in HIBERNATE, both polls far
enough from the baseline, makes its wake source active; the first poll without a baseline is one. RESUME, CLEAR_LOCK, IR_ACK and CLOSE_ENROLL act
and report OK, the first two CHANNEL_ABSENT without channel L. RAW_START begins a run with its channel, length and place, or reports its refusal; at
RAW_STOP and RAW_DONE, with canonical memory, the samples stand packed in DTCM at that place, no other byte has changed, TOKEN.RAW_DONE is set and
for 1 s a verdict may be posted; RAW_STOP without a run is refused. TK_VERDICT posts the result in that time, or is refused outside it.
(08_keyholder.md 2, 6 to 11 (R328, R342, R350, R367, R369 to R372, R374 to R376, R381, R385, R388, R390, R391, R393)) -/
def Obligations.KeyholderCommandsAndTimesHold : Prop :=
  ∀ s : State,
    let k := s.key
    let keeps (t : State) : Prop := t.core = s.core ∧ t.mem = s.mem ∧ t.link = s.link
    let tells (t : State) (code status : BitVec 4) : Prop := t.key.cmdCode = code ∧ t.key.cmdStatus = status ∧ t.core = s.core
    (k.locked = true → k.lockSecs = 0 → k.present = none → s.completes .lockoutEnd fun t =>
      t.key.locked = false ∧ t.key.lConsec = 0 ∧ t.key.present = none ∧ (∃ b, t.key.requests.getLast? = some (.lock b)) ∧ keeps t) ∧
    (k.ckptDue = false → exec .lockCheckpoint s = .next s) ∧
    (s.keyRuns = true → k.ckptDue = true → s.completes .lockCheckpoint fun t =>
      t.key = { k with ckptDue := false, requests := t.key.requests } ∧ t.key.requests.getLast? = some (.lock s.lockBytes) ∧
        (∀ n, KeyRequest.promote n ∈ k.requests → KeyRequest.promote n ∈ t.key.requests) ∧ keeps t) ∧
    (k.ready = true → k.hasL = true → k.dormant = false →
      (k.dormWeeks.toNat * 604800 ≤ k.quiet → s.completes .dormancy fun t =>
        t.key.dormant = true ∧ t.key.lAct = (if k.lAct = .confirming ∨ k.lAct = .retryWait then .idle else k.lAct) ∧ (t.cause.leaf[3]).getLsbD 7 = true ∧ keeps t) ∧
      (k.quiet < k.dormWeeks.toNat * 604800 → exec .dormancy s = .next s)) ∧
    (k.enrollLeft = some 0 → exec .enrollWindowEnd s = .next { s with key.enrollLeft := none }) ∧
    (k.enrollLeft ≠ some 0 → exec .enrollWindowEnd s = .next s) ∧
    (s.dozing = false →
      (k.holdLeftL = some 0 → s.completes (.releaseHoldExpiry .l) fun t =>
        t.key.relL = false ∧ t.key.holdLeftL = none ∧ t.key.relO = k.relO ∧ t.key.release = k.release ∧ keeps t) ∧
      (k.holdLeftO = some 0 → s.completes (.releaseHoldExpiry .o) fun t =>
        t.key.relO = false ∧ t.key.holdLeftO = none ∧ t.key.relL = k.relL ∧ t.key.release = k.release ∧ keeps t)) ∧
    (s.dozing = true → k.relCommitted = true → k.force ≠ 2 →
      (k.holdLeftL = some 0 → k.relO = false → s.completes (.releaseHoldExpiry .l) fun t =>
        t.key.relL = false ∧ t.key.holdLeftL = none ∧ t.key.release = false ∧ (t.cause.leaf[3]).getLsbD 2 = true ∧ keeps t) ∧
      (k.holdLeftO = some 0 → k.relL = false → s.completes (.releaseHoldExpiry .o) fun t =>
        t.key.relO = false ∧ t.key.holdLeftO = none ∧ t.key.release = false ∧ (t.cause.leaf[3]).getLsbD 2 = true ∧ keeps t)) ∧
    (k.tableLoaded = true → k.ready = false → s.power.mode ≠ .sump → k.wakeResumes = false → s.drip.gap = true →
      (k.lockRecord = some [] → k.locked = false → exec .keyholderReady s = .next { s with key.ready := true }) ∧
      (∀ r, k.lockRecord = some r → r.length = 16 → (byteAt r 1).getLsbD 0 = true → 0 < natAt r 2 2 → s.completes .keyholderReady fun t =>
        t.key.ready = true ∧ t.key.locked = true ∧ t.key.lockSecs = natAt r 2 2 ∧ t.key.lConsec = (byteAt r 0).setWidth 4 ∧
          t.key.dormant = (byteAt r 1).getLsbD 1 ∧ t.key.quiet = natAt r 10 3 ∧ keeps t)) ∧
    (∀ (p : PresenceSensor) (a b : BitVec 8), k.sensor = some p → s.power.mode = .hibernate → s.power.hold = .none → 0 < p.seconds →
      s.power.wakeEn.getLsbD 1 = true → s.power.wake = .none →
      (∀ base, p.baseline = some base →
        (p.delta.toNat ≤ ampDiff a base → p.delta.toNat ≤ ampDiff b base → s.completes (.hibernatePresence a b) fun t =>
          t.power.wakeActive = s.power.wakeActive ||| 2 ∧ t.key = k ∧ keeps t) ∧
        (ampDiff a base < p.delta.toNat ∨ ampDiff b base < p.delta.toNat → exec (.hibernatePresence a b) s = .next s)) ∧
      (p.baseline = none → exec (.hibernatePresence a b) s = .next { s with key.sensor := some { p with baseline := some a } })) ∧
    ((s.power.mode ≠ .sump → k.hasL = true → s.completes .resume fun t =>
        t.key.dormant = false ∧ (k.dormant = true → t.key.quiet = 0 ∧ t.key.history = []) ∧ tells t 1 0 ∧ t.mem = s.mem) ∧
      (s.power.mode ≠ .sump → k.hasL = false → s.completes .resume fun t => t.key.dormant = k.dormant ∧ tells t 1 1) ∧
      (k.hasL = true → k.present = none → s.completes .clearLock fun t =>
        t.key.locked = false ∧ (k.locked = true → t.key.lConsec = 0) ∧ tells t 2 0 ∧ t.mem = s.mem) ∧
      (k.hasL = false → s.completes .clearLock fun t => t.key.locked = k.locked ∧ tells t 2 1) ∧
      (s.completes .irAck fun t => t.key.irValid = false ∧ t.key.irOverflow = false ∧ tells t 5 0) ∧
      (s.completes .closeEnroll fun t => t.key.enrollLeft = none ∧ tells t 6 0)) ∧
    (k.rawCh = .o →
      (k.rawRun = none → k.oAct = .idle → 0 < k.rawLen.toNat → 4 * k.rawAddr.toNat + 2 * k.rawLen.toNat ≤ 32768 → s.keyRuns = true →
        s.completes .rawStart fun t => t.key.rawRun = some .o ∧ t.key.oAct = .raw ∧
          t.key.rawRunLen = k.rawLen.toNat ∧ t.key.rawRunAddr = k.rawAddr.toNat ∧ tells t 3 0 ∧ t.mem = s.mem) ∧
      (k.rawRun.isSome = true → s.completes .rawStart fun t => t.key.rawRun = k.rawRun ∧ tells t 3 3 ∧ t.mem = s.mem)) ∧
    (∀ (c : KeyChannel) (xs : List (BitVec 16)), s.memOk → k.rawRun = some c →
      let a := 0x10000000 + 4 * k.rawRunAddr
      let ends (t : State) : Prop :=
        t.key.rawRun = none ∧ t.key.verdictBy c = some (s.linearNow + 32000000) ∧ (c = .o ∨ k.rawRetry = false → t.key.activity c = .idle) ∧
          (t.cause.leaf[3]).getLsbD 10 = true ∧ t.core = s.core ∧
          (∀ n, n < k.rawRunLen → ∀ x, xs[n]? = some x →
            memGet t.mem (a + 2 * n) = x.extractLsb' 0 8 ∧ memGet t.mem (a + 2 * n + 1) = x.extractLsb' 8 8) ∧
          (∀ b, b < a ∨ a + 2 * min xs.length k.rawRunLen ≤ b → memGet t.mem b = memGet s.mem b)
      s.completes (.rawDone xs) ends ∧ s.completes (.rawStop xs) fun t => ends t ∧ tells t 4 0) ∧
    (∀ xs, k.rawRun = none → s.completes (.rawStop xs) fun t => tells t 4 5 ∧ t.key.verdictL = k.verdictL ∧ t.key.verdictO = k.verdictO ∧ t.mem = s.mem) ∧
    (∀ (v : Word) (c : KeyChannel), c = (if v.getLsbD 15 then .o else .l) → (c = .l → k.hasL = true) →
      (k.verdictBy c = none ∨ (∃ e, k.verdictBy c = some e ∧ e < s.linearNow) → s.completes (.tkVerdict v) fun t =>
        t.key.results = k.results ∧ tells t 0xF 5) ∧
      (∀ e, k.verdictBy c = some e → s.linearNow ≤ e → v.extractLsb' 0 4 = 2#4 → s.completes (.tkVerdict v) fun t =>
        t.key.results = k.results ++ [⟨c, 0x02, none, none, true⟩] ∧ t.key.verdictBy c = none ∧ tells t 0xF 0 ∧ t.mem = s.mem))

-- Flash, scrub and Flowstone

/-- For every state: with the core running, a write of 0xA5 to FL_KEY opens a closed sequence and a following 0x5A is accepted, any other value
cancels it with SEQERR; 32 cycles without a write cancel an open one. The start write of a sequence that holds PROGRAM, ERASE or BLANK
starts it on its address when the array is idle, no update request waits and no supply warning lasts; with the array busy it is REFUSED with
reason 1, under a supply warning with 2; outside the data area PROGRAM and ERASE end with PROTECTED. At its end PROGRAM of an erased good
unit in canonical memory has stored the 16 bytes and no other, of a unit not erased ends with PROG_OVER and stores nothing; ERASE of a good
sector leaves all its bytes 0xFF and no other changed; BLANK tells whether a unit is programmed. The oldest update request starts on an idle
array without a warning; outside SUMP one to the bank of the running application fails its session with FLASH_FAIL instead. (16_flash.md 2,
3, 5 (R638 to R648, R656, R657); R662) -/
def Obligations.FlashOperationsFollowTheirSequence : Prop :=
  ∀ s : State,
    let f := s.flash
    (s.coreRuns = true →
      (∀ v : Word,
        (f.seq = .closed → v.extractLsb' 0 8 = 0xA5#8 → exec (.flKey v) s = .next { s with flash.seq := .key2 }) ∧
        (f.seq = .closed → v.extractLsb' 0 8 ≠ 0xA5#8 → exec (.flKey v) s = .next s) ∧
        (f.seq = .key2 → v.extractLsb' 0 8 = 0x5A#8 → exec (.flKey v) s = .next { s with flash.seq := .cmd }) ∧
        (f.seq = .key2 → v.extractLsb' 0 8 ≠ 0x5A#8 → v.extractLsb' 0 8 ≠ 0xA5#8 → s.completes (.flKey v) fun t =>
          t.flash = { f with seq := .closed, seqErr := true } ∧ (t.cause.leaf[6]).getLsbD 2 = true ∧ t.core = s.core ∧ t.mem = s.mem)) ∧
      (∀ (v : Word) (i : Instr) (c : BitVec 4), (i, c) ∈ [(Instr.program v, 1#4), (.erase v, 2#4), (.blankCheck v, 3#4)] →
        f.seq = .data 3 → f.cmd = c →
        let a := f.addr.toNat
        let legal := flashBase ≤ a ∧ a < 0x08100000 ∧ (if c = 1 then a % 16 = 0 else a % 4096 = 0)
        let mine := f.inDataArea ((a - flashBase) / 4096)
        (f.run = none → f.waiting = [] → s.power.bodWarn = false → legal → c = 3 ∨ mine = true → s.completes i fun t =>
          t.flash.run = some { port := .core, cmd := c, addr := a, data := wordsToBytes (f.data.set 3 v).toList } ∧
            t.flash.seq = .closed ∧ t.flash.done = f.done ∧ t.core = s.core ∧ t.mem = s.mem) ∧
        (f.run = none → f.waiting = [] → s.power.bodWarn = false → legal → c ≠ 3 → mine = false → s.completes i fun t =>
          t.flash.run = none ∧ t.flash.err = flProtected ∧ t.flash.done = true ∧ (t.cause.leaf[6]).getLsbD 1 = true ∧ t.mem = s.mem) ∧
        (f.run.isSome = true → s.completes i fun t =>
          t.flash.refused = true ∧ t.flash.refwhy = 1 ∧ t.flash.run = f.run ∧ (t.cause.leaf[6]).getLsbD 2 = true ∧ t.mem = s.mem) ∧
        (f.run = none → s.power.bodWarn = true → s.completes i fun t =>
          t.flash.refused = true ∧ t.flash.refwhy = 2 ∧ t.flash.run = none ∧ (t.cause.leaf[6]).getLsbD 2 = true ∧ t.mem = s.mem))) ∧
    ((f.seq ≠ .closed → s.completes .flashSeqTimeout fun t =>
        t.flash = { f with seq := .closed, seqErr := true } ∧ (t.cause.leaf[6]).getLsbD 2 = true ∧ t.core = s.core ∧ t.mem = s.mem) ∧
      (f.seq = .closed → exec .flashSeqTimeout s = .next s)) ∧
    (∀ (a : Nat) (d : List Byte) (c : BitVec 4), f.run = some { port := .core, cmd := c, addr := a, data := d } →
      let ends (t : State) (err : BitVec 4) (result : Nat) : Prop :=
        t.flash.run = none ∧ t.flash.done = true ∧ t.flash.err = err ∧ t.flash.result = BitVec.ofNat 32 result ∧
          (t.cause.leaf[6]).getLsbD 0 = true ∧ t.link = s.link
      (c = 1 → s.memOk → d.length = 16 → s.unitErased a = true → s.integ.deadUnits.contains a = false → s.completes .flashOpEnd fun t =>
        ends t 0 a ∧ memBytes t.mem a 16 = d ∧ ∀ b, b < a ∨ a + 16 ≤ b → memGet t.mem b = memGet s.mem b) ∧
      (c = 1 → s.unitErased a = false → s.completes .flashOpEnd fun t => ends t 4 a ∧ t.mem = s.mem) ∧
      (c = 2 → flashBase ≤ a → a + 4096 ≤ 0x08100000 → s.integ.deadSectors.contains a = false → s.completes .flashOpEnd fun t =>
        ends t 0 a ∧ (∀ b, a ≤ b → b < a + 4096 → memGet t.mem b = 0xFF) ∧
          ∀ b, b < a ∨ a + 4096 ≤ b → memGet t.mem b = memGet s.mem b) ∧
      (c = 3 → s.firstProgrammed a = none → s.completes .flashOpEnd fun t => ends t 0 a ∧ t.mem = s.mem) ∧
      (∀ u, c = 3 → s.firstProgrammed a = some u → s.completes .flashOpEnd fun t => ends t 6 u ∧ t.mem = s.mem)) ∧
    (∀ (o : FlashOp) (rest : List FlashOp), f.waiting = o :: rest →
      (f.run = none → s.power.bodWarn = false → s.boot.sump = true ∨ bankOf o.addr ≠ s.appBank → s.completes .updatePortOp fun t =>
        t.flash.run = some o ∧ t.flash.waiting = rest ∧ t.update = s.update ∧ t.core = s.core ∧ t.mem = s.mem) ∧
      (f.run = none → s.power.bodWarn = false → s.boot.sump = false → bankOf o.addr = s.appBank → s.completes .updatePortOp fun t =>
        t.flash.run = none ∧ t.update.state = .idle ∧ t.update.status = 0x09 ∧ (t.cause.leaf[11]).getLsbD 1 = true ∧ t.core = s.core ∧ t.mem = s.mem) ∧
      (f.run.isSome = true ∨ s.power.bodWarn = true → exec .updatePortOp s = .next s))

/-- For every state with Lantern's background work running (and canonical memory where a group is read back): a SCRUB_VISIT of a row without
errors only moves the pointer, at the last row back to 0 with the pass counted; of a row with one or two corrected words alone it corrects them,
of one with an uncorrectable word it records its address and sets MGMT.RAM_UNCORR. FLOWSTONE_RECLAIM of a ring with room and a free next sector,
or read-only, changes nothing; with the head full and the next sector free it opens that sector as the head under the ring's epoch. PATROL_VISIT
moves to the next of the 64 sectors, of an identity sector counting its corrected groups and writing nothing. ORPHAN_ERASE of a good orphan that
was given to no ring erases it, writes its header for the free pool and adds it there, no byte outside it changing; a worn orphan is retired
instead. (15_memory_integrity.md 3 (R614 to R618, R621); 17_flowstone.md 2 to 4, 7 (R671, R678, R690, R691, R693, R694)) -/
def Obligations.BackgroundWorkKeepsTheStore : Prop :=
  ∀ s : State,
    let g := s.integ
    (s.flowRuns = true → g.scrubRow < s.retainedRows →
      let i := g.scrubRow
      let moved (t : State) : Prop :=
        (i + 1 < s.retainedRows → t.integ.scrubRow = i + 1 ∧ t.integ.scrubPasses = g.scrubPasses) ∧
          (i + 1 = s.retainedRows → t.integ.scrubRow = 0 ∧ t.integ.scrubPasses = satInc g.scrubPasses) ∧ t.core = s.core
      (rowWords i g.corrWords = [] → rowWords i g.uncorrWords = [] → s.completes .scrubVisit fun t =>
        moved t ∧ t.integ.corrWords = g.corrWords ∧ t.cause = s.cause ∧ t.mem = s.mem) ∧
      (rowWords i g.uncorrWords = [] → (rowWords i g.corrWords).length < 3 → s.completes .scrubVisit fun t =>
        moved t ∧ (∀ a, a ∈ t.integ.corrWords ↔ a ∈ g.corrWords ∧ ¬(rowBase i ≤ a ∧ a < rowBase i + 128)) ∧ t.cause = s.cause ∧ t.mem = s.mem) ∧
      (∀ a, (rowWords i g.uncorrWords).getLast? = some a → 2048 ≤ i → s.completes .scrubVisit fun t =>
        moved t ∧ t.integ.scrubErr = BitVec.ofNat 32 a ∧ (t.cause.leaf[8]).getLsbD 6 = true ∧ (t.cause.leaf[8]).getLsbD 8 = true ∧ t.mem = s.mem)) ∧
    (s.flowBackground = true →
      (∀ (n : Fin 32) (r : Ring) (h : Nat), s.ring n = some r → r.head = some h →
        (r.ro = true → exec (.flowstoneReclaim n) s = .next s) ∧
        (r.ro = false → s.sectorFree (r.after h) = true →
          ((s.nextSlot r.s8 h).isSome = true → exec (.flowstoneReclaim n) s = .next s) ∧
          (let next := r.after h
           let s1 := s.openHead r next (s.ringEpoch r)
           s.nextSlot r.s8 h = none → s1.sectorFree (r.after next) = true → (s1.nextSlot r.s8 next).isSome = true →
             s.integ.deadGroups.contains (fsAddr next 1) = false → s.memOk → s.completes (.flowstoneReclaim n) fun t =>
               (t.ring n).bind (·.head) = some next ∧ t.group next 1 = markerGroup (s.ringEpoch r) ∧
                 (∀ b, b < fsAddr next 1 ∨ fsAddr next 1 + 8 ≤ b → memGet t.mem b = memGet s.mem b)))) ∧
      (s.completes .patrolVisit fun t =>
        t.lantern.flow.patrol = (s.lantern.flow.patrol + 1) % 64 ∧ t.core.g = s.core.g ∧ (s.lantern.flow.patrol < 2 → t.mem = s.mem)) ∧
      (∀ (sec : Nat) (rest : List Nat), s.memOk → s.lantern.flow.orphans = sec :: rest → sec < 64 → s.integ.deadSectors.contains (fsAddr sec 0) = false →
        s.integ.deadGroups.contains (fsAddr sec 0) = false →
        s.header sec = none → s.wornOut none sec = false → (∀ r ∈ s.lantern.flow.rings, sec ∉ r.sectors) → s.completes .orphanErase fun t =>
          sec ∈ t.lantern.flow.pool ∧ sec ∉ t.lantern.flow.orphans ∧ (∀ b, 8 ≤ b → b < 512 → memGet t.mem (fsAddr sec 0 + b) = 0xFF) ∧
            (∃ e : Nat, t.group sec 0 = headerGroup 0xFF true (e + 1)) ∧
            (∀ b, b < fsAddr sec 0 ∨ fsAddr sec 0 + 512 ≤ b → memGet t.mem b = memGet s.mem b)) ∧
      (∀ (sec : Nat) (rest : List Nat), s.lantern.flow.orphans = sec :: rest → s.wornOut none sec = true →
        (∀ r ∈ s.lantern.flow.rings, sec ∉ r.sectors) → s.completes .orphanErase fun t =>
        sec ∉ t.lantern.flow.pool ∧ sec ∉ t.lantern.flow.orphans ∧ sec ∈ t.lantern.flow.retired))

-- Lantern

/-- For every state whose oldest unanswered request stands alone in the queue, with Lantern running: a command of another request code changes
nothing; one from a requester the table does not name is answered DENIED, one that writes Flowstone under a supply warning LOW_SUPPLY, with
nothing else changed. IDENTITY answers the part, EUI-64 and versions, CAL_GET the calendar and count of the last transfer, LIFE_GET one or
all counters, BOD_HIST the brownout record, MONO_GET a counter, REC_READ a current record, TOKEN_READ one with its key zero for the host;
CAL_ALARM arms or cancels the alarm, WAKE_AT the wake for a drip to come, LIFE_ADD adds to the application counter alone. Wrong arguments
are answered BAD_KEY, BAD_ARG or NO_RING. Core and memory stand. (18_lantern.md 2, 3 (R705, R709 to R714, R716, R718, R721, R732); R686;
R689; R378) -/
def Obligations.LanternRequestsAnswerWhatTheyRead : Prop :=
  ∀ (s : State) (q : LtRequest), s.lantern.queue = [q] → q.result = none → q.orphaned = false → s.flowRuns = true →
    let l := s.lantern
    let rows : List (Instr × Byte × List Requester × Bool) :=
      [(.identity, 0x01, [.core, .host], false), (.calGet, 0x02, [.core, .host], false), (.calSet, 0x03, [.core, .host], true),
        (.calAlarm, 0x04, [.core], false), (.wakeAt, 0x05, [.core], false), (.lifeGet, 0x08, [.core, .host], false),
        (.lifeAdd, 0x09, [.core], false), (.lifeSave, 0x0A, [.core], true), (.bodHist, 0x0B, [.core, .host], false),
        (.recRead, 0x10, [.core, .host], false), (.recWrite, 0x11, [.core], true), (.monoInc, 0x18, [.core, .host], false),
        (.monoGet, 0x19, [.core, .host], false), (.keyInstall, 0x20, [.core], true), (.keyRetire, 0x21, [.core], true),
        (.keyRemove, 0x22, [.core], true), (.tokenWrite, 0x28, [.core, .host, .key], true), (.tokenRevoke, 0x29, [.core, .host], true),
        (.tokenRead, 0x2A, [.core, .host], false), (.provision, 0x30, [.core, .host], true), (.lockWrite, 0x38, [.key], true)]
    let answered (t : State) (st : Byte) (rv : List Word) (out : List Byte) : Prop :=
      t.lantern.queue = [{ q with result := some (q.answer { status := st, rv := rv, out := out }), late := s.isLate }] ∧ t.core = s.core ∧ t.mem = s.mem
    (∀ i c rs w, (i, c, rs, w) ∈ rows →
      (q.req ≠ c → exec i s = .next s) ∧
      (q.req = c → q.by_ ≠ .key → rs.contains q.by_ = false → s.completes i fun t =>
        answered t 0x0D [] [] ∧ { t with lantern := { t.lantern with queue := l.queue } } = s) ∧
      (q.req = c → q.by_ ≠ .key → rs.contains q.by_ = true → w = true → s.power.bodWarn = true → s.completes i fun t =>
        answered t 0x10 [] [] ∧ { t with lantern := { t.lantern with queue := l.queue } } = s)) ∧
    (q.by_ = .core ∨ q.by_ = .host →
      (q.req = 0x01 → s.completes .identity fun t =>
        answered t 0 [s.cpId, wordAt s.eui 0, wordAt s.eui 4, Config.identity 1]
          (wordsToBytes (if s.boot.sump then [0, 0] else [s.boot.version[s.boot.appSlot], s.boot.version[s.boot.linkSlot]]))) ∧
      (q.req = 0x02 → s.completes .calGet fun t =>
        let c := s.seen.lantern.calendar
        let d := s.seen.drip.count
        answered t 0 [c.extractLsb' 0 32, (c.extractLsb' 32 8).setWidth 32 ||| flag 8 s.seen.lantern.stale, d.extractLsb' 0 32,
          (d.extractLsb' 32 16).setWidth 32] []) ∧
      (q.req = 0x08 → ∀ n : Nat, (q.arg[0]).toNat % 256 = n →
        (n = 255 → s.completes .lifeGet fun t => answered t 0 [] (l.life.toList.flatMap (leBytes 6))) ∧
        (∀ h : n < 19, s.completes .lifeGet fun t => answered t 0 [word0 l.life[n], word1 l.life[n]] []) ∧
        (19 ≤ n → n < 255 → s.completes .lifeGet fun t => answered t 0x03 [] [])) ∧
      (q.req = 0x0B → s.completes .bodHist fun t => answered t 0 [word0 l.life[2], word0 l.warnings] l.bodHist) ∧
      (q.req = 0x19 → (16 ≤ (q.arg[0]).toNat → s.completes .monoGet fun t => answered t 0x03 [] []) ∧
        (∀ n : Fin 8, (q.arg[0]).toNat = n.val → s.completes .monoGet fun t =>
          answered t 0 [word0 (s.monoOf n).1, word0 (s.monoOf n).2] []) ∧
        (∀ n : Fin 8, (q.arg[0]).toNat = 8 + n.val → s.completes .monoGet fun t =>
          answered t 0 [word0 (l.mono[n]).1, word0 (s.monoOf (8 + n)).2] [])) ∧
      (q.req = 0x10 → ∀ id key : Nat, (q.arg[0]).toNat % 256 = id → (q.arg[0]).toNat / 256 % 256 = key →
        (q.by_ = .host → 3 ≤ id → id ≤ 6 → s.completes .recRead fun t => answered t 0x0D [] []) ∧
        (q.by_ = .core ∨ id < 3 ∨ 6 < id →
          (s.namedRing id = none → s.completes .recRead fun t => answered t 0x02 [] []) ∧
          (∀ r, s.namedRing id = some r → r.keys ≤ key → s.completes .recRead fun t => answered t 0x03 [] []) ∧
          (∀ r, s.namedRing id = some r → key < r.keys → s.current r key = none → s.completes .recRead fun t => answered t 0x01 [] []) ∧
          (∀ r x, s.namedRing id = some r → key < r.keys → s.current r key = some x → s.completes .recRead fun t =>
            answered t 0 [word0 x.len, word0 x.seq, word0 x.epoch] (x.data.take x.len)))) ∧
      (q.req = 0x2A →
        (64 ≤ (q.arg[0]).toNat → s.completes .tokenRead fun t => answered t 0x03 [] []) ∧
        (∀ x, (q.arg[0]).toNat < 64 → s.load 5 (q.arg[0]).toNat = some x → x.data.length = 32 → s.completes .tokenRead fun t =>
          answered t 0 [] (if q.by_ = .host then x.data.take 4 ++ List.replicate 16 0#8 ++ x.data.drop 20 else x.data)))) ∧
    (q.by_ = .core →
      (q.req = 0x04 → s.completes .calAlarm fun t =>
        answered t 0 [] [] ∧ t.lantern.alarm = (q.arg[1]).extractLsb' 0 8 ++ q.arg[0] ∧
          t.lantern.alarmArmed = decide (t.lantern.alarm ≠ 0) ∧ t.lantern.calendar = l.calendar) ∧
      (q.req = 0x05 →
        let d : BitVec 48 := (q.arg[1]).extractLsb' 0 16 ++ q.arg[0]
        (d = 0 → s.completes .wakeAt fun t => answered t 0 [] [] ∧ t.lantern.wake = none) ∧
        (d ≠ 0 → d ≤ s.drip.count → s.completes .wakeAt fun t => answered t 0x0F [] [] ∧ t.lantern.wake = l.wake) ∧
        (s.drip.count < d → s.completes .wakeAt fun t => answered t 0 [] [] ∧ t.lantern.wake = some d)) ∧
      (q.req = 0x09 →
        ((q.arg[0]).toNat % 256 ≠ 18 → s.completes .lifeAdd fun t => answered t 0x03 [] [] ∧ t.lantern.life = l.life) ∧
        ((q.arg[0]).toNat % 256 = 18 → q.arg[1] = 0 → s.completes .lifeAdd fun t => answered t 0x0F [] [] ∧ t.lantern.life = l.life) ∧
        (let v := l.life[18] + (q.arg[1]).toNat
         (q.arg[0]).toNat % 256 = 18 → q.arg[1] ≠ 0 → v < 2 ^ 48 → s.completes .lifeAdd fun t =>
          answered t 0 [word0 v, word1 v] [] ∧ t.lantern.life[18] = v ∧ ∀ i : Fin 19, i ≠ 18 → t.lantern.life[i] = l.life[i])))

/-- For every state whose oldest unanswered request stands alone in the queue, with Lantern running and no supply warning: CAL_SET, LIFE_SAVE,
REC_WRITE, KEY_INSTALL, KEY_RETIRE, KEY_REMOVE, TOKEN_WRITE, TOKEN_REVOKE and LOCK_WRITE commit their record and answer the status that the store
gave it. An installed key goes to the data plane with a fresh counter at the next transfer, a written token table to the engine; LOCK_WRITE frees
its position and tells the engine at the next transfer whether it succeeded. MONO_INC answers a value inside the lease and counts on, at the end
value COUNTER_END. PROVISION programs an erased group of groups 3 to 24 and nothing else. Wrong slots, keys, lengths, epochs, times and groups are
answered BAD_KEY, BAD_LEN, EPOCH_ORDER, BAD_ARG and PROTECTED, a duplicate ID DUP_ID, a written group ALREADY_SET, an empty slot EMPTY, each with
memory unchanged. (18_lantern.md 2, 3 (R709 to R715, R720, R727); 07_istiyn_security.md (R308 to R311); R373; R378; R669; R687) -/
def Obligations.LanternRequestsCommitWhatTheyWrite : Prop :=
  ∀ (s : State) (q : LtRequest), s.lantern.queue = [q] → q.result = none → q.orphaned = false → s.flowRuns = true → s.power.bodWarn = false →
    let l := s.lantern
    let status (t : State) (st : Byte) : Prop := ∃ r, t.lantern.queue = [{ q with result := some r, late := s.isLate }] ∧ r.tag = q.tag ∧ r.req = q.req ∧ r.status = st
    let refused (i : Instr) (st : Byte) : Prop := s.completes i fun t => status t st ∧ t.mem = s.mem ∧ t.core = s.core
    let n := (q.arg[0]).toNat
    (q.by_ = .core ∨ q.by_ = .host →
      (q.req = 0x03 →
        let v : BitVec 40 := (q.arg[1]).extractLsb' 0 8 ++ q.arg[0]
        (calendarEnd < v.toNat → refused .calSet 0x0F) ∧
        (v.toNat ≤ calendarEnd → s.completes .calSet fun t =>
          let x := s.store 1 0 16 (calRecord v.toNat true s.drip.count.toNat)
          status t x.1 ∧ t.mem = x.2.2.mem ∧ t.lantern.calendar = x.2.2.lantern.calendar)) ∧
      (q.by_ = .core → q.req = 0x0A → s.completes .lifeSave fun t => status t s.lifeSave.1 ∧ t.mem = s.lifeSave.2.mem) ∧
      (q.by_ = .core → q.req = 0x11 → ∀ id key : Nat, n % 256 = id → n / 256 % 256 = key →
        (id ≤ 10 → id ≠ 7 → id ≠ 8 → refused .recWrite 0x0D) ∧
        (10 < id ∨ id = 7 ∨ id = 8 →
          (s.namedRing id = none → refused .recWrite 0x02) ∧
          (∀ r, s.namedRing id = some r → r.keys ≤ key → refused .recWrite 0x03) ∧
          (∀ r, s.namedRing id = some r → key < r.keys → (q.arg[1] = 0 ∨ 8 * r.s8 < (q.arg[1]).toNat) → refused .recWrite 0x04) ∧
          (∀ r, s.namedRing id = some r → key < r.keys → 0 < (q.arg[1]).toNat → (q.arg[1]).toNat ≤ 8 * r.s8 → s.completes .recWrite fun t =>
            let x := s.store id key (q.arg[1]).toNat (q.input.take (q.arg[1]).toNat)
            status t x.1 ∧ t.mem = x.2.2.mem))) ∧
      (q.req = 0x18 →
        (n < 8 ∨ 16 ≤ n → refused .monoInc 0x03) ∧
        (∀ i : Fin 8, n = 8 + i.val →
          ((l.mono[i]).1 = 0xFFFFFFFF → s.completes .monoInc fun t => status t 0x06 ∧ (t.cause.leaf[7]).getLsbD 4 = true ∧ t.mem = s.mem) ∧
          ((l.mono[i]).1 + 257 < (l.mono[i]).2 → (l.mono[i]).2 ≤ 0xFFFFFFFF → s.completes .monoInc fun t =>
            status t 0 ∧ t.lantern.mono[i] = ((l.mono[i]).1 + 1, (l.mono[i]).2) ∧ (∀ j : Fin 8, j ≠ i → t.lantern.mono[j] = l.mono[j]) ∧
              t.mem = s.mem))) ∧
      (q.by_ = .core → q.req = 0x20 →
        (8 ≤ n → refused .keyInstall 0x03) ∧
        (∀ k : Fin 8, n = k.val → ∀ e : Nat, (q.arg[1]).toNat = e →
          let cur := (s.storedKeys k).1
          let key := BitVec.ofNat 128 (natAt q.input 0 16)
          (e = 0 ∨ 65535 < e ∨ (∃ c, cur = some c ∧ e ≠ c.2.toNat + 1) → refused .keyInstall 0x0B) ∧
          (1 ≤ e → e ≤ 65535 → (∀ c, cur = some c → e = c.2.toNat + 1) → s.completes .keyInstall fun t =>
            let x := s.store 3 k 40 (keysRecord (some (key, BitVec.ofNat 16 e)) cur)
            (x.1 ≠ 0 → status t x.1 ∧ t.mem = x.2.2.mem ∧ t.lantern.keyLoads = x.2.2.lantern.keyLoads) ∧
            (x.1 = 0 → ∃ st, status t st ∧ (st = 0 → (⟨k, some (key, BitVec.ofNat 16 e), cur, some (0, 1024)⟩ : KeyLoad) ∈ t.lantern.keyLoads))))) ∧
      (∀ (i : Instr) (c : Byte), (i, c) ∈ [(Instr.keyRetire, 0x21#8), (.keyRemove, 0x22#8)] → q.by_ = .core → q.req = c →
        (8 ≤ n → refused i 0x03) ∧
        (∀ k : Fin 8, n = k.val →
          let kept := s.storedKeys k
          let new : Option KeyEpoch := if c = 0x21 then kept.1 else none
          ((if c = 0x21 then kept.2 else kept.1) = none → refused i 0x01) ∧
          ((if c = 0x21 then kept.2 else kept.1) ≠ none → s.completes i fun t =>
            let x := s.store 3 k 40 (keysRecord new none)
            status t x.1 ∧ t.mem = x.2.2.mem ∧ (x.1 = 0 → (⟨k, new, none, none⟩ : KeyLoad) ∈ t.lantern.keyLoads)))) ∧
      (q.req = 0x28 →
        (64 ≤ n → refused .tokenWrite 0x03) ∧
        (∀ k : Fin 64, n = k.val → 32 ≤ q.input.length →
          (3 < (byteAt q.input 23).toNat → refused .tokenWrite 0x0F) ∧
          ((byteAt q.input 23).toNat ≤ 3 → byteAt q.input 23 ≠ 0 → s.duplicateToken k (wordAt q.input 0) = true → refused .tokenWrite 0x0C) ∧
          ((byteAt q.input 23).toNat ≤ 3 → s.duplicateToken k (wordAt q.input 0) = false → s.completes .tokenWrite fun t =>
            let x := s.store 5 k 32 (q.input.take 32)
            status t x.1 ∧ t.mem = x.2.2.mem ∧ (x.1 = 0 → t.lantern.tokenLoad = true)))) ∧
      (q.req = 0x29 →
        (64 ≤ n → refused .tokenRevoke 0x03) ∧
        (n < 64 → s.load 5 n = none → refused .tokenRevoke 0x01) ∧
        (∀ x, n < 64 → s.load 5 n = some x → 1 ≤ (byteAt x.data 23).toNat → (byteAt x.data 23).toNat ≤ 3 → s.completes .tokenRevoke fun t =>
          let y := s.store 5 n 32 (x.data.set 23 2#8)
          status t y.1 ∧ t.mem = y.2.2.mem ∧ (y.1 = 0 → t.lantern.tokenLoad = true))) ∧
      (q.req = 0x30 →
        (128 ≤ n → refused .provision 0x0F) ∧ (n < 3 ∨ (24 < n ∧ n < 128) → refused .provision 0x09) ∧
        (3 ≤ n → n ≤ 24 → s.groupErased 0 n = false → refused .provision 0x08) ∧
        (3 ≤ n → n ≤ 24 → s.groupErased 0 n = true → 8 ≤ q.input.length → s.memOk → s.integ.deadGroups.contains (fsAddr 0 n) = false →
          s.completes .provision fun t => status t 0 ∧ t.group 0 n = q.input.take 8 ∧
            ∀ b, b < fsAddr 0 n ∨ fsAddr 0 n + 8 ≤ b → memGet t.mem b = memGet s.mem b))) ∧
    (q.by_ = .key → q.req = 0x38 → s.completes .lockWrite fun t =>
      let x := s.store 10 0 16 (q.input.take 16)
      t.lantern.queue = [] ∧ t.mem = x.2.2.mem ∧ t.lantern.lockResult = some (x.1 == 0) ∧ t.key = s.key)

/-- For every state: a CALENDAR_TICK outside a brownout counts the calendar on to its end value, fires an armed alarm that is reached, and outside
HIBERNATE counts a power-on second, the seconds since the checkpoint and, while one is pending or a reload lasts, those left to confirm; in
HIBERNATE it counts down the presence sensor's seconds. CAL_CHECKPOINT does nothing before 3,600 seconds and then restarts their count. A
confirmation with no second left expires with BOOT.CONFIRM_EXPIRED. A stick is inserted once, with MGMT.STICK_IN, and read when its header is
SFDP's; its removal sets MGMT.STICK_OUT and fails a stick session. STICK_EVALUATION of a stick without a valid directory has the result
NO_DIRECTORY, of one with no entry to consider DONE, writing nothing; either way the stick is evaluated and UPDATE.STICK_DONE is set.
(18_lantern.md 4 to 6 (R717, R718, R721, R724, R726, R728, R733, R734); R689; R757; 20_update.md 7 (R800 to R804)) -/
def Obligations.CalendarStickAndConfirmationRun : Prop :=
  ∀ s : State,
    let l := s.lantern
    let keeps (t : State) : Prop := t.core = s.core ∧ t.mem = s.mem
    (s.power.hold ≠ .brownout → s.completes .calendarTick fun t =>
      (l.calendar.toNat < calendarEnd → t.lantern.calendar = l.calendar + 1) ∧ (calendarEnd ≤ l.calendar.toNat → t.lantern.calendar = l.calendar) ∧
        (l.alarmArmed = true → l.alarm ≤ t.lantern.calendar → t.lantern.alarmArmed = false ∧ (t.cause.leaf[8]).getLsbD 2 = true) ∧
        (l.alarmArmed = false ∨ t.lantern.calendar < l.alarm → t.lantern.alarmArmed = l.alarmArmed ∧ t.cause = s.cause) ∧
        (s.flowRuns = true → t.lantern.life[0] = min (2 ^ 48 - 1) (l.life[0] + 1) ∧ t.lantern.sinceCkpt = l.sinceCkpt + 1 ∧
          t.lantern.confirmLeft = (if l.confirmPending || s.link.reloadEdge.isSome then l.confirmLeft - 1 else l.confirmLeft) ∧
          t.key.lockSecs = s.key.lockSecs - 1) ∧
        (s.flowRuns = false → t.lantern.life = l.life ∧
          t.key = (if s.power.mode = .hibernate then { s.key with sensor := s.key.sensor.map fun p => { p with seconds := p.seconds - 1 } } else s.key)) ∧
        keeps t) ∧
    ((l.sinceCkpt < 3600 → exec .calCheckpoint s = .next s) ∧
      (3600 ≤ l.sinceCkpt → s.flowBackground = true → s.completes .calCheckpoint fun t =>
        t.lantern.sinceCkpt = 0 ∧ t.lantern.calendar = l.calendar ∧ t.core.g = s.core.g)) ∧
    (s.flowRuns = true → l.confirmPending = true →
      (l.confirmLeft = 0 → s.completes .confirmExpired fun t =>
        t.lantern.confirmPending = false ∧ (t.cause.leaf[12]).getLsbD 7 = true ∧ keeps t) ∧
      (0 < l.confirmLeft → exec .confirmExpired s = .next s)) ∧
    (s.power.hold = .none →
      (∀ b : List Byte,
        (l.stickPresent = false → s.completes (.stickInsert b) fun t =>
          t.lantern.stickPresent = true ∧ t.lantern.stickDet = true ∧ (t.cause.leaf[8]).getLsbD 3 = true ∧
            (s.stoppedMode = false → (t.lantern.sfdpOk = true ↔ b.take 4 = [0x53#8, 0x46#8, 0x44#8, 0x50#8])) ∧ keeps t) ∧
        (l.stickPresent = true → exec (.stickInsert b) s = .next s)) ∧
      (l.stickPresent = true → s.completes .stickRemove fun t =>
        t.lantern.stickPresent = false ∧ t.lantern.sfdpOk = false ∧ (t.cause.leaf[8]).getLsbD 4 = true ∧ keeps t ∧
          (s.update.owner = .stick → s.update.state ≠ .activating →
            t.update.state = .idle ∧ t.update.status = 0x13 ∧ (t.cause.leaf[11]).getLsbD 1 = true) ∧
          (s.update.owner ≠ .stick → t.update = { s.update with evaluated := false }))) ∧
    (∀ b : List Byte, l.sfdpOk = true → s.update.evaluated = false → s.update.state = .idle → s.stoppedMode = false → s.power.hold = .none →
      s.update.stickAuto = true ∨ s.boot.sump = true → s.flash.run = none →
      let done (r : BitVec 2) : Prop := s.completes (.stickEvaluation b) fun t =>
        t.update.evaluated = true ∧ t.update.stickResult = r ∧ t.update.stickLink = 0xFF ∧ t.update.stickApp = 0xFF ∧ t.update.state = .idle ∧
          t.lantern.resetReq = l.resetReq ∧ (t.cause.leaf[11]).getLsbD 3 = true ∧ keeps t
      (stickValid b = false → done 2) ∧ (stickValid b = true → s.stickPick b 1 = none → s.stickPick b 2 = none → done 1))

-- The update engine

/-- For every state with the command at the head of the engine's queue and no block in hand: OPEN of a busy engine ends SESSION_BUSY, an allowed
one begins erasing its target, which is receiving once erased. A BLOCK with a wrong offset, CRC or repeated content ends BAD_OFFSET, BAD_CRC, DUP
or, with other content, fails with DUP_DIFF; a new one programs its units that are not all ones, and its bit is set with the last. CLOSE of an
incomplete image ends MISSING, of a bad header fails with BAD_IMAGE, else verification begins; a valid body makes the session READY, an invalid
one fails it. ACTIVATE refuses UNTESTED, TRIAL_PENDING and LOW_SUPPLY, and in SUMP requests the reset; ABORT and 300 quiet seconds end the
session. At its edge an application activation stops the core, and 6 drips later the core starts at the image's entry with g3 = 1. A quiet
LINK_RELOAD stops the lanes, takes the radio and begins the 60 seconds; the edge that ends the reload makes the link image live with the radio
receiving, or with another generation fails with GEN_MISMATCH and begins a second reload. (20_update.md 2 to 6 (R772 to R776, R778, R781 to R787,
R789 to R791); R284; R753; R760; R788) -/
def Obligations.UpdateCommandsRunTheSession : Prop :=
  ∀ s : State,
    let u := s.update
    let f := s.flash
    let failed (t : State) (st : Byte) : Prop := t.update.state = .idle ∧ t.update.owner = .none ∧ t.update.status = st
    let noted (t : State) : Prop := (t.cause.leaf[11]).getLsbD 1 = true
    (∀ (c : UpCommand) (rest : List UpCommand), u.queue = c :: rest → u.block = none →
      let tells (t : State) (st : Byte) : Prop := t.update.status = st ∧ t.update.lastCmd = c.cmd ∧ t.update.queue = rest ∧ t.mem = s.mem
      (c.cmd = 1 → u.state ≠ .idle → s.completes .openOp fun t => tells t 0x04 ∧ t.update.state = u.state) ∧
      (c.cmd = 1 → u.state = .idle → c.kind = 1 ∨ c.kind = 2 → c.slot ≠ 3 → c.service = false → s.power.bodWarn = false →
        let n := s.upTarget c.kind.toNat c.slot.toNat
        s.boot.sump = true ∨ (s.bootRecord.trial = false ∧ n ≠ s.boot.appSlot ∧ n ≠ s.boot.linkSlot ∧ bankOf (slotBase n) ≠ s.appBank) →
        s.completes .openOp fun t =>
          t.update.state = .erasing ∧ t.update.owner = c.owner ∧ t.update.target = n ∧ t.update.bitmap = 0 ∧ t.update.open_ = some c ∧
            t.update.queue = rest ∧ t.flash.waiting = f.waiting ++ [⟨.update, 2, slotBase n, []⟩] ∧ t.mem = s.mem ∧ t.core = s.core) ∧
      (c.cmd = 2 → u.state = .receiving → u.owner = c.owner → s.upReads = true →
        let off := c.offset.toNat
        let size := slotSize u.target
        (off % 256 ≠ 0 ∨ size ≤ off → s.completes .block fun t => tells t 0x06 ∧ t.update.bitmap = u.bitmap) ∧
        (off % 256 = 0 → off < size →
          (crc32 (leBytes 4 off ++ c.data) ≠ c.crc → s.completes .block fun t => tells t 0x07 ∧ t.update.bitmap = u.bitmap) ∧
          (crc32 (leBytes 4 off ++ c.data) = c.crc →
            (u.bitmap.getLsbD (off / 256) = true → memBytes s.mem (slotBase u.target + off) 256 = c.data → s.completes .block fun t =>
              tells t 0x01 ∧ t.update.dups = u.dups + 1 ∧ t.update.state = .receiving) ∧
            (u.bitmap.getLsbD (off / 256) = true → memBytes s.mem (slotBase u.target + off) 256 ≠ c.data → s.completes .block fun t =>
              failed t 0x08 ∧ noted t ∧ t.mem = s.mem) ∧
            (u.bitmap.getLsbD (off / 256) = false → nextUnit c.data 0 = none → s.completes .block fun t =>
              tells t 0x00 ∧ t.update.bitmap.getLsbD (off / 256) = decide (off / 256 < 1792)) ∧
            (∀ k, u.bitmap.getLsbD (off / 256) = false → nextUnit c.data 0 = some k → s.completes .block fun t =>
              t.update.block = some (c, k) ∧ t.update.queue = rest ∧ t.mem = s.mem ∧
                t.flash.waiting = f.waiting ++ [⟨.update, 1, slotBase u.target + off + 16 * k, (c.data.drop (16 * k)).take 16⟩])))) ∧
      (c.cmd = 3 → u.state = .receiving → u.owner = c.owner → s.upReads = true →
        let i := s.image u.target
        (u.bitmap.getLsbD 0 = false → s.completes .closeOp fun t => tells t 0x0A ∧ t.update.miss = 0) ∧
        (u.bitmap.getLsbD 0 = true → s.headerVerdict i ≠ vdValid → s.completes .closeOp fun t =>
          failed t 0x0B ∧ noted t ∧ t.update.verdict = s.headerVerdict i ∧ t.mem = s.mem) ∧
        (u.bitmap.getLsbD 0 = true → s.headerVerdict i = vdValid → u.extra i.len = false →
          (∀ m, u.firstMissing i.len = some m → s.completes .closeOp fun t => tells t 0x0A ∧ t.update.miss = word0 m) ∧
          (u.firstMissing i.len = none → s.completes .closeOp fun t =>
            t.update.state = .verifying ∧ t.update.open_ = some c ∧ t.update.queue = rest ∧ t.mem = s.mem))) ∧
      (c.cmd = 4 → u.state = .ready → u.owner = c.owner →
        (s.boot.sump = false → s.bootRecord.trial = true → s.completes .activate fun t => tells t 0x0E ∧ t.update.state = .ready) ∧
        (s.boot.sump = false → s.bootRecord.trial = false → u.tested = false → s.completes .activate fun t =>
          tells t 0x0F ∧ t.update.state = .ready) ∧
        (s.boot.sump = true → s.power.bodWarn = true → s.completes .activate fun t => tells t 0x10 ∧ t.update.state = .ready) ∧
        (s.boot.sump = true → s.power.bodWarn = false → s.completes .activate fun t =>
          tells t 0x00 ∧ t.update.state = .idle ∧ t.lantern.resetReq = true)) ∧
      (c.cmd = 5 → u.owner = c.owner → u.open_ = none →
        (u.state = .receiving ∨ u.state = .ready → s.completes .abortOp fun t => failed t 0x14 ∧ t.update.queue = rest ∧ t.mem = s.mem) ∧
        (u.state = .idle → s.completes .abortOp fun t => tells t 0x02 ∧ t.update.state = .idle))) ∧
    (∀ c : UpCommand, u.open_ = some c →
      (u.state = .erasing → u.sectorsLeft = 0 → s.completes .slotEraseDone fun t =>
        t.update.state = .receiving ∧ t.update.open_ = none ∧ t.update.status = 0 ∧ t.mem = s.mem) ∧
      (u.state = .verifying → s.upReads = true → u.aborting = none →
        let i := s.image u.target
        (s.bodyVerdict i = vdValid → s.bootRecord.rejects i = false → s.completes .verifyDone fun t =>
          t.update.state = .ready ∧ t.update.status = 0 ∧ t.boot.verdict[u.target] = vdValid ∧ t.mem = s.mem) ∧
        (s.bodyVerdict i ≠ vdValid → s.completes .verifyDone fun t => failed t 0x0B ∧ noted t ∧ t.mem = s.mem))) ∧
    (∀ (a : Nat) (d : List Byte) (c : UpCommand) (k : Nat), f.run = some ⟨.update, 1, a, d⟩ → u.block = some (c, k) → u.state = .receiving →
      u.aborting = none → s.unitErased a = true → s.integ.deadUnits.contains a = false → d.length = 16 → s.memOk → nextUnit c.data (k + 1) = none →
      s.completes .flashOpEnd fun t =>
        t.flash.run = none ∧ memBytes t.mem a 16 = d ∧ t.update.block = none ∧ t.update.status = 0 ∧
          t.update.bitmap = u.bitmap ||| (1 <<< (c.offset.toNat / 256)) ∧ ∀ b, b < a ∨ a + 16 ≤ b → memGet t.mem b = memGet s.mem b) ∧
    ((u.owner = .core ∨ u.owner = .host → u.state ≠ .activating → 300 ≤ u.quiet → s.completes .sessionTimeout fun t =>
        failed t 0x11 ∧ noted t ∧ t.mem = s.mem ∧ t.core = s.core) ∧
      (u.quiet < 300 → exec .sessionTimeout s = .next s)) ∧
    (∀ e : BitVec 48, s.drip.running = true →
      (u.activation = .atEdge e → e ≤ s.drip.count → s.completes .activationEdge fun t =>
        t.core.stopped = true ∧ t.update.activation = .restart (e + 6) ∧ t.update.state = .idle ∧ t.boot.appB = (u.target == 2) ∧
          t.lantern.confirmPending = true ∧ t.lantern.confirmLeft = 60 ∧ (t.cause.leaf[11]).getLsbD 2 = true) ∧
      (u.activation = .atEdge e → s.drip.count < e → exec .activationEdge s = .next s) ∧
      (u.activation = .restart e → e ≤ s.drip.count → s.core.stopped = true → s.completes .coreRestart fun t =>
        t.core.stopped = false ∧ t.update.activation = .none ∧ t.core.reg 3 = 1 ∧
          t.core.pc = word0 (slotBase s.boot.appSlot + (s.image s.boot.appSlot).entry)) ∧
      (u.activation = .link → s.quietEdge = true → s.link.reloadEdge = none → s.completes .linkReload fun t =>
        t.radio.use = .reload ∧ t.link.reloadEdge = some (s.drip.count + 16) ∧ (t.lane .a).stage = .off ∧ (t.lane .b).stage = .off ∧
          t.lantern.confirmLeft = 60 ∧ t.update = u ∧ t.boot = s.boot ∧ t.core = s.core ∧ t.mem = s.mem) ∧
      (u.activation = .link → s.quietEdge = false ∨ s.link.reloadEdge.isSome = true → exec .linkReload s = .next s) ∧
      (s.link.reloadEdge = some e →
        let t := s.reloadEdge
        let same := (bits (Config.ucode (s.section (s.image u.target) 0)) 0 16).toNat = (s.image u.target).ifgen
        (s.drip.count < e → t = s) ∧
        (e ≤ s.drip.count → u.activation = .link → same →
          t.update.state = .idle ∧ t.boot.linkB = (u.target == 3) ∧ t.lantern.confirmPending = true ∧ t.lantern.confirmLeft = s.lantern.confirmLeft ∧
            (t.cause.leaf[11]).getLsbD 2 = true ∧ t.radio.use = .receive ∧ t.link.reloadEdge = none) ∧
        (e ≤ s.drip.count → u.activation = .link → ¬same →
          failed t 0x12 ∧ noted t ∧ t.boot.linkB = s.boot.linkB ∧ t.link.reloadEdge = some (e + 16)) ∧
        (e ≤ s.drip.count → u.activation ≠ .link → t.update = u ∧ t.radio.use = .receive ∧ t.link.reloadEdge = none)))

-- The chain port

/-- For every state that serves its own, assigned address and every tag and cycle: a frame with another unit's address is not answered; one cut
off is answered with the status byte alone and counted, one with a wrong CRC with status, 0xE1 and reason 1, counted, CHAIN.CMD_ERR set.
HELLO records the host's generation; ASSIGN of 1 to 31 or 0 sets the address and CH_ENO, above 31 it answers BAD_ARG; SUMMARY answers the
group summary and views; READ answers a listed word with OK and an unlisted one with FAULT; FETCH gives the oldest response or NONE, and
again the last; FRAME_TAKE frees the frame taken, and takes the next with its check failure in the CRC, or answers NONE. Each answer is
status byte, 0xA5 and the response frame. A change of CH_ENI is passed to CH_ENO by an assigned, serving unit. An unassigned unit with
CH_ENI high takes ASSIGN at address 0 and sets CHAIN.ASSIGNED. (21_chain_port.md 2 to 6 (R809, R811 to R814, R816, R817, R820 to R822, R829,
R830, R834 to R836, R842)) -/
def Obligations.ImmediateChainOperationsAnswer : Prop :=
  ∀ (s : State) (tag : Byte) (phase : Fin 8000), s.chainServes = true →
    let c := s.chain
    let s1 := (s.atPhase phase).csnFalls
    let good (op : Byte) (addr : BitVec 6) (p : List Byte) : Option (BitVec 16) := some (crc16 (frameBytes addr op tag p))
    let keeps (t : State) : Prop := t.mem = s.mem ∧ t.core = s.core
    let answers (t : State) (op st : Byte) (p : List Byte) (poison : Bool) : Prop :=
      t.chain.answer = s.statusByte :: 0xA5#8 :: respFrame ⟨tag, op, st, p⟩ poison
    (∀ level : Bool, s.completes (.enumEnableChange level) fun t =>
      t.chain = { c with eni := level, eno := c.addr != 0 && level } ∧ keeps t ∧ t.cause = s.cause) ∧
    (∀ n : Byte, c.addr = 0 → c.eni = true → n ≠ 0 → n.toNat ≤ 31 → s.completes (.assign 0 tag [n] (good 0x02 0 [n]) phase) fun t =>
      t.chain.addr.toNat = n.toNat ∧ t.chain.eno = true ∧ (t.cause.leaf[10]).getLsbD 3 = true ∧ keeps t) ∧
    (c.addr ≠ 0 → c.addr ≠ 63 →
      let own := c.addr
      (∀ (p : List Byte) (a : BitVec 6) (x : Option (BitVec 16)), a ≠ own → a ≠ 63 → ∀ i ∈ ([.hello a tag p x phase, .assign a tag p x phase,
          .summary a tag p x phase, .read a tag p x phase, .fetch a tag p x phase, .frameTake a tag p x phase] : List Instr),
        exec i s = .next { s1 with chain.answer := [] }) ∧
      (∀ p : List Byte,
        (s.completes (.read own tag p none phase) fun t =>
          t.chain = { c with answer := [s.statusByte], errOther := satInc c.errOther } ∧ (t.cause.leaf[10]).getLsbD 2 = true ∧ keeps t) ∧
        (∀ x, p.length ≤ 260 → x ≠ crc16 (frameBytes own 0x04 tag p) → s.completes (.read own tag p (some x) phase) fun t =>
          t.chain = { c with answer := [s.statusByte, 0xE1, 1], errCrc := satInc c.errCrc } ∧ (t.cause.leaf[10]).getLsbD 2 = true ∧ keeps t)) ∧
      (∀ a b : Byte, s.completes (.hello own tag [a, b] (good 0x01 own [a, b]) phase) fun t =>
        t.chain.hostMajor = a ∧ t.chain.hostMinor = b ∧ answers t 0x01 0x00 (s.identBytes (own.setWidth 8) s.statusByte) false ∧ keeps t) ∧
      (∀ n : Byte,
        (n.toNat ≤ 31 → s.completes (.assign own tag [n] (good 0x02 own [n]) phase) fun t =>
          t.chain.addr.toNat = n.toNat ∧ t.chain.eno = (decide (n ≠ 0) && c.eni) ∧ keeps t ∧
            answers t 0x02 0x00 (s.identBytes n (s.lantern.cause.code.setWidth 8)) false) ∧
        (31 < n.toNat → s.completes (.assign own tag [n] (good 0x02 own [n]) phase) fun t =>
          t.chain.addr = own ∧ answers t 0x02 0x03 [] false ∧ keeps t)) ∧
      (c.hostMajor = 1 →
        (s.completes (.summary own tag [] (good 0x03 own []) phase) fun t =>
          answers t 0x03 0x00 (wordBytes s.cause.hostSummary ++ wordsToBytes s.cause.view.toList ++ [0, 0, 0, 0]) false ∧ keeps t ∧ t.cause = s.cause) ∧
        (∀ n : BitVec 16,
          let p := leBytes 2 n.toNat ++ [1, 0]
          n.toNat % 4 = 0 → s.completes (.read own tag p (good 0x04 own p) phase) fun t =>
            (∀ w, s1.windowRead n.toNat = some w → answers t 0x04 0x00 (wordsToBytes [w]) false) ∧
              (s1.windowRead n.toNat = none → answers t 0x04 0x0A (wordsToBytes [0]) false) ∧ keeps t) ∧
        (∀ f : Byte,
          let g := good 0x21 own [f]
          (f.getLsbD 0 = false → f.getLsbD 1 = true → s.completes (.frameTake own tag [f] g phase) fun t =>
            answers t 0x21 0x00 [] false ∧ t.chain.taken = [] ∧ (∀ n ∈ c.taken, t.link.ownerOf n = .free) ∧ keeps t) ∧
          (f.getLsbD 0 = false → f.getLsbD 1 = false → c.takeQueue = [] → s.completes (.frameTake own tag [f] g phase) fun t =>
            answers t 0x21 0x09 [] false ∧ t.chain.taken = [] ∧ keeps t) ∧
          (∀ (n : Fin 128) (rest : List Nat), f.getLsbD 0 = false → f.getLsbD 1 = false → c.takeQueue = n.val :: rest → c.taken = [] →
            s.link.ownerOf n = .chain → byteAt (s.lineBytes n) 24 = 0xFF → byteAt (s.lineBytes n) 25 = 0xFF → natAt (s.lineBytes n) 26 2 ≤ 96 →
            s.completes (.frameTake own tag [f] g phase) fun t =>
              answers t 0x21 0x00 ((s.lineBytes n).take (32 + natAt (s.lineBytes n) 26 2)) (!s.lineGood n) ∧
                t.chain.takeQueue = rest ∧ t.chain.taken = [n.val] ∧ (s.lineGood n = false → (t.cause.leaf[10]).getLsbD 4 = true) ∧ keeps t))) ∧
      (∀ f : Byte,
        let g := good 0x07 own [f]
        (∀ r rs, f.getLsbD 0 = false → c.ready = r :: rs → s.completes (.fetch own tag [f] g phase) fun t =>
          t.chain.answer = s.statusByte :: 0xA5#8 :: respFrame r false ∧ t.chain.ready = rs ∧ t.chain.last = some r ∧ keeps t) ∧
        (f.getLsbD 0 = false → c.ready = [] → s.completes (.fetch own tag [f] g phase) fun t =>
          answers t 0x07 0x09 [BitVec.ofNat 8 c.outstanding] false ∧ t.chain.last = none ∧ keeps t) ∧
        (∀ r, f.getLsbD 0 = true → c.last = some r → s.completes (.fetch own tag [f] g phase) fun t =>
          t.chain.answer = s.statusByte :: 0xA5#8 :: respFrame r false ∧ t.chain.ready = c.ready ∧ t.chain.last = some r ∧ keeps t)))

/-- For every state that serves its own, assigned address with a host of generation 1, and every queued operation with a good frame: with 8
commands outstanding it is rejected and counted as QFULL, with its tag in use as TAG_DUP, each with CHAIN.CMD_ERR and nothing else. With no
command waiting and a fresh tag the answer is the status byte, and: WRITE, CLEAR, the UPDATE operations and LANTERN SUBMIT, of the right lengths
and arguments, wait for the coming transfer, in the order of their acceptance; LANTERN RESULT and the DEBUG operations have their response at
once, DENIED while DEBUG is closed; MEM_WRITE of an SRAM word has stored it and no other byte, of a link or Lantern register waits as a host write
for the transfer. FRAME_SEND takes the highest run of FREE lines, stores its bytes there and nowhere else, and runs with its descriptor in the
lowest FREE host slot; without such a slot it frees them with QUEUE_FULL; with transmission disabled it has DISABLED, with no run of FREE lines
NO_LINE. An unlisted operation has UNSUPPORTED, and one of a wrong length BAD_LEN. RESET_UNIT with its two bytes resets the device with cause
RESET_UNIT, with others it is counted. (21_chain_port.md 4 to 7 (R815, R819, R827, R828, R831 to R833, R837 to R840, R843 to R845); R729) -/
def Obligations.QueuedChainOperationsAreAccepted : Prop :=
  ∀ (s : State) (tag : Byte) (phase : Fin 8000), s.chainServes = true → s.chain.addr ≠ 0 → s.chain.addr ≠ 63 → s.chain.hostMajor = 1 →
    let c := s.chain
    let own := c.addr
    let good (op : Byte) (p : List Byte) : Option (BitVec 16) := some (crc16 (frameBytes own op tag p))
    let keeps (t : State) : Prop := t.mem = s.mem ∧ t.core = s.core ∧ t.update = s.update ∧ t.chain.answer = [s.statusByte]
    let ops (p : List Byte) : List Instr :=
      [.write own tag p (good 0x05 p) phase, .clear own tag p (good 0x06 p) phase, .updateOpen own tag p (good 0x10 p) phase,
        .updateBlock own tag p (good 0x11 p) phase, .updateClose own tag p (good 0x12 p) phase, .updateActivate own tag p (good 0x13 p) phase,
        .frameSend own tag p (good 0x20 p) phase, .lanternSubmit own tag p (good 0x30 (1 :: p)) phase,
        .lanternResult own tag p (good 0x30 (2 :: p)) phase, .memRead own tag p (good 0x38 (1 :: p)) phase,
        .memWrite own tag p (good 0x38 (2 :: p)) phase, .resetUnit own tag p (good 0x3F p) phase]
    (∀ p : List Byte, p.length < 260 → ∀ i ∈ ops p,
      (8 ≤ c.outstanding → s.completes i fun t =>
        t.chain = { c with answer := [s.statusByte], errQfull := satInc c.errQfull } ∧ (t.cause.leaf[10]).getLsbD 2 = true ∧ keeps t) ∧
      (c.outstanding < 8 → c.tagUsed tag = true → s.completes i fun t =>
        t.chain = { c with answer := [s.statusByte], errDup := satInc c.errDup } ∧ (t.cause.leaf[10]).getLsbD 2 = true ∧ keeps t)) ∧
    (c.waiting = [] → c.ready.length < 8 → c.tagUsed tag = false →
      let late := (s.atPhase phase).isLate
      let waits (i : Instr) (op : Byte) (p : List Byte) : Prop := s.completes i fun t =>
        t.chain.waiting = [⟨op, tag, p, false, none, [], .accepted, late⟩] ∧ t.chain.ready = c.ready ∧ t.link = s.link ∧ t.cause = s.cause ∧ keeps t
      let has (i : Instr) (op st : Byte) (p : List Byte) : Prop := s.completes i fun t =>
        t.chain.waiting = [] ∧ t.chain.ready = c.ready ++ [⟨tag, op, st, p⟩] ∧ (t.cause.leaf[10]).getLsbD 1 = true ∧ keeps t
      (∀ (a : BitVec 16) (w : Word), a.toNat % 4 = 0 →
        waits (.write own tag (leBytes 2 a.toNat ++ [1, 0] ++ wordBytes w) (good 0x05 (leBytes 2 a.toNat ++ [1, 0] ++ wordBytes w)) phase) 0x05
          (leBytes 2 a.toNat ++ [1, 0] ++ wordBytes w)) ∧
      (∀ p : List Byte,
        (p.length = 8 → (byteAt p 0).toNat < 15 ∨ byteAt p 0 = 0xFF → waits (.clear own tag p (good 0x06 p) phase) 0x06 p) ∧
        (p.length = 4 → waits (.updateOpen own tag p (good 0x10 p) phase) 0x10 p ∧ waits (.updateClose own tag p (good 0x12 p) phase) 0x12 p) ∧
        (p.length = 260 → waits (.updateBlock own tag p (good 0x11 p) phase) 0x11 p) ∧
        (p = [] → waits (.updateActivate own tag p (good 0x13 p) phase) 0x13 p) ∧
        (19 ≤ p.length → p.length < 260 → waits (.lanternSubmit own tag p (good 0x30 (1 :: p)) phase) 0x30 (1 :: p)) ∧
        (p.length = 3 → has (.lanternResult own tag p (good 0x30 (2 :: p)) phase) 0x30 0x00 s.lantern.host.resultBytes) ∧
        (p.length = 7 → s.debugOpen = false → has (.memRead own tag p (good 0x38 (1 :: p)) phase) 0x38 0x04 []) ∧
        (p.length = 7 → s.debugOpen = true → byteAt p 0 = 1 → natAt p 3 4 % 4 = 0 → regionOf (natAt p 3 4) = .sram →
          has (.memRead own tag p (good 0x38 (1 :: p)) phase) 0x38 0x00 (wordsToBytes [s.rawLoad (natAt p 3 4) 4])) ∧
        (p.length = 7 + 4 * (byteAt p 0).toNat → p.length < 260 → s.debugOpen = false →
          has (.memWrite own tag p (good 0x38 (2 :: p)) phase) 0x38 0x04 []) ∧
        (p.length = 11 → s.debugOpen = true → byteAt p 0 = 1 → natAt p 3 4 % 4 = 0 →
          let a := natAt p 3 4
          let stored (f : State → Prop) : Prop := s.completes (.memWrite own tag p (good 0x38 (2 :: p)) phase) fun t =>
            t.chain.waiting = [] ∧ t.chain.ready = c.ready ++ [⟨tag, 0x38, 0x00, []⟩] ∧ (t.cause.leaf[10]).getLsbD 1 = true ∧ t.core = s.core ∧ f t
          (regionOf a = .sram → s.memOk → stored fun t =>
            memBytes t.mem a 4 = p.drop 7 ∧ ∀ b, b < a ∨ a + 4 ≤ b → memGet t.mem b = memGet s.mem b) ∧
          (regionOf a = .io → s.ioExists a = true → late = false → stored fun t => t.hostWrites = s.hostWrites ++ [⟨a, wordAt p 7⟩] ∧ t.mem = s.mem)) ∧
        (19 ≤ p.length → p.length ≤ 260 →
          (∀ ns, s.link.txEn = true → s.link.freeRun ((p.length - 8 + 127) / 128) = some ns →
            let i : Instr := .frameSend own tag p (good 0x20 p) phase
            let slots := (List.finRange 16).filter fun n => s.link.hostRange n && (s.job n).state == .free
            (∀ n rest, slots = n :: rest → s.memOk → s.completes i fun t =>
              t.chain.waiting = [⟨0x20, tag, p, false, none, ns, .running, late⟩] ∧ t.chain.ready = c.ready ∧
                (t.job n).desc = s.sendDesc p (ns.headD 0) tag ∧ memBytes t.mem (lineBase (ns.headD 0)) (p.length - 8) = p.drop 8 ∧
                (∀ b, (∀ x ∈ ns, b < lineBase x ∨ lineBase x + 128 ≤ b) → memGet t.mem b = memGet s.mem b) ∧
                t.core = s.core ∧ t.update = s.update ∧ t.chain.answer = [s.statusByte]) ∧
            (slots = [] → s.completes i fun t =>
              t.chain.waiting = [] ∧ t.chain.ready = c.ready ++ [⟨tag, 0x20, 0x07, []⟩] ∧ (t.cause.leaf[10]).getLsbD 1 = true ∧
                (∀ x ∈ ns, t.link.ownerOf x = .free) ∧ t.core = s.core ∧ t.update = s.update)) ∧
          (s.link.txEn = false → has (.frameSend own tag p (good 0x20 p) phase) 0x20 0x06 []) ∧
          (s.link.txEn = true → s.link.freeRun ((p.length - 8 + 127) / 128) = none → has (.frameSend own tag p (good 0x20 p) phase) 0x20 0x08 [])) ∧
        (∀ op : Byte, p.length ≤ 260 → chainListed.contains op.toNat = false →
          has (.unsupportedOp op own tag p (good op p) phase) op 0x01 []) ∧
        (p.length ≠ 8 → p.length ≤ 260 → has (.clear own tag p (good 0x06 p) phase) 0x06 0x02 []) ∧
        (p = [0xC3#8, 0x5A#8] → s.completes (.resetUnit own tag p (good 0x3F p) phase) fun t =>
          t.lantern.cause = .resetUnit ∧ t.power.hold = .crystal ∧ t.core = State.reset.core) ∧
        (p.length ≤ 260 → p ≠ [0xC3#8, 0x5A#8] → s.completes (.resetUnit own tag p (good 0x3F p) phase) fun t =>
          t.chain.errOther = satInc c.errOther ∧ keeps t)))
end

