-- ==== Sys2Proof/Laws/State.lean ====
section
/-!
SUPPORT. What the shared updates of the state leave alone: one lemma per update and field.
-/
namespace Sys2Proof.Machine

@[simp] theorem State.setLeaf_drip (s : State) (l : Leaf) : (s.setLeaf l).drip = s.drip := rfl
@[simp] theorem State.setLeaf_power (s : State) (l : Leaf) : (s.setLeaf l).power = s.power := rfl
@[simp] theorem State.setLeaf_radio (s : State) (l : Leaf) : (s.setLeaf l).radio = s.radio := rfl
@[simp] theorem State.setLeaf_link (s : State) (l : Leaf) : (s.setLeaf l).link = s.link := rfl
@[simp] theorem State.setLeaf_mesh (s : State) (l : Leaf) : (s.setLeaf l).mesh = s.mesh := rfl
@[simp] theorem State.setLeaf_integ (s : State) (l : Leaf) : (s.setLeaf l).integ = s.integ := rfl
@[simp] theorem State.setLeaf_chain (s : State) (l : Leaf) : (s.setLeaf l).chain = s.chain := rfl
@[simp] theorem State.setLeaf_key (s : State) (l : Leaf) : (s.setLeaf l).key = s.key := rfl
@[simp] theorem State.setLeaf_conduit (s : State) (l : Leaf) : (s.setLeaf l).conduit = s.conduit := rfl
@[simp] theorem State.setLeaf_periph (s : State) (l : Leaf) : (s.setLeaf l).periph = s.periph := rfl
@[simp] theorem State.setLeaf_flash (s : State) (l : Leaf) : (s.setLeaf l).flash = s.flash := rfl
@[simp] theorem State.setLeaf_lantern (s : State) (l : Leaf) : (s.setLeaf l).lantern = s.lantern := rfl
@[simp] theorem State.setLeaf_boot (s : State) (l : Leaf) : (s.setLeaf l).boot = s.boot := rfl
@[simp] theorem State.setLeaf_update (s : State) (l : Leaf) : (s.setLeaf l).update = s.update := rfl
@[simp] theorem State.setLeaf_seen (s : State) (l : Leaf) : (s.setLeaf l).seen = s.seen := rfl
@[simp] theorem State.setLeaf_core (s : State) (l : Leaf) : (s.setLeaf l).core = s.core := rfl
@[simp] theorem State.setLeaf_mem (s : State) (l : Leaf) : (s.setLeaf l).mem = s.mem := rfl
@[simp] theorem State.setLeaf_coreWrites (s : State) (l : Leaf) : (s.setLeaf l).coreWrites = s.coreWrites := rfl
@[simp] theorem State.setLeaf_coreWritesLate (s : State) (l : Leaf) : (s.setLeaf l).coreWritesLate = s.coreWritesLate := rfl
@[simp] theorem State.setLeaf_hostWrites (s : State) (l : Leaf) : (s.setLeaf l).hostWrites = s.hostWrites := rfl
@[simp] theorem State.setLeaf_hostWritesLate (s : State) (l : Leaf) : (s.setLeaf l).hostWritesLate = s.hostWritesLate := rfl
@[simp] theorem State.setLeaf_coreRemovals (s : State) (l : Leaf) : (s.setLeaf l).coreRemovals = s.coreRemovals := rfl
@[simp] theorem State.setLeaf_coreRemovalsLate (s : State) (l : Leaf) : (s.setLeaf l).coreRemovalsLate = s.coreRemovalsLate := rfl
@[simp] theorem State.setLeaf_hostRemovals (s : State) (l : Leaf) : (s.setLeaf l).hostRemovals = s.hostRemovals := rfl
@[simp] theorem State.setLeaf_hostRemovalsLate (s : State) (l : Leaf) : (s.setLeaf l).hostRemovalsLate = s.hostRemovalsLate := rfl
@[simp] theorem State.setLeaf_free (s : State) (l : Leaf) : (s.setLeaf l).free = s.free := rfl
@[simp] theorem State.setLeaf_pending (s : State) (l : Leaf) : (s.setLeaf l).pending = s.pending := rfl
@[simp] theorem State.setLeaf_seenDsStat (s : State) (l : Leaf) : (s.setLeaf l).seenDsStat = s.seenDsStat := rfl
@[simp] theorem State.setLeaf_crossing (s : State) (l : Leaf) : (s.setLeaf l).crossing = s.crossing := rfl

@[simp] theorem State.setLeafIf_drip (s : State) (b : Bool) (l : Leaf) : (s.setLeafIf b l).drip = s.drip := by cases b <;> rfl
@[simp] theorem State.setLeafIf_power (s : State) (b : Bool) (l : Leaf) : (s.setLeafIf b l).power = s.power := by cases b <;> rfl
@[simp] theorem State.setLeafIf_radio (s : State) (b : Bool) (l : Leaf) : (s.setLeafIf b l).radio = s.radio := by cases b <;> rfl
@[simp] theorem State.setLeafIf_link (s : State) (b : Bool) (l : Leaf) : (s.setLeafIf b l).link = s.link := by cases b <;> rfl
@[simp] theorem State.setLeafIf_mesh (s : State) (b : Bool) (l : Leaf) : (s.setLeafIf b l).mesh = s.mesh := by cases b <;> rfl
@[simp] theorem State.setLeafIf_integ (s : State) (b : Bool) (l : Leaf) : (s.setLeafIf b l).integ = s.integ := by cases b <;> rfl
@[simp] theorem State.setLeafIf_chain (s : State) (b : Bool) (l : Leaf) : (s.setLeafIf b l).chain = s.chain := by cases b <;> rfl
@[simp] theorem State.setLeafIf_key (s : State) (b : Bool) (l : Leaf) : (s.setLeafIf b l).key = s.key := by cases b <;> rfl
@[simp] theorem State.setLeafIf_conduit (s : State) (b : Bool) (l : Leaf) : (s.setLeafIf b l).conduit = s.conduit := by cases b <;> rfl
@[simp] theorem State.setLeafIf_periph (s : State) (b : Bool) (l : Leaf) : (s.setLeafIf b l).periph = s.periph := by cases b <;> rfl
@[simp] theorem State.setLeafIf_flash (s : State) (b : Bool) (l : Leaf) : (s.setLeafIf b l).flash = s.flash := by cases b <;> rfl
@[simp] theorem State.setLeafIf_lantern (s : State) (b : Bool) (l : Leaf) : (s.setLeafIf b l).lantern = s.lantern := by cases b <;> rfl
@[simp] theorem State.setLeafIf_boot (s : State) (b : Bool) (l : Leaf) : (s.setLeafIf b l).boot = s.boot := by cases b <;> rfl
@[simp] theorem State.setLeafIf_update (s : State) (b : Bool) (l : Leaf) : (s.setLeafIf b l).update = s.update := by cases b <;> rfl
@[simp] theorem State.setLeafIf_seen (s : State) (b : Bool) (l : Leaf) : (s.setLeafIf b l).seen = s.seen := by cases b <;> rfl
@[simp] theorem State.setLeafIf_core (s : State) (b : Bool) (l : Leaf) : (s.setLeafIf b l).core = s.core := by cases b <;> rfl
@[simp] theorem State.setLeafIf_mem (s : State) (b : Bool) (l : Leaf) : (s.setLeafIf b l).mem = s.mem := by cases b <;> rfl
@[simp] theorem State.setLeafIf_coreWrites (s : State) (b : Bool) (l : Leaf) : (s.setLeafIf b l).coreWrites = s.coreWrites := by cases b <;> rfl
@[simp] theorem State.setLeafIf_coreWritesLate (s : State) (b : Bool) (l : Leaf) : (s.setLeafIf b l).coreWritesLate = s.coreWritesLate := by cases b <;> rfl
@[simp] theorem State.setLeafIf_hostWrites (s : State) (b : Bool) (l : Leaf) : (s.setLeafIf b l).hostWrites = s.hostWrites := by cases b <;> rfl
@[simp] theorem State.setLeafIf_hostWritesLate (s : State) (b : Bool) (l : Leaf) : (s.setLeafIf b l).hostWritesLate = s.hostWritesLate := by cases b <;> rfl
@[simp] theorem State.setLeafIf_coreRemovals (s : State) (b : Bool) (l : Leaf) : (s.setLeafIf b l).coreRemovals = s.coreRemovals := by cases b <;> rfl
@[simp] theorem State.setLeafIf_coreRemovalsLate (s : State) (b : Bool) (l : Leaf) : (s.setLeafIf b l).coreRemovalsLate = s.coreRemovalsLate := by cases b <;> rfl
@[simp] theorem State.setLeafIf_hostRemovals (s : State) (b : Bool) (l : Leaf) : (s.setLeafIf b l).hostRemovals = s.hostRemovals := by cases b <;> rfl
@[simp] theorem State.setLeafIf_hostRemovalsLate (s : State) (b : Bool) (l : Leaf) : (s.setLeafIf b l).hostRemovalsLate = s.hostRemovalsLate := by cases b <;> rfl
@[simp] theorem State.setLeafIf_free (s : State) (b : Bool) (l : Leaf) : (s.setLeafIf b l).free = s.free := by cases b <;> rfl
@[simp] theorem State.setLeafIf_pending (s : State) (b : Bool) (l : Leaf) : (s.setLeafIf b l).pending = s.pending := by cases b <;> rfl
@[simp] theorem State.setLeafIf_seenDsStat (s : State) (b : Bool) (l : Leaf) : (s.setLeafIf b l).seenDsStat = s.seenDsStat := by cases b <;> rfl
@[simp] theorem State.setLeafIf_crossing (s : State) (b : Bool) (l : Leaf) : (s.setLeafIf b l).crossing = s.crossing := by cases b <;> rfl

@[simp] theorem State.pulse_drip (s : State) (p : Nat) : (s.pulse p).drip = s.drip := by unfold State.pulse; split <;> rfl
@[simp] theorem State.pulse_power (s : State) (p : Nat) : (s.pulse p).power = s.power := by unfold State.pulse; split <;> rfl
@[simp] theorem State.pulse_cause (s : State) (p : Nat) : (s.pulse p).cause = s.cause := by unfold State.pulse; split <;> rfl
@[simp] theorem State.pulse_radio (s : State) (p : Nat) : (s.pulse p).radio = s.radio := by unfold State.pulse; split <;> rfl
@[simp] theorem State.pulse_link (s : State) (p : Nat) : (s.pulse p).link = s.link := by unfold State.pulse; split <;> rfl
@[simp] theorem State.pulse_mesh (s : State) (p : Nat) : (s.pulse p).mesh = s.mesh := by unfold State.pulse; split <;> rfl
@[simp] theorem State.pulse_integ (s : State) (p : Nat) : (s.pulse p).integ = s.integ := by unfold State.pulse; split <;> rfl
@[simp] theorem State.pulse_chain (s : State) (p : Nat) : (s.pulse p).chain = s.chain := by unfold State.pulse; split <;> rfl
@[simp] theorem State.pulse_key (s : State) (p : Nat) : (s.pulse p).key = s.key := by unfold State.pulse; split <;> rfl
@[simp] theorem State.pulse_periph (s : State) (p : Nat) : (s.pulse p).periph = s.periph := by unfold State.pulse; split <;> rfl
@[simp] theorem State.pulse_flash (s : State) (p : Nat) : (s.pulse p).flash = s.flash := by unfold State.pulse; split <;> rfl
@[simp] theorem State.pulse_lantern (s : State) (p : Nat) : (s.pulse p).lantern = s.lantern := by unfold State.pulse; split <;> rfl
@[simp] theorem State.pulse_boot (s : State) (p : Nat) : (s.pulse p).boot = s.boot := by unfold State.pulse; split <;> rfl
@[simp] theorem State.pulse_update (s : State) (p : Nat) : (s.pulse p).update = s.update := by unfold State.pulse; split <;> rfl
@[simp] theorem State.pulse_seen (s : State) (p : Nat) : (s.pulse p).seen = s.seen := by unfold State.pulse; split <;> rfl
@[simp] theorem State.pulse_core (s : State) (p : Nat) : (s.pulse p).core = s.core := by unfold State.pulse; split <;> rfl
@[simp] theorem State.pulse_mem (s : State) (p : Nat) : (s.pulse p).mem = s.mem := by unfold State.pulse; split <;> rfl
@[simp] theorem State.pulse_coreWrites (s : State) (p : Nat) : (s.pulse p).coreWrites = s.coreWrites := by unfold State.pulse; split <;> rfl
@[simp] theorem State.pulse_coreWritesLate (s : State) (p : Nat) : (s.pulse p).coreWritesLate = s.coreWritesLate := by unfold State.pulse; split <;> rfl
@[simp] theorem State.pulse_hostWrites (s : State) (p : Nat) : (s.pulse p).hostWrites = s.hostWrites := by unfold State.pulse; split <;> rfl
@[simp] theorem State.pulse_hostWritesLate (s : State) (p : Nat) : (s.pulse p).hostWritesLate = s.hostWritesLate := by unfold State.pulse; split <;> rfl
@[simp] theorem State.pulse_coreRemovals (s : State) (p : Nat) : (s.pulse p).coreRemovals = s.coreRemovals := by unfold State.pulse; split <;> rfl
@[simp] theorem State.pulse_coreRemovalsLate (s : State) (p : Nat) : (s.pulse p).coreRemovalsLate = s.coreRemovalsLate := by unfold State.pulse; split <;> rfl
@[simp] theorem State.pulse_hostRemovals (s : State) (p : Nat) : (s.pulse p).hostRemovals = s.hostRemovals := by unfold State.pulse; split <;> rfl
@[simp] theorem State.pulse_hostRemovalsLate (s : State) (p : Nat) : (s.pulse p).hostRemovalsLate = s.hostRemovalsLate := by unfold State.pulse; split <;> rfl
@[simp] theorem State.pulse_free (s : State) (p : Nat) : (s.pulse p).free = s.free := by unfold State.pulse; split <;> rfl
@[simp] theorem State.pulse_pending (s : State) (p : Nat) : (s.pulse p).pending = s.pending := by unfold State.pulse; split <;> rfl
@[simp] theorem State.pulse_seenDsStat (s : State) (p : Nat) : (s.pulse p).seenDsStat = s.seenDsStat := by unfold State.pulse; split <;> rfl
@[simp] theorem State.pulse_crossing (s : State) (p : Nat) : (s.pulse p).crossing = s.crossing := by unfold State.pulse; split <;> rfl

@[simp] theorem State.pulseIf_drip (s : State) (b : Bool) (p : Nat) : (s.pulseIf b p).drip = s.drip := by cases b <;> simp [State.pulseIf]
@[simp] theorem State.pulseIf_power (s : State) (b : Bool) (p : Nat) : (s.pulseIf b p).power = s.power := by cases b <;> simp [State.pulseIf]
@[simp] theorem State.pulseIf_cause (s : State) (b : Bool) (p : Nat) : (s.pulseIf b p).cause = s.cause := by cases b <;> simp [State.pulseIf]
@[simp] theorem State.pulseIf_radio (s : State) (b : Bool) (p : Nat) : (s.pulseIf b p).radio = s.radio := by cases b <;> simp [State.pulseIf]
@[simp] theorem State.pulseIf_link (s : State) (b : Bool) (p : Nat) : (s.pulseIf b p).link = s.link := by cases b <;> simp [State.pulseIf]
@[simp] theorem State.pulseIf_mesh (s : State) (b : Bool) (p : Nat) : (s.pulseIf b p).mesh = s.mesh := by cases b <;> simp [State.pulseIf]
@[simp] theorem State.pulseIf_integ (s : State) (b : Bool) (p : Nat) : (s.pulseIf b p).integ = s.integ := by cases b <;> simp [State.pulseIf]
@[simp] theorem State.pulseIf_chain (s : State) (b : Bool) (p : Nat) : (s.pulseIf b p).chain = s.chain := by cases b <;> simp [State.pulseIf]
@[simp] theorem State.pulseIf_key (s : State) (b : Bool) (p : Nat) : (s.pulseIf b p).key = s.key := by cases b <;> simp [State.pulseIf]
@[simp] theorem State.pulseIf_periph (s : State) (b : Bool) (p : Nat) : (s.pulseIf b p).periph = s.periph := by cases b <;> simp [State.pulseIf]
@[simp] theorem State.pulseIf_flash (s : State) (b : Bool) (p : Nat) : (s.pulseIf b p).flash = s.flash := by cases b <;> simp [State.pulseIf]
@[simp] theorem State.pulseIf_lantern (s : State) (b : Bool) (p : Nat) : (s.pulseIf b p).lantern = s.lantern := by cases b <;> simp [State.pulseIf]
@[simp] theorem State.pulseIf_boot (s : State) (b : Bool) (p : Nat) : (s.pulseIf b p).boot = s.boot := by cases b <;> simp [State.pulseIf]
@[simp] theorem State.pulseIf_update (s : State) (b : Bool) (p : Nat) : (s.pulseIf b p).update = s.update := by cases b <;> simp [State.pulseIf]
@[simp] theorem State.pulseIf_seen (s : State) (b : Bool) (p : Nat) : (s.pulseIf b p).seen = s.seen := by cases b <;> simp [State.pulseIf]
@[simp] theorem State.pulseIf_core (s : State) (b : Bool) (p : Nat) : (s.pulseIf b p).core = s.core := by cases b <;> simp [State.pulseIf]
@[simp] theorem State.pulseIf_mem (s : State) (b : Bool) (p : Nat) : (s.pulseIf b p).mem = s.mem := by cases b <;> simp [State.pulseIf]
@[simp] theorem State.pulseIf_coreWrites (s : State) (b : Bool) (p : Nat) : (s.pulseIf b p).coreWrites = s.coreWrites := by cases b <;> simp [State.pulseIf]
@[simp] theorem State.pulseIf_coreWritesLate (s : State) (b : Bool) (p : Nat) : (s.pulseIf b p).coreWritesLate = s.coreWritesLate := by cases b <;> simp [State.pulseIf]
@[simp] theorem State.pulseIf_hostWrites (s : State) (b : Bool) (p : Nat) : (s.pulseIf b p).hostWrites = s.hostWrites := by cases b <;> simp [State.pulseIf]
@[simp] theorem State.pulseIf_hostWritesLate (s : State) (b : Bool) (p : Nat) : (s.pulseIf b p).hostWritesLate = s.hostWritesLate := by cases b <;> simp [State.pulseIf]
@[simp] theorem State.pulseIf_coreRemovals (s : State) (b : Bool) (p : Nat) : (s.pulseIf b p).coreRemovals = s.coreRemovals := by cases b <;> simp [State.pulseIf]
@[simp] theorem State.pulseIf_coreRemovalsLate (s : State) (b : Bool) (p : Nat) : (s.pulseIf b p).coreRemovalsLate = s.coreRemovalsLate := by cases b <;> simp [State.pulseIf]
@[simp] theorem State.pulseIf_hostRemovals (s : State) (b : Bool) (p : Nat) : (s.pulseIf b p).hostRemovals = s.hostRemovals := by cases b <;> simp [State.pulseIf]
@[simp] theorem State.pulseIf_hostRemovalsLate (s : State) (b : Bool) (p : Nat) : (s.pulseIf b p).hostRemovalsLate = s.hostRemovalsLate := by cases b <;> simp [State.pulseIf]
@[simp] theorem State.pulseIf_free (s : State) (b : Bool) (p : Nat) : (s.pulseIf b p).free = s.free := by cases b <;> simp [State.pulseIf]
@[simp] theorem State.pulseIf_pending (s : State) (b : Bool) (p : Nat) : (s.pulseIf b p).pending = s.pending := by cases b <;> simp [State.pulseIf]
@[simp] theorem State.pulseIf_seenDsStat (s : State) (b : Bool) (p : Nat) : (s.pulseIf b p).seenDsStat = s.seenDsStat := by cases b <;> simp [State.pulseIf]
@[simp] theorem State.pulseIf_crossing (s : State) (b : Bool) (p : Nat) : (s.pulseIf b p).crossing = s.crossing := by cases b <;> simp [State.pulseIf]

@[simp] theorem State.atPhase_power (s : State) (p : Nat) : (s.atPhase p).power = s.power := rfl
@[simp] theorem State.atPhase_cause (s : State) (p : Nat) : (s.atPhase p).cause = s.cause := rfl
@[simp] theorem State.atPhase_radio (s : State) (p : Nat) : (s.atPhase p).radio = s.radio := rfl
@[simp] theorem State.atPhase_link (s : State) (p : Nat) : (s.atPhase p).link = s.link := rfl
@[simp] theorem State.atPhase_mesh (s : State) (p : Nat) : (s.atPhase p).mesh = s.mesh := rfl
@[simp] theorem State.atPhase_integ (s : State) (p : Nat) : (s.atPhase p).integ = s.integ := rfl
@[simp] theorem State.atPhase_chain (s : State) (p : Nat) : (s.atPhase p).chain = s.chain := rfl
@[simp] theorem State.atPhase_key (s : State) (p : Nat) : (s.atPhase p).key = s.key := rfl
@[simp] theorem State.atPhase_conduit (s : State) (p : Nat) : (s.atPhase p).conduit = s.conduit := rfl
@[simp] theorem State.atPhase_periph (s : State) (p : Nat) : (s.atPhase p).periph = s.periph := rfl
@[simp] theorem State.atPhase_flash (s : State) (p : Nat) : (s.atPhase p).flash = s.flash := rfl
@[simp] theorem State.atPhase_lantern (s : State) (p : Nat) : (s.atPhase p).lantern = s.lantern := rfl
@[simp] theorem State.atPhase_boot (s : State) (p : Nat) : (s.atPhase p).boot = s.boot := rfl
@[simp] theorem State.atPhase_update (s : State) (p : Nat) : (s.atPhase p).update = s.update := rfl
@[simp] theorem State.atPhase_seen (s : State) (p : Nat) : (s.atPhase p).seen = s.seen := rfl
@[simp] theorem State.atPhase_core (s : State) (p : Nat) : (s.atPhase p).core = s.core := rfl
@[simp] theorem State.atPhase_mem (s : State) (p : Nat) : (s.atPhase p).mem = s.mem := rfl
@[simp] theorem State.atPhase_coreWrites (s : State) (p : Nat) : (s.atPhase p).coreWrites = s.coreWrites := rfl
@[simp] theorem State.atPhase_coreWritesLate (s : State) (p : Nat) : (s.atPhase p).coreWritesLate = s.coreWritesLate := rfl
@[simp] theorem State.atPhase_hostWrites (s : State) (p : Nat) : (s.atPhase p).hostWrites = s.hostWrites := rfl
@[simp] theorem State.atPhase_hostWritesLate (s : State) (p : Nat) : (s.atPhase p).hostWritesLate = s.hostWritesLate := rfl
@[simp] theorem State.atPhase_coreRemovals (s : State) (p : Nat) : (s.atPhase p).coreRemovals = s.coreRemovals := rfl
@[simp] theorem State.atPhase_coreRemovalsLate (s : State) (p : Nat) : (s.atPhase p).coreRemovalsLate = s.coreRemovalsLate := rfl
@[simp] theorem State.atPhase_hostRemovals (s : State) (p : Nat) : (s.atPhase p).hostRemovals = s.hostRemovals := rfl
@[simp] theorem State.atPhase_hostRemovalsLate (s : State) (p : Nat) : (s.atPhase p).hostRemovalsLate = s.hostRemovalsLate := rfl
@[simp] theorem State.atPhase_free (s : State) (p : Nat) : (s.atPhase p).free = s.free := rfl
@[simp] theorem State.atPhase_pending (s : State) (p : Nat) : (s.atPhase p).pending = s.pending := rfl
@[simp] theorem State.atPhase_seenDsStat (s : State) (p : Nat) : (s.atPhase p).seenDsStat = s.seenDsStat := rfl

@[simp] theorem State.setOwner_drip (s : State) (n : Nat) (o : Owner) : (s.setOwner n o).drip = s.drip := rfl
@[simp] theorem State.setOwner_power (s : State) (n : Nat) (o : Owner) : (s.setOwner n o).power = s.power := rfl
@[simp] theorem State.setOwner_cause (s : State) (n : Nat) (o : Owner) : (s.setOwner n o).cause = s.cause := rfl
@[simp] theorem State.setOwner_radio (s : State) (n : Nat) (o : Owner) : (s.setOwner n o).radio = s.radio := rfl
@[simp] theorem State.setOwner_mesh (s : State) (n : Nat) (o : Owner) : (s.setOwner n o).mesh = s.mesh := rfl
@[simp] theorem State.setOwner_integ (s : State) (n : Nat) (o : Owner) : (s.setOwner n o).integ = s.integ := rfl
@[simp] theorem State.setOwner_chain (s : State) (n : Nat) (o : Owner) : (s.setOwner n o).chain = s.chain := rfl
@[simp] theorem State.setOwner_key (s : State) (n : Nat) (o : Owner) : (s.setOwner n o).key = s.key := rfl
@[simp] theorem State.setOwner_conduit (s : State) (n : Nat) (o : Owner) : (s.setOwner n o).conduit = s.conduit := rfl
@[simp] theorem State.setOwner_periph (s : State) (n : Nat) (o : Owner) : (s.setOwner n o).periph = s.periph := rfl
@[simp] theorem State.setOwner_flash (s : State) (n : Nat) (o : Owner) : (s.setOwner n o).flash = s.flash := rfl
@[simp] theorem State.setOwner_lantern (s : State) (n : Nat) (o : Owner) : (s.setOwner n o).lantern = s.lantern := rfl
@[simp] theorem State.setOwner_boot (s : State) (n : Nat) (o : Owner) : (s.setOwner n o).boot = s.boot := rfl
@[simp] theorem State.setOwner_update (s : State) (n : Nat) (o : Owner) : (s.setOwner n o).update = s.update := rfl
@[simp] theorem State.setOwner_seen (s : State) (n : Nat) (o : Owner) : (s.setOwner n o).seen = s.seen := rfl
@[simp] theorem State.setOwner_core (s : State) (n : Nat) (o : Owner) : (s.setOwner n o).core = s.core := rfl
@[simp] theorem State.setOwner_mem (s : State) (n : Nat) (o : Owner) : (s.setOwner n o).mem = s.mem := rfl
@[simp] theorem State.setOwner_coreWrites (s : State) (n : Nat) (o : Owner) : (s.setOwner n o).coreWrites = s.coreWrites := rfl
@[simp] theorem State.setOwner_coreWritesLate (s : State) (n : Nat) (o : Owner) : (s.setOwner n o).coreWritesLate = s.coreWritesLate := rfl
@[simp] theorem State.setOwner_hostWrites (s : State) (n : Nat) (o : Owner) : (s.setOwner n o).hostWrites = s.hostWrites := rfl
@[simp] theorem State.setOwner_hostWritesLate (s : State) (n : Nat) (o : Owner) : (s.setOwner n o).hostWritesLate = s.hostWritesLate := rfl
@[simp] theorem State.setOwner_coreRemovals (s : State) (n : Nat) (o : Owner) : (s.setOwner n o).coreRemovals = s.coreRemovals := rfl
@[simp] theorem State.setOwner_coreRemovalsLate (s : State) (n : Nat) (o : Owner) : (s.setOwner n o).coreRemovalsLate = s.coreRemovalsLate := rfl
@[simp] theorem State.setOwner_hostRemovals (s : State) (n : Nat) (o : Owner) : (s.setOwner n o).hostRemovals = s.hostRemovals := rfl
@[simp] theorem State.setOwner_hostRemovalsLate (s : State) (n : Nat) (o : Owner) : (s.setOwner n o).hostRemovalsLate = s.hostRemovalsLate := rfl
@[simp] theorem State.setOwner_free (s : State) (n : Nat) (o : Owner) : (s.setOwner n o).free = s.free := rfl
@[simp] theorem State.setOwner_pending (s : State) (n : Nat) (o : Owner) : (s.setOwner n o).pending = s.pending := rfl
@[simp] theorem State.setOwner_seenDsStat (s : State) (n : Nat) (o : Owner) : (s.setOwner n o).seenDsStat = s.seenDsStat := rfl
@[simp] theorem State.setOwner_crossing (s : State) (n : Nat) (o : Owner) : (s.setOwner n o).crossing = s.crossing := rfl

@[simp] theorem State.setCheck_drip (s : State) (n : Nat) (c : BitVec 16) : (s.setCheck n c).drip = s.drip := rfl
@[simp] theorem State.setCheck_power (s : State) (n : Nat) (c : BitVec 16) : (s.setCheck n c).power = s.power := rfl
@[simp] theorem State.setCheck_cause (s : State) (n : Nat) (c : BitVec 16) : (s.setCheck n c).cause = s.cause := rfl
@[simp] theorem State.setCheck_radio (s : State) (n : Nat) (c : BitVec 16) : (s.setCheck n c).radio = s.radio := rfl
@[simp] theorem State.setCheck_link (s : State) (n : Nat) (c : BitVec 16) : (s.setCheck n c).link = s.link := rfl
@[simp] theorem State.setCheck_mesh (s : State) (n : Nat) (c : BitVec 16) : (s.setCheck n c).mesh = s.mesh := rfl
@[simp] theorem State.setCheck_chain (s : State) (n : Nat) (c : BitVec 16) : (s.setCheck n c).chain = s.chain := rfl
@[simp] theorem State.setCheck_key (s : State) (n : Nat) (c : BitVec 16) : (s.setCheck n c).key = s.key := rfl
@[simp] theorem State.setCheck_conduit (s : State) (n : Nat) (c : BitVec 16) : (s.setCheck n c).conduit = s.conduit := rfl
@[simp] theorem State.setCheck_periph (s : State) (n : Nat) (c : BitVec 16) : (s.setCheck n c).periph = s.periph := rfl
@[simp] theorem State.setCheck_flash (s : State) (n : Nat) (c : BitVec 16) : (s.setCheck n c).flash = s.flash := rfl
@[simp] theorem State.setCheck_lantern (s : State) (n : Nat) (c : BitVec 16) : (s.setCheck n c).lantern = s.lantern := rfl
@[simp] theorem State.setCheck_boot (s : State) (n : Nat) (c : BitVec 16) : (s.setCheck n c).boot = s.boot := rfl
@[simp] theorem State.setCheck_update (s : State) (n : Nat) (c : BitVec 16) : (s.setCheck n c).update = s.update := rfl
@[simp] theorem State.setCheck_seen (s : State) (n : Nat) (c : BitVec 16) : (s.setCheck n c).seen = s.seen := rfl
@[simp] theorem State.setCheck_core (s : State) (n : Nat) (c : BitVec 16) : (s.setCheck n c).core = s.core := rfl
@[simp] theorem State.setCheck_mem (s : State) (n : Nat) (c : BitVec 16) : (s.setCheck n c).mem = s.mem := rfl
@[simp] theorem State.setCheck_coreWrites (s : State) (n : Nat) (c : BitVec 16) : (s.setCheck n c).coreWrites = s.coreWrites := rfl
@[simp] theorem State.setCheck_coreWritesLate (s : State) (n : Nat) (c : BitVec 16) : (s.setCheck n c).coreWritesLate = s.coreWritesLate := rfl
@[simp] theorem State.setCheck_hostWrites (s : State) (n : Nat) (c : BitVec 16) : (s.setCheck n c).hostWrites = s.hostWrites := rfl
@[simp] theorem State.setCheck_hostWritesLate (s : State) (n : Nat) (c : BitVec 16) : (s.setCheck n c).hostWritesLate = s.hostWritesLate := rfl
@[simp] theorem State.setCheck_coreRemovals (s : State) (n : Nat) (c : BitVec 16) : (s.setCheck n c).coreRemovals = s.coreRemovals := rfl
@[simp] theorem State.setCheck_coreRemovalsLate (s : State) (n : Nat) (c : BitVec 16) : (s.setCheck n c).coreRemovalsLate = s.coreRemovalsLate := rfl
@[simp] theorem State.setCheck_hostRemovals (s : State) (n : Nat) (c : BitVec 16) : (s.setCheck n c).hostRemovals = s.hostRemovals := rfl
@[simp] theorem State.setCheck_hostRemovalsLate (s : State) (n : Nat) (c : BitVec 16) : (s.setCheck n c).hostRemovalsLate = s.hostRemovalsLate := rfl
@[simp] theorem State.setCheck_free (s : State) (n : Nat) (c : BitVec 16) : (s.setCheck n c).free = s.free := rfl
@[simp] theorem State.setCheck_pending (s : State) (n : Nat) (c : BitVec 16) : (s.setCheck n c).pending = s.pending := rfl
@[simp] theorem State.setCheck_seenDsStat (s : State) (n : Nat) (c : BitVec 16) : (s.setCheck n c).seenDsStat = s.seenDsStat := rfl
@[simp] theorem State.setCheck_crossing (s : State) (n : Nat) (c : BitVec 16) : (s.setCheck n c).crossing = s.crossing := rfl

@[simp] theorem State.draw_drip (s : State) (n : Nat) : ((s.draw n).2).drip = s.drip := rfl
@[simp] theorem State.draw_power (s : State) (n : Nat) : ((s.draw n).2).power = s.power := rfl
@[simp] theorem State.draw_cause (s : State) (n : Nat) : ((s.draw n).2).cause = s.cause := rfl
@[simp] theorem State.draw_radio (s : State) (n : Nat) : ((s.draw n).2).radio = s.radio := rfl
@[simp] theorem State.draw_link (s : State) (n : Nat) : ((s.draw n).2).link = s.link := rfl
@[simp] theorem State.draw_mesh (s : State) (n : Nat) : ((s.draw n).2).mesh = s.mesh := rfl
@[simp] theorem State.draw_integ (s : State) (n : Nat) : ((s.draw n).2).integ = s.integ := rfl
@[simp] theorem State.draw_chain (s : State) (n : Nat) : ((s.draw n).2).chain = s.chain := rfl
@[simp] theorem State.draw_key (s : State) (n : Nat) : ((s.draw n).2).key = s.key := rfl
@[simp] theorem State.draw_conduit (s : State) (n : Nat) : ((s.draw n).2).conduit = s.conduit := rfl
@[simp] theorem State.draw_periph (s : State) (n : Nat) : ((s.draw n).2).periph = s.periph := rfl
@[simp] theorem State.draw_flash (s : State) (n : Nat) : ((s.draw n).2).flash = s.flash := rfl
@[simp] theorem State.draw_lantern (s : State) (n : Nat) : ((s.draw n).2).lantern = s.lantern := rfl
@[simp] theorem State.draw_boot (s : State) (n : Nat) : ((s.draw n).2).boot = s.boot := rfl
@[simp] theorem State.draw_update (s : State) (n : Nat) : ((s.draw n).2).update = s.update := rfl
@[simp] theorem State.draw_seen (s : State) (n : Nat) : ((s.draw n).2).seen = s.seen := rfl
@[simp] theorem State.draw_core (s : State) (n : Nat) : ((s.draw n).2).core = s.core := rfl
@[simp] theorem State.draw_mem (s : State) (n : Nat) : ((s.draw n).2).mem = s.mem := rfl
@[simp] theorem State.draw_coreWrites (s : State) (n : Nat) : ((s.draw n).2).coreWrites = s.coreWrites := rfl
@[simp] theorem State.draw_coreWritesLate (s : State) (n : Nat) : ((s.draw n).2).coreWritesLate = s.coreWritesLate := rfl
@[simp] theorem State.draw_hostWrites (s : State) (n : Nat) : ((s.draw n).2).hostWrites = s.hostWrites := rfl
@[simp] theorem State.draw_hostWritesLate (s : State) (n : Nat) : ((s.draw n).2).hostWritesLate = s.hostWritesLate := rfl
@[simp] theorem State.draw_coreRemovals (s : State) (n : Nat) : ((s.draw n).2).coreRemovals = s.coreRemovals := rfl
@[simp] theorem State.draw_coreRemovalsLate (s : State) (n : Nat) : ((s.draw n).2).coreRemovalsLate = s.coreRemovalsLate := rfl
@[simp] theorem State.draw_hostRemovals (s : State) (n : Nat) : ((s.draw n).2).hostRemovals = s.hostRemovals := rfl
@[simp] theorem State.draw_hostRemovalsLate (s : State) (n : Nat) : ((s.draw n).2).hostRemovalsLate = s.hostRemovalsLate := rfl
@[simp] theorem State.draw_pending (s : State) (n : Nat) : ((s.draw n).2).pending = s.pending := rfl
@[simp] theorem State.draw_seenDsStat (s : State) (n : Nat) : ((s.draw n).2).seenDsStat = s.seenDsStat := rfl
@[simp] theorem State.draw_crossing (s : State) (n : Nat) : ((s.draw n).2).crossing = s.crossing := rfl

@[simp] theorem State.setDsp_drip (s : State) (d : DspBlock) : (s.setDsp d).drip = s.drip := by simp [State.setDsp]
@[simp] theorem State.setDsp_power (s : State) (d : DspBlock) : (s.setDsp d).power = s.power := by simp [State.setDsp]
@[simp] theorem State.setDsp_radio (s : State) (d : DspBlock) : (s.setDsp d).radio = s.radio := by simp [State.setDsp]
@[simp] theorem State.setDsp_link (s : State) (d : DspBlock) : (s.setDsp d).link = s.link := by simp [State.setDsp]
@[simp] theorem State.setDsp_mesh (s : State) (d : DspBlock) : (s.setDsp d).mesh = s.mesh := by simp [State.setDsp]
@[simp] theorem State.setDsp_integ (s : State) (d : DspBlock) : (s.setDsp d).integ = s.integ := by simp [State.setDsp]
@[simp] theorem State.setDsp_chain (s : State) (d : DspBlock) : (s.setDsp d).chain = s.chain := by simp [State.setDsp]
@[simp] theorem State.setDsp_key (s : State) (d : DspBlock) : (s.setDsp d).key = s.key := by simp [State.setDsp]
@[simp] theorem State.setDsp_conduit (s : State) (d : DspBlock) : (s.setDsp d).conduit = s.conduit := by simp [State.setDsp]
@[simp] theorem State.setDsp_periph (s : State) (d : DspBlock) : (s.setDsp d).periph = s.periph := by simp [State.setDsp]
@[simp] theorem State.setDsp_flash (s : State) (d : DspBlock) : (s.setDsp d).flash = s.flash := by simp [State.setDsp]
@[simp] theorem State.setDsp_lantern (s : State) (d : DspBlock) : (s.setDsp d).lantern = s.lantern := by simp [State.setDsp]
@[simp] theorem State.setDsp_boot (s : State) (d : DspBlock) : (s.setDsp d).boot = s.boot := by simp [State.setDsp]
@[simp] theorem State.setDsp_update (s : State) (d : DspBlock) : (s.setDsp d).update = s.update := by simp [State.setDsp]
@[simp] theorem State.setDsp_seen (s : State) (d : DspBlock) : (s.setDsp d).seen = s.seen := by simp [State.setDsp]
@[simp] theorem State.setDsp_mem (s : State) (d : DspBlock) : (s.setDsp d).mem = s.mem := by simp [State.setDsp]
@[simp] theorem State.setDsp_coreWrites (s : State) (d : DspBlock) : (s.setDsp d).coreWrites = s.coreWrites := by simp [State.setDsp]
@[simp] theorem State.setDsp_coreWritesLate (s : State) (d : DspBlock) : (s.setDsp d).coreWritesLate = s.coreWritesLate := by simp [State.setDsp]
@[simp] theorem State.setDsp_hostWrites (s : State) (d : DspBlock) : (s.setDsp d).hostWrites = s.hostWrites := by simp [State.setDsp]
@[simp] theorem State.setDsp_hostWritesLate (s : State) (d : DspBlock) : (s.setDsp d).hostWritesLate = s.hostWritesLate := by simp [State.setDsp]
@[simp] theorem State.setDsp_coreRemovals (s : State) (d : DspBlock) : (s.setDsp d).coreRemovals = s.coreRemovals := by simp [State.setDsp]
@[simp] theorem State.setDsp_coreRemovalsLate (s : State) (d : DspBlock) : (s.setDsp d).coreRemovalsLate = s.coreRemovalsLate := by simp [State.setDsp]
@[simp] theorem State.setDsp_hostRemovals (s : State) (d : DspBlock) : (s.setDsp d).hostRemovals = s.hostRemovals := by simp [State.setDsp]
@[simp] theorem State.setDsp_hostRemovalsLate (s : State) (d : DspBlock) : (s.setDsp d).hostRemovalsLate = s.hostRemovalsLate := by simp [State.setDsp]
@[simp] theorem State.setDsp_free (s : State) (d : DspBlock) : (s.setDsp d).free = s.free := by simp [State.setDsp]
@[simp] theorem State.setDsp_pending (s : State) (d : DspBlock) : (s.setDsp d).pending = s.pending := by simp [State.setDsp]
@[simp] theorem State.setDsp_seenDsStat (s : State) (d : DspBlock) : (s.setDsp d).seenDsStat = s.seenDsStat := by simp [State.setDsp]
@[simp] theorem State.setDsp_crossing (s : State) (d : DspBlock) : (s.setDsp d).crossing = s.crossing := by simp [State.setDsp]

@[simp] theorem State.setDsp_dsp (s : State) (d : DspBlock) : (s.setDsp d).core.dsp = d := by
  simp [State.setDsp]
@[simp] theorem State.setDsp_core (s : State) (d : DspBlock) : (s.setDsp d).core = { s.core with dsp := d } := by
  simp [State.setDsp]

end Sys2Proof.Machine
end

