-- ==== Sys2Proof/Laws/Core.lean ====
section
/-!
SUPPORT. Laws of the core's shared operations: register access, the passing of cycles, fetch, issue.
-/
namespace Sys2Proof.Machine

-- Registers

@[simp] theorem CoreBlock.reg_zero (c : CoreBlock) : c.reg 0 = 0 := rfl

theorem CoreBlock.reg_setReg_same (c : CoreBlock) (r : GReg) (v : Word) : (c.setReg r v).reg r = if r = 0 then 0 else v := by
  unfold CoreBlock.setReg CoreBlock.reg
  split <;> simp

theorem CoreBlock.reg_setReg_other (c : CoreBlock) {r q : GReg} (v : Word) (h : q ≠ r) : (c.setReg r v).reg q = c.reg q := by
  unfold CoreBlock.setReg CoreBlock.reg
  split
  · rfl
  · have : (r : Nat) ≠ (q : Nat) := fun e => h (Fin.ext e.symm)
    split
    · rfl
    · simp [this]

/-- A register write changes g alone. -/
theorem CoreBlock.setReg_eq (c : CoreBlock) (r : GReg) (v : Word) : ∃ g, c.setReg r v = { c with g := g } := by
  unfold CoreBlock.setReg
  split
  · exact ⟨c.g, rfl⟩
  · exact ⟨_, rfl⟩

/-- A register reads alike in two states with the same g. -/
theorem CoreBlock.reg_congr {c d : CoreBlock} (h : c.g = d.g) (r : GReg) : c.reg r = d.reg r := by
  unfold CoreBlock.reg; rw [h]

-- The rest of the device

theorem State.sameDevice.refl (s : State) : s.sameDevice s := rfl

theorem State.sameDevice.trans {s t u : State} (h : s.sameDevice t) (k : t.sameDevice u) : s.sameDevice u := by
  unfold State.sameDevice at *
  rw [← k] at h
  exact h

theorem State.sameDevice.setLeafIf (s : State) (b : Bool) (l : Leaf) : s.sameDevice (s.setLeafIf b l) := by
  unfold State.setLeafIf; split <;> rfl

theorem State.sameDevice.setDsp {s t : State} (h : s.sameDevice t) (d : DspBlock) : s.sameDevice (t.setDsp d) :=
  h.trans (.trans (t := { t with core.dsp := d }) rfl (.trans (.setLeafIf _ _ _) (.setLeafIf _ _ _)))

theorem State.sameDevice.tick (s : State) (k : Nat) : s.sameDevice (s.tick k) := by
  unfold State.tick
  dsimp only
  refine .setDsp ?_ _
  rfl

theorem State.sameDevice.reportCorr (s : State) (a : Nat) : s.sameDevice (s.reportCorr a) := rfl

theorem State.sameDevice.ramReport (s : State) (a : Nat) : s.sameDevice (s.ramReport a) := by
  unfold State.ramReport; split <;> rfl

-- Cycles

/-- What cycles leave alone in the core: all but the cycle count, what is in progress, and the DSP state. -/
theorem State.tick_core (s : State) (k : Nat) : ∃ cy la di ou fb gb fn ep, (s.tick k).core =
    { s.core with cycle := cy, late := la, divider := di, outs := ou, flashBuf := fb, groupBuf := gb, flashNext := fn, episode := ep,
                  dsp := s.core.dsp.advance k } := by
  unfold State.tick
  exact ⟨_, _, _, _, _, _, _, _, State.setDsp_core _ _⟩

/-- Cycles change no register. -/
@[simp] theorem State.tick_reg (s : State) (k : Nat) (r : GReg) : (s.tick k).core.reg r = s.core.reg r := by
  refine CoreBlock.reg_congr ?_ r
  obtain ⟨_, _, _, _, _, _, _, _, h⟩ := s.tick_core k
  rw [h]

@[simp] theorem State.tick_mem (s : State) (k : Nat) : (s.tick k).mem = s.mem := by simp [State.tick]
@[simp] theorem State.tick_power (s : State) (k : Nat) : (s.tick k).power = s.power := by simp [State.tick]
@[simp] theorem State.tick_pending (s : State) (k : Nat) : (s.tick k).pending = s.pending := by simp [State.tick]
@[simp] theorem State.tick_flash (s : State) (k : Nat) : (s.tick k).flash = s.flash := by simp [State.tick]
@[simp] theorem State.tick_integ (s : State) (k : Nat) : (s.tick k).integ = s.integ := by simp [State.tick]

/-- With nothing in flight, cycles leave the DSP state alone. -/
theorem DspBlock.advance_idle (d : DspBlock) (k : Nat) (h : d.inFlight = []) : d.advance k = d := by
  cases d; simp_all [DspBlock.advance]

-- Fetch

@[simp] theorem State.reportCorr_core (s : State) (a : Nat) : (s.reportCorr a).core = s.core := by simp [State.reportCorr]
@[simp] theorem State.reportCorr_mem (s : State) (a : Nat) : (s.reportCorr a).mem = s.mem := by simp [State.reportCorr]
@[simp] theorem State.ramReport_core (s : State) (a : Nat) : (s.ramReport a).core = s.core := by unfold State.ramReport; split <;> simp
@[simp] theorem State.ramReport_mem (s : State) (a : Nat) : (s.ramReport a).mem = s.mem := by unfold State.ramReport; split <;> simp

/-- Nothing of the core but its caches and buffers differs, no memory, and elsewhere only correction reports. -/
def State.cachesOnly (s t : State) : Prop :=
  t.core = { s.core with icache := t.core.icache, icacheParity := t.core.icacheParity, flashBuf := t.core.flashBuf, groupBuf := t.core.groupBuf,
                         flashNext := t.core.flashNext } ∧ t.mem = s.mem ∧ s.sameDevice t

theorem State.cachesOnly.refl (s : State) : s.cachesOnly s := ⟨rfl, rfl, rfl⟩

theorem State.cachesOnly.trans {s t u : State} (h : s.cachesOnly t) (k : t.cachesOnly u) : s.cachesOnly u := by
  refine ⟨?_, k.2.1.trans h.2.1, h.2.2.trans k.2.2⟩
  rw [k.1, h.1]

theorem State.cachesOnly.of_core {s t : State} (hc : t.core = s.core) (hm : t.mem = s.mem) (hd : s.sameDevice t) : s.cachesOnly t :=
  ⟨by rw [hc], hm, hd⟩

theorem State.readUnit_cachesOnly (s : State) (u : Nat) (keep : List Nat) : s.cachesOnly (s.readUnit u keep).2 := by
  unfold State.readUnit
  split <;> exact ⟨rfl, rfl, rfl⟩

theorem State.readGroup_cachesOnly (s : State) (u : Nat) (keep : List Nat) : s.cachesOnly (s.readGroup u keep).2 := by
  unfold State.readGroup
  split <;> exact ⟨rfl, rfl, rfl⟩

theorem State.useFlash_cachesOnly (s : State) (u : Nat) : s.cachesOnly (s.useFlash u).2 := by
  unfold State.useFlash
  dsimp only
  split
  · exact ⟨by simp, by simp, rfl⟩
  · exact ⟨rfl, rfl, rfl⟩

theorem State.useGroup_cachesOnly (s : State) (u : Nat) : s.cachesOnly (s.useGroup u).2 := by
  unfold State.useGroup
  dsimp only
  split
  · exact ⟨by simp, by simp, rfl⟩
  · exact ⟨rfl, rfl, rfl⟩

theorem State.useCache_cachesOnly (s : State) (a : Nat) : s.cachesOnly (s.useCache a) := ⟨rfl, rfl, rfl⟩

theorem State.cacheFill_cachesOnly (s : State) (l : Nat) (lost : Bool) : s.cachesOnly (s.cacheFill l lost) := by
  cases lost <;> exact ⟨rfl, rfl, rfl⟩

theorem State.fetchMiss_cachesOnly (s : State) (a : Nat) (ahead : Bool) : s.cachesOnly (s.fetchMiss a ahead).2 := by
  have step : ∀ (b : Bool) (t u : State), t.cachesOnly u → t.cachesOnly (if b then t else u) := by
    intro b t u h; cases b
    · exact h
    · exact .refl t
  have h1 := s.readUnit_cachesOnly (unitOf a) []
  have h2 := h1.trans (step ahead _ _ (State.useFlash_cachesOnly _ (unitOf a)))
  have h3 := h2.trans (State.readUnit_cachesOnly _ (if unitOf a % 32 = 0 then unitOf a + 16 else unitOf a - 16) [])
  have h4 := fun b => h3.trans (step b _ _ (State.readUnit_cachesOnly _ (cacheLine a + 32) []))
  exact (h4 _).trans (State.cacheFill_cachesOnly _ _ _)

/-- A fetch changes the caches alone. -/
theorem State.fetched_cachesOnly (s : State) (a : Nat) (ahead : Bool) : s.cachesOnly (s.fetched a ahead).2 := by
  unfold State.fetched
  cases regionOf a with
  | rom => exact s.useCache_cachesOnly a
  | flash =>
    dsimp only
    split
    · exact s.useCache_cachesOnly a
    · exact s.fetchMiss_cachesOnly a ahead
  | _ =>
    dsimp only
    split
    · exact .refl s
    · exact .of_core (by simp) (by simp) (.ramReport _ _)

-- Issue

/-- What an instruction of its own effect finds: the registers, the PC at the next instruction, nothing else of the core's control state changed,
and all of memory. -/
structure State.AsIssued (s u : State) : Prop where
  regs : ∀ r, u.core.reg r = s.input r
  pc : u.core.pc = s.core.pc + 4
  control : s.core.sameControl u.core
  sticky : s.core.sameSticky u.core
  dsp : s.core.sameDsp u.core
  mem : s.sameMemory u
  device : s.sameDevice u

/-- An instruction that executes runs its own effect on such a state, and ends as `Ran.finish` says. -/
theorem State.coreInstr_runs {s : State} (h : s.executes = true) (keep : Bool) (reads : List GReg) (a : Ahead) (run : Word → State → Ran) :
    ∃ u before, s.AsIssued u ∧ s.coreInstr keep reads a run = .next ((run s.core.pc u).finish before s.core.pc) := by
  unfold State.executes at h
  simp only [Bool.and_eq_true, Option.isNone_iff_eq_none] at h
  obtain ⟨⟨⟨hr, he⟩, hw⟩, hf⟩ := h
  let s0 : State := { s with core.wokeDoze := false }
  have hf0 : s0.fetchFault s.core.pc.toNat = none := hf
  have hc := s0.fetched_cachesOnly s.core.pc.toNat false
  generalize hfe : s0.fetched s.core.pc.toNat false = fe at hc
  obtain ⟨cost, s1⟩ := fe
  obtain ⟨hc1, hm1, hd1⟩ := hc
  let k := max cost (max (s1.core.waitFor reads) (if keep then 0 else s1.core.outsLeft))
  obtain ⟨cy, la, di, ou, fb, gb, fn, ep, ht⟩ := s1.tick_core k
  refine ⟨{ s1.tick k with core.pc := s.core.pc + 4 }, s1.core, ⟨?_, rfl, ?_, ?_, ?_, ?_, ?_⟩, ?_⟩
  · intro r
    refine CoreBlock.reg_congr ?_ r
    show (s1.tick k).core.g = _
    rw [ht]
    show s1.core.g = _
    rw [hc1]
  · simp only [CoreBlock.sameControl, ht]
    rw [hc1]
    simp [s0]
  · simp only [CoreBlock.sameSticky, ht]
    rw [hc1]
    simp [s0]
  · intro hi
    show (s1.tick k).core.dsp = _
    rw [ht]
    show s1.core.dsp.advance k = _
    rw [hc1]
    exact DspBlock.advance_idle _ _ hi
  · refine ⟨fun a => ?_, ?_⟩
    · show memGet (s1.tick k).mem a = _
      rw [State.tick_mem, hm1]
    · show (s1.tick k).core.stores = _
      rw [ht]
      show s1.core.stores = _
      rw [hc1]
  · exact .trans (t := s0) rfl (.trans hd1 (.trans (.tick s1 k) rfl))
  · have : s.coreInstr keep reads a run = ok (s0.issue keep reads run) := by
      unfold State.coreInstr
      rw [if_neg (by simp [hr])]
      split
      · next e h => rw [he] at h; cases h
      · split
        · next r h => rw [hw] at h; cases h
        · rfl
    rw [this]
    unfold State.issue
    have : s0.core.pc = s.core.pc := rfl
    simp only [this, hf0, hfe]
    rfl

/-- The operands of an instruction that executes are the registers it found. -/
theorem State.AsIssued.greg {s u : State} (h : s.AsIssued u) : u.greg = s.input := funext h.regs

/-- Writing a result changes g and its latency alone. -/
theorem State.result_core (s : State) (r : GReg) (v : Word) (l : Nat) : ∃ la, (s.result r v l).core = { s.core.setReg r v with late := la } := ⟨_, rfl⟩

/-- A result written at the end of an instruction: the frame of everything but its register. -/
theorem State.AsIssued.result {s u : State} (h : s.AsIssued u) (rd : GReg) (v : Word) (l k : Nat) :
    let t := (u.result rd v l).tick k
    t.core.reg rd = (if rd = 0 then 0 else v) ∧ t.core.pc = s.core.pc + 4 ∧ s.core.sameSticky t.core ∧ s.onlyReg t rd := by
  obtain ⟨la, hl⟩ := u.result_core rd v l
  obtain ⟨cy, la', di, ou, fb, gb, fn, ep, ht⟩ := (u.result rd v l).tick_core k
  obtain ⟨g, hg⟩ := u.core.setReg_eq rd v
  have hc : ((u.result rd v l).tick k).core = { u.core with
      g := (u.core.setReg rd v).g, cycle := cy, late := la', divider := di, outs := ou, flashBuf := fb, groupBuf := gb, flashNext := fn, episode := ep
      dsp := u.core.dsp.advance k } := by
    rw [ht, hl, hg]
  have hreg : ∀ r, ((u.result rd v l).tick k).core.reg r = (u.core.setReg rd v).reg r := fun r => CoreBlock.reg_congr (by rw [hc]) r
  have hmem : ((u.result rd v l).tick k).mem = u.mem := by rw [State.tick_mem]; rfl
  refine ⟨?_, ?_, ?_, ?_, ?_, ?_, ⟨?_, ?_⟩, ?_⟩
  · rw [hreg, CoreBlock.reg_setReg_same]
  · rw [hc]; exact h.pc
  · have := h.sticky
    unfold CoreBlock.sameSticky at this ⊢
    rw [hc]; exact this
  · intro r hr
    rw [hreg, CoreBlock.reg_setReg_other _ _ hr, h.regs]
  · have := h.control
    unfold CoreBlock.sameControl at this ⊢
    rw [hc]; exact this
  · intro hi
    have := h.dsp hi
    rw [hc]
    show u.core.dsp.advance k = _
    rw [this]
    exact DspBlock.advance_idle _ _ hi
  · intro a; rw [hmem]; exact h.mem.1 a
  · rw [hc]; exact h.mem.2
  · exact h.device.trans (.trans (t := u.result rd v l) rfl (.tick _ k))

/-- An instruction that writes a function of registers, and nothing else. -/
theorem State.aluInstr_result {s : State} (h : s.executes = true) (rd : GReg) (reads : List GReg) (f : (GReg → Word) → Word) :
    ∃ t, s.aluInstr rd reads f = .next t ∧ t.core.reg rd = (if rd = 0 then 0 else f s.input) ∧ t.core.pc = s.core.pc + 4 ∧
      s.core.sameSticky t.core ∧ s.onlyReg t rd := by
  obtain ⟨u, b, hu, he⟩ := State.coreInstr_runs h true reads (.alu rd reads f) fun _ s => s.writes rd (f s.greg)
  refine ⟨(u.result rd (f u.greg) 1).tick 1, he, ?_⟩
  have := hu.result rd (f u.greg) 1 1
  rw [hu.greg] at this ⊢
  exact this

end Sys2Proof.Machine
end

