-- ==== Sys2Proof/Laws/Memory.lean ====
section
/-!
SUPPORT. Laws of addressed memory: reads after writes, and the canonical form.
-/
namespace Sys2Proof.Machine

/-- Every entry of a memory in canonical form from `lo` on lies at `lo` or above. -/
theorem memWfFrom_head_le {lo k : Nat} {v : Byte} {m : List Host.Cell} (h : memWfFrom lo ((k, v) :: m) = true) : lo ≤ k := by
  simp [memWfFrom] at h; exact h.1.1

theorem memWfFrom_cons {lo k : Nat} {v : Byte} {m : List Host.Cell} :
    memWfFrom lo ((k, v) :: m) = true ↔ lo ≤ k ∧ v ≠ memDefault k ∧ memWfFrom (k + 1) m = true := by
  simp [memWfFrom, and_assoc]

/-- The canonical form from a higher address on is one from a lower address on. -/
theorem memWfFrom_mono {lo hi : Nat} {m : List Host.Cell} (hle : lo ≤ hi) (h : memWfFrom hi m = true) : memWfFrom lo m = true := by
  cases m with
  | nil => rfl
  | cons c m =>
    obtain ⟨k, v⟩ := c
    rw [memWfFrom_cons] at h ⊢
    exact ⟨Nat.le_trans hle h.1, h.2⟩

/-- An address below every entry reads as an unlisted byte. -/
theorem memGet_below {lo a : Nat} {m : List Host.Cell} (h : memWfFrom lo m = true) (ha : a < lo) : memGet m a = memDefault a := by
  induction m generalizing lo with
  | nil => rfl
  | cons c m ih =>
    obtain ⟨k, v⟩ := c
    rw [memWfFrom_cons] at h
    have hk : k ≠ a := by omega
    simp only [memGet, if_neg hk]
    exact ih h.2.2 (by omega)

/-- A write at `lo` or above keeps the canonical form from `lo` on. -/
theorem memWfFrom_memPut {lo a : Nat} {v : Byte} {m : List Host.Cell} (hl : lo ≤ a) (h : memWfFrom lo m = true) :
    memWfFrom lo (memPut m a v) = true := by
  induction m generalizing lo with
  | nil =>
    unfold memPut
    split
    · rfl
    · next hv => simp [memWfFrom, hl, hv]
  | cons c m ih =>
    obtain ⟨k, x⟩ := c
    rw [memWfFrom_cons] at h
    unfold memPut
    split
    · next hak =>
      split
      · rw [memWfFrom_cons]; exact h
      · next hv => rw [memWfFrom_cons, memWfFrom_cons]; exact ⟨hl, hv, hak, h.2⟩
    · split
      · next hak =>
        subst hak
        split
        · exact memWfFrom_mono (by omega) h.2.2
        · next hv => rw [memWfFrom_cons]; exact ⟨hl, hv, h.2.2⟩
      · rw [memWfFrom_cons]
        exact ⟨h.1, h.2.1, ih (by omega) h.2.2⟩

/-- A write keeps the canonical form. -/
theorem memPut_wf {m : List Host.Cell} {a : Nat} {v : Byte} (h : Memory.wf m = true) : Memory.wf (memPut m a v) = true :=
  memWfFrom_memPut (Nat.zero_le a) h

/-- Writes of several bytes keep the canonical form. -/
theorem memPutBytes_wf {m : List Host.Cell} {a : Nat} {bs : List Byte} (h : Memory.wf m = true) : Memory.wf (memPutBytes m a bs) = true := by
  induction bs generalizing m a with
  | nil => exact h
  | cons b bs ih => exact ih (memPut_wf h)

/-- Removing entries keeps the canonical form. -/
theorem memWfFrom_filter {p : Host.Cell → Bool} {lo : Nat} {m : List Host.Cell} (h : memWfFrom lo m = true) :
    memWfFrom lo (m.filter p) = true := by
  induction m generalizing lo with
  | nil => rfl
  | cons c m ih =>
    obtain ⟨k, x⟩ := c
    rw [memWfFrom_cons] at h
    rw [List.filter_cons]
    split
    · rw [memWfFrom_cons]; exact ⟨h.1, h.2.1, ih h.2.2⟩
    · exact memWfFrom_mono (by omega) (ih h.2.2)

theorem memFilter_wf {p : Host.Cell → Bool} {m : List Host.Cell} (h : Memory.wf m = true) : Memory.wf (m.filter p) = true := memWfFrom_filter h

/-- Clearing an address range keeps the canonical form. -/
theorem memClear_wf {m : List Host.Cell} {lo hi : Nat} (h : Memory.wf m = true) : Memory.wf (memClear m lo hi) = true := memFilter_wf h

/-- A byte reads as it was last written. -/
theorem memGet_memPut_same_from {lo a : Nat} {v : Byte} {m : List Host.Cell} (h : memWfFrom lo m = true) : memGet (memPut m a v) a = v := by
  induction m generalizing lo with
  | nil =>
    unfold memPut
    split
    · next hv => simp [memGet, hv]
    · simp [memGet]
  | cons c m ih =>
    obtain ⟨k, x⟩ := c
    rw [memWfFrom_cons] at h
    unfold memPut
    split
    · next hak =>
      split
      · next hv =>
        have hne : k ≠ a := by omega
        simp only [memGet, if_neg hne]
        rw [memGet_below h.2.2 (by omega), hv]
      · simp [memGet]
    · split
      · next hak =>
        subst hak
        split
        · next hv => rw [memGet_below h.2.2 (by omega), hv]
        · simp [memGet]
      · next hak hne =>
        have hne' : k ≠ a := fun e => hne e.symm
        simp only [memGet, if_neg hne']
        exact ih h.2.2

theorem memGet_memPut_same {a : Nat} {v : Byte} {m : List Host.Cell} (h : Memory.wf m = true) : memGet (memPut m a v) a = v :=
  memGet_memPut_same_from h

/-- A write leaves every other byte alone. -/
theorem memGet_memPut_other {a b : Nat} {v : Byte} {m : List Host.Cell} (hne : b ≠ a) : memGet (memPut m a v) b = memGet m b := by
  induction m with
  | nil =>
    unfold memPut
    split
    · rfl
    · simp [memGet, hne.symm]
  | cons c m ih =>
    obtain ⟨k, x⟩ := c
    unfold memPut
    split
    · split
      · rfl
      · simp [memGet, hne.symm]
    · split
      · next hak =>
        subst hak
        split
        · simp [memGet, hne.symm]
        · simp [memGet, hne.symm]
      · simp only [memGet, ih]

/-- Bytes outside a run of written bytes are left alone. -/
theorem memGet_memPutBytes_outside {m : List Host.Cell} {a b : Nat} {bs : List Byte} (h : b < a ∨ a + bs.length ≤ b) :
    memGet (memPutBytes m a bs) b = memGet m b := by
  induction bs generalizing m a with
  | nil => rfl
  | cons x bs ih =>
    simp only [List.length_cons] at h
    rw [memPutBytes, ih (by omega), memGet_memPut_other (by omega)]

/-- Bytes of a written run read as written. -/
theorem memGet_memPutBytes_inside {m : List Host.Cell} {a i : Nat} {bs : List Byte} (hw : Memory.wf m = true) (hi : i < bs.length) :
    memGet (memPutBytes m a bs) (a + i) = bs[i] := by
  induction bs generalizing m a i with
  | nil => simp at hi
  | cons x bs ih =>
    rw [memPutBytes]
    cases i with
    | zero => rw [memGet_memPutBytes_outside (by omega)]; simpa using memGet_memPut_same hw
    | succ i =>
      have := ih (a := a + 1) (i := i) (memPut_wf (a := a) (v := x) hw) (by simpa using hi)
      rw [show a + (i + 1) = a + 1 + i by omega]
      simpa using this

end Sys2Proof.Machine
end

