-- ==== Sys2Proof/Laws/Lines.lean ====
section
/-!
SUPPORT. Gallery lines: the line check of zeros, of a line nothing has written, and of a line that a writer keeps in step (R623 to R625).
-/
namespace Sys2Proof.Machine

/-- The line check of zeros is 0, however many. -/
theorem lineCrc_zeros (n : Nat) : lineCrc (List.replicate n 0#8) = 0 := by
  unfold lineCrc
  induction n with
  | zero => rfl
  | succ n ih =>
    rw [List.replicate_succ, List.foldl_cons]
    have h : (bitsMsb 0#8).foldl (crcStepLeft 0x8BB7#16) 0#16 = 0#16 := by decide
    rw [h]
    exact ih

theorem lineBytes_zeros {s : State} {n : Nat} (h : ∀ i, i < 128 → memGet s.mem (lineBase n + i) = 0) :
    s.lineBytes n = List.replicate 128 0#8 := by
  unfold State.lineBytes memBytes
  rw [List.eq_replicate_iff]
  refine ⟨by simp, fun b hb => ?_⟩
  obtain ⟨i, hi, rfl⟩ := List.mem_map.mp hb
  exact h i (List.mem_range.mp hi)

/-- A line of zeros with stored check 0 is good. -/
theorem lineGood_zeros {s : State} {n : Nat} (hc : s.storedCheck n = 0) (h : ∀ i, i < 128 → memGet s.mem (lineBase n + i) = 0) :
    s.lineGood n = true := by
  unfold State.lineGood
  rw [lineBytes_zeros h, lineCrc_zeros, hc]
  rfl

/-- Writing a line keeps memory canonical. -/
theorem writeLine_wf {s : State} {n off : Nat} {bs : List Byte} (h : Memory.wf s.mem = true) : Memory.wf (s.writeLine n off bs).mem = true :=
  memPutBytes_wf h

/-- Writing a line changes no byte outside it. -/
theorem writeLine_outside {s : State} {n off b : Nat} {bs : List Byte} (h : b < lineBase n ∨ lineBase n + 128 ≤ b) :
    memGet (s.writeLine n off bs).mem b = memGet s.mem b := by
  refine memGet_memPutBytes_outside ?_
  rw [List.length_take]
  by_cases ho : off ≤ 128 <;> omega

/-- A writer keeps a good line good. -/
theorem writeLine_good {s : State} {n off : Nat} {bs : List Byte} (hn : n < 128) (h : s.lineGood n = true) :
    (s.writeLine n off bs).lineGood n = true := by
  have hc : s.storedCheck n = lineCrc (s.lineBytes n) := by simpa [State.lineGood] using h
  have hs : (s.writeLine n off bs).storedCheck n = lineCrc ((s.writeLine n off bs).lineBytes n) := by
    simp only [State.writeLine, hc, BitVec.xor_self, BitVec.zero_xor]
    simp [State.setCheck, State.storedCheck, State.lineBytes, Vector.getD, hn]
  simp [State.lineGood, hs]

end Sys2Proof.Machine
end

