-- ==== Sys2Proof/Machine/Pins.lean ====
section
/-!
DEFINITION. The signal pins: what each shows in reset, in HIBERNATE and while its block runs it, as the state determines it (04_pins_board.md
1, 2, 4, 5, 8).
-/
namespace Sys2Proof.Machine

/-- The signal pins of R144; supply, ground, decoupling and crystal pins show no state of the device. -/
inductive Pin where
  | rfTrx
  | rfHp
  | antSel
  | lfa
  | lfb
  | lfSense
  | irLed
  | irPd
  | release
  | svcDet
  | svcCs
  | svcClk
  | svcDio
  | gpio (n : Fin 20)
  | chSck
  | chSdi
  | chSdo
  | chCsn
  | chEni
  | chEno
  | attn
  | nreset
  | test
  deriving DecidableEq, Repr

/-- The package pin (R144). -/
def Pin.number : Pin → Nat
  | .rfTrx => 4
  | .rfHp => 5
  | .antSel => 7
  | .nreset => 13
  | .test => 14
  | .lfa => 16
  | .lfb => 17
  | .lfSense => 18
  | .irLed => 19
  | .irPd => 20
  | .release => 21
  | .svcDet => 22
  | .svcCs => 23
  | .svcClk => 24
  | .svcDio => 25
  | .gpio n => 26 + n
  | .chSck => 46
  | .chSdi => 47
  | .chSdo => 48
  | .chCsn => 49
  | .chEni => 50
  | .chEno => 51
  | .attn => 52

/-- What a pin shows. -/
inductive PinState where
  /-- High-impedance, no pull. -/
  | hz
  | pullUp
  | pullDown
  | low
  | high
  /-- An open drain that is not driven, or a current sink that is off. -/
  | off
  /-- Its block drives or senses a signal on it at this time. -/
  | active
  deriving DecidableEq, Repr

def PinState.ofLevel (b : Bool) : PinState := if b then .high else .low

/-- A pull setting; 0b11 acts as none (R577, R604). -/
def PinState.ofPull (p : BitVec 2) : PinState := if p = 1 then .pullUp else if p = 2 then .pullDown else .hz

/-- The port that a transmission leaves from (R156). -/
def OnAir.port (t : OnAir) : Pin := if usesHp t.level then .rfHp else .rfTrx

/-- The pin that a GPIO's alternate function PWM n drives (R145). -/
def pwmPin (n : Fin 6) : Fin 20 := ⟨4 + n.val, by omega⟩

/-- The level of a PWM output while its counter holds `cnt`: active below DUTY, inactive while the channel is disabled (R587, R589). -/
def PwmBlock.output (p : PwmBlock) (cnt : Nat) : Bool := (p.en && decide (cnt < p.dutyCur.toNat)) != p.pol

/-- A GPIO pin whose block runs it; `cnt` are the counters of the PWM channels (R576, R577). -/
def State.gpioPin (s : State) (cnt : Fin 6 → Nat) (n : Fin 20) : PinState :=
  let g := s.periph.gpio
  let pull := PinState.ofPull g.pull[n]
  if (gpioAnalog g).getLsbD n then pull
  else if h : g.func.getLsbD n = true ∧ 4 ≤ n.val ∧ n.val < 10 then
    let c : Fin 6 := ⟨n.val - 4, by omega⟩
    .ofLevel ((s.periph.pwm[c]).output (cnt c))
  else if g.dir.getLsbD n then .ofLevel (g.out.getLsbD n)
  else pull

/-- The service socket is driven: the stick's contact is low (R170). -/
def State.socketDriven (s : State) : Bool := s.lantern.stickDet

/-- The reset state of a pin (R144). -/
def Pin.atReset : Pin → PinState
  | .antSel | .lfa | .lfb | .release | .chEno => .low
  | .irLed | .attn => .off
  | .svcDet | .nreset => .pullUp
  | .test => .pullDown
  | _ => .hz

/-- The state of a pin in HIBERNATE between presence bursts and sensing windows: GPIO0 to GPIO3 keep their pull, every other pin its reset
state (R150). -/
def State.hibernatePin (s : State) : Pin → PinState
  | .gpio n => if h : n.val < 4 then .ofPull s.periph.gpio.hibPull[n.val] else .hz
  | p => p.atReset

/-- The state of a pin that its block runs (R144, R150, R156, R170, R338, R353). -/
def State.runningPin (s : State) (cnt : Fin 6 → Nat) : Pin → PinState
  | .rfTrx => match s.radio.use with
    | .transmit t => if t.port = .rfTrx then .active else .hz
    | .receive => if s.radio.synthOn then .active else .hz
    | _ => .hz
  | .rfHp => match s.radio.use with
    | .transmit t => if t.port = .rfHp then .active else .hz
    | _ => .hz
  | .antSel => .ofLevel (decide (s.linearNow < s.radio.antUntil))
  | .lfa | .lfb => if s.key.hasL then (if s.key.lAct.inTransaction || s.key.lAct == .raw then .active else .low) else .hz
  | .lfSense => if s.key.hasL && s.key.lAct != .idle then .active else .hz
  | .irLed => match s.key.oAct with
    | .challenged _ _ | .raw => .active
    | _ => .off
  | .irPd => if s.oRuns then .active else .hz
  | .release => .ofLevel s.key.release
  | .svcCs => if s.socketDriven then .high else .hz
  | .svcClk => if s.socketDriven then .low else .hz
  | .svcDio => .hz
  | .gpio n => s.gpioPin cnt n
  | .chEno => .ofLevel s.chain.eno
  | .attn => if s.cause.attnLow then .low else .off
  | p => p.atReset

/-- The state of a pin (R144, R149, R150). -/
def State.pin (s : State) (cnt : Fin 6 → Nat) (p : Pin) : PinState :=
  if s.power.hold != .none then p.atReset
  else if s.power.mode == .hibernate then s.hibernatePin p
  else s.runningPin cnt p

/-- XO_CAP in force: the product's, where group 3 is programmed and readable, else the silicon trim (R159, R670). -/
def State.xoCap (s : State) : Byte :=
  if s.provSet 3 && !s.groupBad 0 3 then byteAt (memBytes s.mem (fsAddr 0 3) 8) 0 else byteAt s.trimGroup 0

/-- The internal load capacitance on XC1 and XC2, in units of 0.01 pF (R159, R876). -/
def State.loadCapacitance (s : State) : Nat := 500 + 5 * s.xoCap.toNat

end Sys2Proof.Machine
end

