-- ==== Sys2Proof/Tests/Slice0.lean ====
section
/-!
SUPPORT. Tests: the well-formedness check refuses ill-formed commands, values of the spec's worked examples, and for each statement with
hypotheses a state and operands that meet them.
-/
namespace Sys2Proof.Tests

-- One theorem at a time: each kernel thread reserves its own stack.
set_option Elab.async false

open Sys2Proof.Machine

-- The well-formedness check

/-- R190, R199: coded bits come in blocks of 32, at most those of a body of 277 bytes. -/
theorem test_wf_soft :
    Instr.wellFormed (.crcVerdict .a (List.replicate 31 0)) = false ∧ Instr.wellFormed (.phyHeaderCheck .b (List.replicate 33 0)) = false ∧
      Instr.wellFormed (.crcVerdict .b (List.replicate 4544 0)) = true ∧ Instr.wellFormed (.crcVerdict .b (List.replicate 4576 0)) = false ∧
      paddedBits .s1 277 = 4544 := by decide +kernel

/-- R341: a listen lasts 100 us. -/
theorem test_wf_listen :
    Instr.wellFormed (.presencePoll (List.replicate 99 0) 0 none) = false ∧ Instr.wellFormed (.confirmPoll (List.replicate 101 0) 0) = false ∧
      Instr.wellFormed (.noTokenRetry [] 0) = false ∧ Instr.wellFormed (.lfFlood [0] 0 0) = false ∧
      Instr.wellFormed (.lfFloodListen (List.replicate 100 0)) = true := by decide +kernel

/-- R281: a snapshot takes 256 samples. -/
theorem test_wf_snapshot :
    Instr.wellFormed (.snapshotStart 0 [] 0) = false ∧ Instr.wellFormed (.snapshotStart 0 (List.replicate 256 0) 0) = true := by decide +kernel

/-- R390: a raw run has at most 4,096 samples. -/
theorem test_wf_raw :
    Instr.wellFormed (.rawStop (List.replicate 4097 0)) = false ∧ Instr.wellFormed (.rawDone (List.replicate 4097 0)) = false ∧
      Instr.wellFormed (.rawDone []) = true := by decide +kernel

/-- R734: eight bytes of the stick's header are read. -/
theorem test_wf_stick : Instr.wellFormed (.stickInsert [1, 2]) = false ∧ Instr.wellFormed (.stickInsert (List.replicate 8 0)) = true := by decide

/-- R48: register accesses are 32 bits wide and aligned. -/
theorem test_wf_addr :
    Instr.wellFormed (.rcFieldRead 0 0xE0004001#32 0) = false ∧ Instr.wellFormed (.registerWrite 0x40001002#32 0 0) = false ∧
      Instr.wellFormed (.registerWrite 0x40001008#32 0 0) = true := by decide

/-- R809, R811: a chain frame's length has two bytes. -/
theorem test_wf_payload :
    Instr.wellFormed (.read 1 0 (List.replicate 65536 0) none 0) = false ∧ Instr.wellFormed (.read 1 0 [] none 0) = true := by
  refine ⟨?_, by decide⟩
  show decide ((List.replicate 65536 (0 : Byte)).length < 65536) = false
  rw [List.length_replicate]
  rfl

-- Helper states

/-- The device in RUN with its clocks up, the drip running and the core at the first word of SRAM. -/
def running : State :=
  { State.reset with
    power := { State.reset.power with hold := .none, mode := .run, xoOk := true, pllLock := true }
    drip := { State.reset.drip with running := true, calValid := true, count := 100#48 }
    core := { State.reset.core with pc := 0x20000100#32 } }

/-- As `running`, with general registers at values of interest. -/
def regs : State :=
  { running with core.g := (((((((Vector.replicate 32 0#32).set 1 0x7FFFFFFF).set 2 1).set 3 0x80000000).set 4 0xFFFFFFFF).set 5 0x20000000).set 6
    0x10007FFC).set 7 0x20000001 }

/-- The next state of a command, for a command that gives one. -/
def after (i : Instr) (s : State) : State :=
  match exec i s with
  | .next t => t
  | _ => s

-- The device as a whole

theorem witness_StepRunsTheFrontCommand : State.reset.pending = [] := by decide

theorem witness_EveryStepKeepsMemoryCanonical :
    ({ running with pending := [.sw 1 5 0] } : State).memOk ∧ ∃ t, step { running with pending := [.sw 1 5 0] } = .next t := ⟨by rfl, _, rfl⟩

theorem witness_EveryStepKeepsTheCoreLegal :
    ({ running with pending := [.syscall 1] } : State).coreOk ∧ ∃ t, step { running with pending := [.syscall 1] } = .next t :=
  ⟨by refine ⟨?_, ?_, ?_, ?_⟩ <;> decide, _, rfl⟩

-- The scalar core

theorem witness_core_statements : regs.executes = true := by decide

theorem witness_SaturatingInstructionsClampAndSetSat :
    (regs.input 1).toInt + (regs.input 0).toInt = 2 ^ 31 - 1 ∧ 2 ^ 31 - 1 < (regs.input 1).toInt + (regs.input 2).toInt ∧
      (regs.input 3).toInt + (regs.input 0).toInt = -2 ^ 31 ∧ (regs.input 3).toInt + (regs.input 4).toInt < -2 ^ 31 ∧
      2 ^ 31 - 1 < (regs.input 0).toInt - (regs.input 3).toInt ∧ (regs.input 3).toInt - (regs.input 2).toInt < -2 ^ 31 ∧
      regs.input 3 = 0x80000000#32 := by decide

theorem witness_DivisionsGiveTheirResults :
    regs.input 0 = 0 ∧ regs.input 3 = 0x80000000#32 ∧ regs.input 4 = 0xFFFFFFFF#32 ∧ regs.input 2 ≠ 0 := by decide

-- Loads and stores

/-- A word store to the last word of DTCM waits in the buffer. -/
def storing : State := { regs with core.stores := [⟨0x10007FFC, 4, 0x04030201⟩] }

theorem witness_LoadsGiveTheBytesAtTheAddress :
    (regs.executes = true ∧ regs.core.stores = [] ∧ regs.readable (regs.input 5 + (0#16).signExtend 32).toNat = true ∧
      regs.readable (regs.input 6).toNat = true ∧ regs.readable (regs.input 0).toNat = true ∧ regs.readable (regs.input 7).toNat = true ∧
      (regs.input 6).toNat % 4 = 0 ∧ (regs.input 6 + (2#16).signExtend 32).toNat % 2 = 0) ∧
    (storing.executes = true ∧ regionOf (storing.input 6 + (3#16).signExtend 32).toNat = .dtcm ∧
      storing.core.stores.filter (·.overlaps (storing.input 6 + (3#16).signExtend 32).toNat Width.byte.size) = [⟨0x10007FFC, 4, 0x04030201⟩] ∧
      (storing.input 6 + (3#16).signExtend 32).toNat + Width.byte.size ≤ 0x10007FFC + 4 ∧
      (storing.input 6).toNat % Width.word.size = 0 ∧ (storing.input 6).toNat + Width.word.size ≤ 0x10007FFC + 4) := by decide

theorem witness_StoresReachMemoryThroughTheirBuffer :
    (regs.executes = true ∧ regs.core.stores.length < 8 ∧ (regs.input 6).toNat % 4 = 0 ∧ regionOf (regs.input 6).toNat = .dtcm ∧
      regionOf (regs.input 5).toNat = .sram ∧ regionOf 0x30000000 = .gallery ∧ regionOf 0x40001008 = .io ∧ regs.ioExists 0x40001008 = true) ∧
    (storing.memOk ∧ storing.coreRuns = true ∧ storing.core.stores = [⟨0x10007FFC, 4, 0x04030201⟩] ∧ storing.core.storesHeld = false ∧
      0x10007FFC % 4 = 0 ∧ regionOf 0x10007FFC = .dtcm) := ⟨by decide, by rfl, by decide⟩

theorem witness_BadAccessesRaiseAlignOrBusFault :
    regs.executes = true ∧ regs.uninterrupted = true ∧ regs.core.pc.toNat % 4 = 0 ∧ regs.vectorReady xAlign = true ∧
      regs.vectorReady xBusFault = true ∧ (regs.input 7).toNat % 4 ≠ 0 ∧ (regs.input 7).toNat % 2 ≠ 0 ∧
      regionOf (regs.input 1 + (1#16).signExtend 32).toNat = .none ∧ regionOf (regs.input 0).toNat = .rom ∧ regionOf 0x40001008 = .io ∧
      regionOf 0x08000000 = .flash := by decide +kernel

-- Branches, jumps and system instructions

theorem witness_JumpsGoToTheirTargets :
    regs.executes = true ∧ (regs.input 5).toNat % 4 = 0 ∧ (regs.input 7).toNat % 4 ≠ 0 ∧ regs.uninterrupted = true ∧
      regs.vectorReady xAlign = true ∧ ({ regs with core.epc := 2#32 } : State).executes = true ∧
      ({ regs with core.epc := 2#32 } : State).core.epc.toNat % 4 ≠ 0 := by decide +kernel

theorem witness_SyscallAndBreakEnterTheirVectors :
    regs.executes = true ∧ regs.uninterrupted = true ∧ regs.core.pc.toNat % 4 = 0 ∧ regs.vectorReady xSyscall = true ∧
      regs.vectorReady xBreak = true := by decide +kernel

theorem witness_EretRestoresTheSavedStatus : regs.executes = true ∧ regs.core.epc.toNat % 4 = 0 := by decide

/-- A critical section of depth 1 with a drip request waiting. -/
def critical : State := { regs with core := { regs.core with csd := 1, ie := true, dripEn := true, dripPend := true } }

theorem witness_DiAndEiCountCriticalSections :
    regs.executes = true ∧ regs.reportsMasked = true ∧ regs.core.csd ≠ 1 ∧ critical.executes = true ∧ critical.reportsMasked = true ∧
      critical.core.pc.toNat % 4 = 0 ∧ critical.core.csd = 1 ∧
      (({ critical with core.csd := 0 } : State).takeable.any fun r => critical.vectorReady r.code) = true := by decide +kernel

theorem witness_MfsReadsSpecialRegisters :
    isSpecial 0 = true ∧ isSpecial 0xFF = false ∧ isSpecial 0x25 = true ∧ regs.executes = true ∧ regs.uninterrupted = true ∧
      regs.vectorReady xReservedOp = true := by decide +kernel

theorem witness_MtsWritesSpecialRegisters : regs.core.dsp.inFlight = [] ∧ isSpecial 0x26 = false := by decide

theorem witness_FenceIflushAndDozeDrain :
    (storing.executes = true ∧ ∀ e ∈ storing.core.stores, regionOf e.addr = .dtcm ∨ regionOf e.addr = .sram) ∧
    (regs.executes = true ∧ regs.core.stores = [] ∧ regs.reportsMasked = true ∧ regs.dozeEnds = false ∧ (regs.input 2).getLsbD 0 = true ∧
      ¬(regs.input 3).getLsbD 0 = true ∧ critical.dozeEnds = true ∧ critical.takeable = none) := by decide +kernel

theorem witness_ReservedWordsRaiseReservedOp : isAssigned 0 = false ∧ isAssigned 0xFFFFFFFF = false ∧ regs.vectorReady xReservedOp = true := by
  decide +kernel

-- The DSP datapath, GATHER and custom instructions

/-- Address generators 0 at the last word of DTCM, 1 at a misaligned address, 2 outside DTCM, 3 at the first word. -/
def dspState : State :=
  { regs with core.dsp.ag := #v[{ p := 0x10007FFC }, { p := 0x10000002 }, { p := 0x10008000 }, { p := 0x10000000, s := 4 }] }

theorem witness_MultiplyInstructionsAccumulateExactProducts :
    dspState.executes = true ∧ dspState.core.dsp.inFlight = [] ∧ dspState.dspWordOk (dspState.core.dsp.ag[0]).p.toNat = true ∧
      dspState.dspWordOk (dspState.core.dsp.ag[3]).p.toNat = true := by decide +kernel

theorem witness_DspMovesTransferTheirOperands :
    (dspState.core.dsp.ag[0]).p.toNat % 4 = 0 ∧ (dspState.core.dsp.ag[0]).p.toNat + 4 ≤ 0x10008000 ∧ dspState.core.stores.length < 8 := by decide

/-- R497: a step over the end, one below the base, and one within. -/
theorem witness_AddressGeneratorStepCorrectsOnce :
    let up : AddrGen := { p := 60, s := 8, b := 32, l := 32 }
    let down : AddrGen := { p := 32, s := 0xFFFC, b := 32, l := 32 }
    let stay : AddrGen := { p := 32, s := 4, b := 32, l := 32 }
    up.step.p = 36 ∧ down.step.p = 60 ∧ stay.step.p = 36 ∧
      up.b.toNat + up.l.toNat ≤ (up.p + up.s.signExtend 32).toNat ∧ (down.p + down.s.signExtend 32).toNat < down.b.toNat ∧
      stay.b.toNat ≤ (stay.p + stay.s.signExtend 32).toNat ∧ up.s.toInt.natAbs ≤ up.l.toNat ∧ up.b.toNat + 2 * up.l.toNat ≤ 2 ^ 32 := by decide

theorem witness_DspAccessFaultsChangeNothing :
    dspState.uninterrupted = true ∧ dspState.vectorReady xAlign = true ∧ dspState.vectorReady xBusFault = true ∧
      dspState.vectorReady xGatherFault = true ∧ (dspState.core.dsp.ag[1]).p.toNat % 4 ≠ 0 ∧ (dspState.core.dsp.ag[2]).p.toNat % 4 = 0 ∧
      0x10008000 ≤ (dspState.core.dsp.ag[2]).p.toNat ∧ (dspState.input 7).toNat % 4 ≠ 0 ∧ (dspState.input 6).toNat % 4 = 0 ∧
      0x10007F78 < (dspState.input 6).toNat ∧ dspState.core.stores = [] ∧ dspState.core.dsp.gstart.toNat ≤ (0 : Fin 16).val ∧
      ((dspState.core.dsp.ag[1]).steps dspState.core.dsp.gstart.toNat).p.toNat % 4 ≠ 0 := by decide +kernel

theorem witness_GatherCollectsIndexedWords :
    (dspState.memOk ∧ dspState.executes = true ∧ dspState.core.stores = [] ∧ dspState.core.dsp.inFlight = [] ∧ dspState.uninterrupted = true) ∧
    (let d := dspState.core.dsp
     let index : Nat := ((d.ag[3]).steps 0).p.toNat
     let dest : Nat := ((d.ag[0]).steps 0).p.toNat
     let source : Nat := (dspState.input 5 + memWord dspState.mem index * 4#32).toNat
     gatherDtcm index = true ∧ dspState.ramBad index = false ∧ source % 4 = 0 ∧ gatherSource source = true ∧ dspState.sourceBad source = false ∧
       dspState.flash.busyAt source = false ∧ gatherDtcm dest = true ∧ index + 4 ≤ dest ∧ dest + 4 ≤ source) :=
  ⟨⟨by rfl, by decide +kernel⟩, by decide +kernel⟩

/-- A state whose DSP registers DSAVE has stored at the start of DTCM. -/
def dspSaved : State := after (.dsave 8) { dspState with core.g := dspState.core.g.set 8 0x10000000 }

/-- R521: a DLOAD of an area of words with all bits set. -/
theorem test_dload :
    let s : State := { dspState with core.g := dspState.core.g.set 8 0x10000000, mem := memPutBytes [] 0x10000000 (List.replicate 136 0xFF) }
    let d := (after (.dload 8) s).core.dsp
    s.core.stores = [] ∧ s.ramBad 0x10000084 = false ∧ d.z[7] = 0xFFFFFFFF ∧ d.accI[3] = -1 ∧ d.gstart = 31 ∧ d.zsat = true ∧ (d.ag[0]).l = 0xFFFF := by
  decide +kernel

theorem witness_DsaveAndDloadKeepTheDspState :
    let s : State := { dspState with core.g := dspState.core.g.set 8 0x10000000 }
    (s.memOk ∧ s.executes = true ∧ s.core.stores = [] ∧ s.core.dsp.inFlight = [] ∧ s.uninterrupted = true ∧ (s.input 8).toNat = 0x10000000) ∧
    (dspSaved.executes = true ∧ dspSaved.core.stores = [] ∧ s.input 8 = dspSaved.input 8 ∧
      ∀ i, i < 34 → dspSaved.ramBad (0x10000000 + 4 * i) = false) ∧
    (∀ t, exec (.dsave 8) s = .next t → ∀ b, memGet dspSaved.mem b = memGet t.mem b) := by
  refine ⟨⟨by rfl, by decide +kernel⟩, by decide +kernel, fun t h b => ?_⟩
  simp only [dspSaved, after, h]

theorem witness_EmptyEntriesRaiseCxEmpty :
    (regs.core.cx.table[(7 : Fin 8)]).valid = false ∧ regs.executes = true ∧ regs.uninterrupted = true ∧ regs.vectorReady xCxEmpty = true := by
  decide +kernel

/-- Entry 0 adds ra and rb (R530, R531): ADD t0, ra, rb; WRG rd, t0. -/
def custom : State :=
  { regs with core.cx.table := regs.core.cx.table.set 0 { n := 2, valid := true, ops := ((Vector.replicate 16 0).set 0 0x08A00000#32).set 1 0x82000000#32 } }

theorem witness_CustomInstructionsCompute :
    let x := custom.core.cx.table[(0 : Fin 8)]
    custom.executes = true ∧ x.valid = true ∧ x.n = 2 ∧ uOp x.ops[0] = 2 ∧ uA x.ops[0] = 1 ∧ uB x.ops[0] = 2 ∧ uOp x.ops[1] = 0x20 ∧
      uA x.ops[1] = 4 + (uD x.ops[0]).val ∧ (x.ops[1].extractLsb' 16 2).toNat < 3 ∧ uWellFormed x.ops[0] = true ∧
      uWellFormed x.ops[1] = true := by decide

theorem witness_DecodeTableWritesObeyTheLock :
    let locked : State := { regs with core.cx.lock := true }
    let last : State := { regs with core.cx := { regs.core.cx with word := 16, inc := true } }
    locked.executes = true ∧ locked.core.cx.lock = true ∧ last.core.cx.lock = false ∧ last.core.cx.word.toNat = 16 ∧
      regs.core.cx.word = 0 ∧ (regs.input 2).getLsbD 8 = false := by decide

/-- R538: N of 0 and of 17, a good entry, and one whose second micro-op is not listed. -/
theorem witness_HeaderWritesValidateEntries :
    let e := custom.core.cx.table[(0 : Fin 8)]
    let header (n : Nat) : Word := BitVec.ofNat 32 (0x100 + n)
    (header 0).getLsbD 8 = true ∧ (e.writeHeader (header 0)).bad = true ∧ (e.writeHeader (header 17)).badIdx = 0 ∧
      (e.writeHeader (header 2)).valid = true ∧ (e.writeHeader (header 3)).valid = false ∧ (e.writeHeader (header 3)).badIdx = 3 := by decide

-- Core events

/-- Requests wait: of these leaf groups, enabled, and of the drip. -/
def requesting (ipl : BitVec 3) (drip : Bool) (groups : List (Fin 15)) : State :=
  { regs with
    core := { regs.core with ie := true, ipl := ipl, dripPend := drip, dripEn := drip }
    cause := groups.foldl (fun (c : CauseBlock) (g : Fin 15) => { c with leaf := c.leaf.set g 1, cmask := c.cmask.set g 1 }) regs.cause }

/-- Group 4 requests level 4, group 3 level 3, group 5 level 2 and group 14 level 1 (R849); the level in force is met at its boundary. -/
theorem witness_InterruptEntryTakesTheHighestRequest :
    let takes (s : State) (code : BitVec 5) : Bool := (s.takeable == asyncOrder.find? (·.code == code)) && s.coreRuns && s.vectorReady code
    takes (requesting 3 true [4, 3, 5, 14]) 0x0E ∧ takes (requesting 2 true [3, 5, 14]) 0x0D ∧ takes (requesting 1 true [5, 14]) 0x0A ∧
      takes (requesting 1 false [5, 14]) 0x0C ∧ takes (requesting 0 false [14]) 0x0B ∧ (requesting 2 true [5, 14]).takeable = none ∧
      regs.core.ie = false ∧ (requesting 2 true [5, 14]).coreRuns = true := by decide +kernel

/-- A bank of flash is busy at the PC. -/
def busyFetch : State :=
  { regs with core.pc := 0x08000000, flash.run := some { port := .core, cmd := 2, addr := 0x08000000, data := [] } }

theorem witness_FetchFaultsEnterTheirVectors :
    let none_ : State := { regs with core.pc := 0x40000000 }
    let lost : State := { regs with integ.uncorrWords := [0x20000100] }
    (regs.coreRuns = true ∧ regs.core.episode = none ∧ regs.takeable = none) ∧
    (busyFetch.flash.busyAt 0x08000000 = true ∧ busyFetch.vectorReady xBankBusy = true ∧ busyFetch.takeable = none) ∧
    (none_.coreRuns = true ∧ none_.flash.busyAt 0x40000000 = false ∧ fetchable 0x40000000 = false ∧ none_.vectorReady xBusFault = true ∧
      fetchable (({ none_ with core.vbase := 0x40000000#32 } : State).vectorOf xBusFault).toNat = false) ∧
    (lost.ramBad 0x20000100 = true ∧ regionOf 0x20000100 = .sram ∧ lost.vectorReady xEccUncorr = true ∧ lost.takeable = none) := by decide +kernel

/-- Two slow loads from Flowstone are outstanding, and a store younger than both waits. -/
def loading : State :=
  let back : Checkpoint := { g := running.core.g, sat := true, dz := false, dsp := regs.core.dsp }
  { regs with
    core.outs := [⟨0x200000F8, 8, some 0x38000000, 5, back, 1⟩, ⟨0x200000FC, 9, some 0x38000008, 6, back, 1⟩]
    core.stores := [⟨0x10000000, 4, 1⟩] }

theorem witness_RunAheadLeavesNoTrace :
    (loading.coreRuns = true ∧ loading.core.episode = none ∧ loading.core.wokeDoze = false ∧
      (loading.core.loads[(1 : Fin 4).val]?).map (·.left) = some 6 ∧ loading.takeable = none) ∧
    (after (.runaheadEntry 1) loading).core.episode.isSome = true ∧ (after (.runaheadEntry 1) loading).coreRuns = true := by decide +kernel

/-- R463, R478: an interrupt abandons the older load, what issued after it and the store that waits. -/
theorem test_interrupt_abandons :
    let s : State := { requesting 0 false [14] with core := { (requesting 0 false [14]).core with outs := loading.core.outs, stores := loading.core.stores } }
    let t := after .interruptEntry s
    s.takeable.isSome = true ∧ t.core.epc = 0x200000F8 ∧ t.core.stores = [] ∧ t.core.outs = [] ∧ t.core.g = running.core.g ∧ t.core.sat = true := by
  decide +kernel

-- Drip, supply, clocks and modes

theorem witness_DripEdgeOpensTheNextDrip :
    running.drip.running = true ∧ running.power.hold = .none ∧ running.crossing = none ∧ running.link.reloadEdge = none ∧
      (after .dripEdge running).power.hold = .none ∧ (after .dripEdge running).drip.count = 101 ∧
      (after .dripEdge { running with lantern.resetReq := true }).power.hold = .crystal ∧
      ({ running with drip.count := 0xFFFFFFFFFFFF#48 } : State).drip.running = true := by decide +kernel

/-- The device in SLEEP, with a wake begun or not. -/
def asleep (w : WakePhase) : State := { running with power.mode := .sleep, power.wake := w, drip.running := false, drip.stopEdge := 100#48 }

theorem witness_StoppedDripResumesFromTheTicks :
    (asleep .starting).power.mode = .sleep ∧ (asleep .starting).power.hold = .none ∧ (asleep .restarted).power.wake = .restarted ∧
      (asleep .starting).drip.stopCycles = none ∧ (977 : Fin 8978).val ≤ 977 := by decide

theorem witness_SupplyEventsSetTheirStatus :
    (running.power.hold = .none ∧ running.stoppedMode = false ∧ running.power.bodWarn = false) ∧
    (({ running with power.bodWarn := true } : State).stoppedMode = false) ∧
    ({ running with power.cfg := 1 } : State).power.cfg.getLsbD 0 = true ∧ (asleep .none).power.bodWarn = false ∧
    (let s : State := { running with power.lfSrcRc := false, power.lfActiveRc := false }
     s.power.lfSrcRc = false ∧ s.power.lfActiveRc = false) ∧ running.power.lfFailed = false ∧ (asleep .starting).power.wake = .starting := by
  decide

theorem witness_ResetsClearTheDevice :
    running.flash.run = none ∧ running.power.hold ≠ .brownout ∧ running.power.hold ≠ .pin ∧ (asleep .restarted).power.wake = .restarted ∧
      (asleep .starting).power.hold = .none ∧ ({ asleep .starting with power.mode := .hibernate } : State).power.wake = .starting := by decide

theorem witness_ReleasesLeadToBoot :
    State.reset.power.hold = .brownout ∧ State.reset.power.mode = .run ∧ State.reset.boot.sump = false ∧
      ({ running with power.hold := .pin } : State).power.hold = .pin ∧ ({ running with power.hold := .crystal } : State).power.hold = .crystal ∧
      State.reset.power.nresetLow = false ∧ ({ State.reset with power.nresetLow := true } : State).power.nresetLow = true ∧
      running.drip.stopCycles = none ∧ ({ running with drip.stopRan := true } : State).drip.stopRan = true ∧ (977 : Fin 8978).val ≤ 977 := by
  decide

theorem witness_WakesLatchTheirSources :
    let armed : State := { asleep .none with power.wakeEn := 0x11, periph.gpio.waken := 1, periph.gpio.edgeCfg := running.periph.gpio.edgeCfg.set 0 1 }
    let woken : State := { running with core := { running.core with doze := true, dozeEvent := true } }
    let listening : State := { requesting 0 false [14] with power.mode := .listen }
    (armed.power.hold = .none ∧ armed.stoppedMode = true ∧ armed.power.wake = .none ∧ armed.power.wakeEn.getLsbD 4 = true ∧
      armed.power.mode ≠ .hibernate ∧ armed.periph.gpio.level.getLsbD 0 ≠ true ∧ armed.wakeArmed 0 true = true ∧ armed.wakeArmed 1 true = false) ∧
    ({ armed with power.wakeActive := 1 } : State).power.wakeActive ≠ 0 ∧ ({ armed with lantern.wake := some 200#48 } : State).lantern.wake.isSome = true ∧ armed.drip.stopCycles = none ∧
    (let t := after (.scheduledWake 0 (((200 - 100) * 8000 - 0 - 17600) * 4096 / armed.drip.keptC.toNat)) { armed with lantern.wake := some 200#48 }
     t.power.wake = .starting) ∧
    (woken.core.doze = true ∧ woken.dozeEnds = true ∧ woken.power.wake = .none) ∧
    (listening.power.mode = .listen ∧ listening.cause.levelRequested 1 = true ∧ listening.power.hold = .none) := by decide +kernel

theorem witness_FarWritesWaitForTheTransfer :
    running.coreRuns = true ∧ (7967 : Fin 8000).val < 7968 ∧ 7968 ≤ (7968 : Fin 8000).val ∧ running.drip.phase < 7968 := by decide

-- Radio and link controller

/-- Lane A as given, on a radio that receives. -/
def lane (x : LaneBlock) : State := { running with radio.synthOn := true, radio.laneA := x }

/-- A frame of one line with the PHY header of a 1-byte payload. -/
def held : RxFrame := { lines := [5], header := some (mkPhyHeader 1 false false false false) }

/-- Instantaneous frequencies that alternate by ± `amp` about `mean`. -/
def alternating (n : Nat) (mean amp : Int) : Vector Int n := Vector.ofFn fun k => if k.val % 2 = 0 then mean + amp else mean - amp

/-- Coded bits as a lane receives them without an error. -/
def sure (bs : List Bool) : List (BitVec 4) := bs.map fun b => if b then 15 else 0

/-- 05_radio_phy.md 5: an alternation of half the deviation of S1 is heard up to the capture range; the fine estimate gives offset and phase. -/
theorem test_acquisition :
    let amp : Int := (PhyMode.s1.preambleDeviation false * 65536 / 4000000) / 2 + 1
    let heard (mean : Int) := ((after (.laneDetection .a (alternating 8 mean amp) 0x90 0) (lane { stage := .searching })).lane .a).stage
    let fine := (after (.fineEstimate .a (alternating 16 20 (-100)) 0x90) (lane { stage := .detected, coarse := 30 })).lane .a
    heard 1310 = .detected ∧ heard (-1311) = .searching ∧ fine.offset = 20 ∧ fine.nco = 50 ∧ fine.tau = 65536 ∧ fine.stage = .estimated := by
  decide +kernel

/-- R206, R207: one wrong bit is within the tolerance, and the refined offset and phase freeze with the sync. -/
theorem test_sync :
    let s := lane { stage := .estimated, sync := 0xB4E17A23, coarse := 30, offset := 20, nco := 50 }
    let t := after (.syncFound .a 0xB4E17A22 (alternating 16 24 1) (alternating 16 7 3) 0) s
    (t.lane .a).stage = .frame ∧ (t.lane .a).nco = 54 ∧ (t.lane .a).tau = 7 ∧ (t.lane .a).offset = 20 ∧ (t.lane .a).cntSync = 1 ∧
      (t.lane .a).frame.map (·.lines) = some [0] ∧ ((after (.syncFound .a 0xB4E17A20 (alternating 16 24 1) (alternating 16 7 3) 0) s).lane .a).frame = none := by
  decide +kernel

/-- The coded section of a frame of 25 zero bytes in S4, and one whose header is rejected. -/
def airBits (h : BitVec 16) (body : List Byte) : List (BitVec 4) := sure (codedSection .s4 h body (frameCrc h body))

/-- R192, R200: the lane decodes the header from the first 96 coded bits, here with two of them wrong. -/
theorem test_header :
    let h := mkPhyHeader 15 false false false false
    let s := lane { stage := .frame, mode := .s4, frame := some { held with header := none } }
    let bits := (airBits h (List.replicate 25 0)).take 96
    let read (soft : List (BitVec 4)) : Option (BitVec 16) := ((after (.phyHeaderCheck .a soft) s).lane .a).frame.bind (·.header)
    bits.length = headerBits .s4 ∧ read ((bits.set 8 7).set 70 8) = some h := by decide +kernel

theorem witness_LanesAcquireFrames :
    ((lane { stage := .detected }).lane .a).stage = .detected ∧
    (((lane { stage := .estimated }).lane .a).syncTol = 1 ∧ (lane {}).link.lowestFree = some 0 ∧
      ({ lane {} with link.owner := Vector.replicate 128 .link } : State).link.lowestFree = none) ∧
    (held.lines.length < 3 ∧ { held with header := none }.header = none ∧ phyHeaderOk (mkPhyHeader 1 false false false false) = true ∧
      phyHeaderOk (headerOfBits (receivedSoFar .s4 (airBits 0 []))) = false ∧ headerBits .s4 ≤ (airBits 0 []).length ∧
      phyHeaderOk (mkPhyHeader 4 false false false true) = true) ∧
    ((lane {}).radio.synthOn = true ∧ (lane {}).radio.use = .receive ∧ ({ lane {} with radio.use := .relocking } : State).radio.use = .relocking) := by
  decide +kernel

/-- A core job in slot 0 with this first descriptor word and state. -/
def withJob (s : State) (d0 : Word) (j : Job) : State :=
  { s with link.jobs := s.link.jobs.set 0 { j with desc := (Vector.replicate 8 0#32).set 0 d0 } }

/-- A transmission of slot 0 is on air. -/
def sending (k : TxKind) : OnAir :=
  { kind := k, mode := .s1, channel := 0, base := 863000000, wide := false, sync := 0, level := 10, header := 0, body := [], crc := 0, coded := [], poisoned := false, start := 0 }

theorem witness_TransmissionsRunTheirCourse :
    let armed := withJob running 0x00000001 { state := .armed }
    let acked (p : TxPhase) := withJob running 0x01200001 { state := .active, phase := p, attempts := 2 }
    let onAir : State := { withJob running 0x00000001 { state := .active } with radio.use := .transmit (sending (.job 0)) }
    (armed.link.windows = [] ∧ (armed.job 0).kind = some .tx ∧ (armed.job 0).state = .armed ∧ (armed.job 0).due (armed.atPhase 0).linearNow = true ∧
      armed.radioFree = true ∧ armed.comesFirst 0 = true ∧ armed.firstChecks (armed.job 0) = none ∧ (armed.job 0).secure = false ∧
      (armed.atPhase 0).dutyAllows (armed.job 0).mode (armed.job 0).channel (armed.job 0).bodyLen = true ∧
      ({ armed with power.mode := .service } : State).txBlocked = true) ∧
    (onAir.radio.use = .transmit (sending (.job 0)) ∧ (onAir.job 0).state = .active ∧ (onAir.job 0).ackReq = false ∧
      ((acked .onAir).job 0).ackReq = true) ∧
    (((acked .awaitWindow).job 0).phase = .awaitWindow ∧ ((acked .window).job 0).attempts ≤ ((acked .window).job 0).retries ∧
      ((acked .window).job 0).cancelled = false ∧ ((withJob running 0x01100001 { attempts := 2 }).job 0).retries < 2) ∧
    (let b := acked .backoff
     linear (b.job 0).retryDrip (b.job 0).offset ≤ (b.atPhase 0).linearNow ∧ b.comesFirst 0 = true ∧
       ({ b with link.subBands := b.link.subBands.set 0 { lo := 0, hi := 0xFFFFFFFF, limit := 0 } } : State).dutyAllows (b.job 0).mode
         (b.job 0).channel (b.job 0).bodyLen = false) ∧
    (let s : State := { running with link.pendingAck := some ⟨.a, .s1, 0, 1, false, 2, 3, 795392⟩ }
     s.radio.use = .receive ∧ (795392 + 4608) / 8000 ≤ s.drip.count.toNat ∧ (sending .ack).kind = .ack) := by decide +kernel

theorem witness_OtherJobsRunTheirCourse :
    let armed (d0 : Word) := withJob running d0 { state := .armed }
    let rx := withJob (lane { stage := .searching, job := some 0 }) 2 { state := .active, endDrip := 100 }
    let waiting := withJob running 1 { state := .queued }
    let trig : State := { waiting with link.jobs := waiting.link.jobs.set 0 { state := .queued, desc := #v[1, 0xFFFFFFFF, 0xFFFF, 0, 0, 0, 0, 0] } }
    (([2, 3, 4, 5, 6].map fun k => ((armed (BitVec.ofNat 32 k)).job 0).kind) =
        [some .rx, some .listen, some .relay, some .cal, some .snapshot] ∧
      ((armed 2).job 0).due ((armed 2).atPhase 0).linearNow = true ∧ bandInRange ((armed 2).radio.band .s1 0) = true ∧ (armed 2).radio.use = .receive ∧
      ((armed 2).lane .a).stage = .off ∧ ((armed 2).lane .b).stage = .off ∧ ((armed 2).lane .a).job = none ∧ ((armed 2).lane .a).frame = none ∧
      (armed 2).link.noAckJob = true ∧ (armed 6).link.snapshotsOn .a = [] ∧ (armed 4).link.reloadEdge = none) ∧
    ((rx.job 0).kind = some .rx ∧ (rx.reachTime (linear (rx.job 0).endDrip (rx.job 0).startOffset)).isSome = true ∧ (rx.lane .b).job = none ∧ (rx.lane .a).job = some 0 ∧ (rx.lane .a).frame = none ∧
      ((lane { frame := some held }).lane .a).frame ≠ none) ∧
    ((armed 4).txBlocked = false ∧ ((armed 4).lane .a).policy = none ∧ ({ armed 4 with power.mode := .sump } : State).txBlocked = true ∧
      (armed 5).radioFree = true ∧ (armed 5).comesFirst 0 = true ∧ ({ armed 5 with radio.use := .cal 0 } : State).radio.use = .cal 0) ∧
    (trig.drip.count.toNat < 2 ^ 47 ∧ trig.drip.phase < 8000 ∧ (trig.job 0).waitsTrigger = true ∧
      ∀ m : Fin 16, m < 0 → (trig.job m).waitsTrigger = false) := by decide +kernel

/-- A broadcast data frame of network 0 with a 1-byte payload (R289). -/
def plainBody : List Byte := [0, 0, 0xFF, 0xFF, 2, 0, 7, 0, 0, 0, 0x55]

/-- Lane A at the end of a frame in S4 that holds `plainBody`. -/
def framed : State := lane { stage := .frame, mode := .s4, frame := some { held with syncDrip := 99 } }

/-- R200, R201, R261: the decoded frame of `plainBody` is delivered. -/
theorem test_verdict :
    let t := after (.crcVerdict .a (airBits (mkPhyHeader 1 false false false false) plainBody)) framed
    t.link.evGood = 1 ∧ t.link.rxqNext = [5] ∧ (t.lane .a).frame = none := by decide +kernel

/-- R201: an acknowledgement with a bit of its CRC changed is dropped and its line FREE. -/
theorem test_bad_crc :
    let h := mkPhyHeader 4 false false false true
    let s := lane { stage := .frame, mode := .s4, frame := some { lines := [5], header := some h, syncDrip := 99 } }
    let t := after (.crcVerdict .a (sure (codedSection .s4 h [1, 2, 3, 4] (frameCrc h [1, 2, 3, 4] ^^^ 1)))) s
    t.link.evGood = 0 ∧ t.link.ownerOf 5 = .free ∧ (t.lane .a).frame = none := by decide +kernel

theorem witness_VerdictsStoreOrFreeFrames :
    let h := mkPhyHeader 1 false false false false
    let s := framed
    let c : CheckFrame := ⟨.a, none, [5], [], false, none, none⟩
    (s.link.windows = [] ∧ (s.lane .a).frame = some { held with syncDrip := 99 } ∧ held.header = some h ∧ plainBody.length = bodyLength h held.mic8 ∧
      (airBits h plainBody).length = paddedBits .s4 11 ∧
      (s.reachTime (linear 99 0 + sectionCycles .s4 11)).isSome = true ∧ s.waitsForA .a (linear 99 0 + sectionCycles .s4 11) = false ∧
      (s.lane .b).frame = none ∧
      (32 + plainBody.length + 127) / 128 ≤ held.lines.length ∧ phyAckFrame h = false ∧ phyAckReq h = false ∧
      phySecure h = false ∧ (s.lane .a).policy = none ∧ (s.lane .a).ending = none ∧ s.mesh.netMatches plainBody = true ∧ macDest plainBody = 0xFFFF ∧
      s.link.dupCache.contains (macSrc plainBody, macSeq plainBody) = false ∧ s.link.rxAuto = false) ∧
    (({ s with link.checking := [c] } : State).link.checking = [c] ∧ c.lines = [5] ∧ c.cur = none ∧ Memory.wf s.mem = true) := by decide +kernel

theorem witness_RelaysBeaconsAndLeases :
    let c : Candidate :=
      { src := 1, seq := 1, lane := .a, header := 0, body := plainBody, verdictDrip := 37, slotDrip := 99, slotOffset := 0, heard := 0, waiting := false }
    let s : State := { withJob running 4 { state := .active } with link.relays := [c] }
    let p : State := { s with radio.laneA := { policy := some 0 } }
    let sump : State := { running with power.mode := .sump }
    let asked : State := { running with lantern.leaseAsked := [7] }
    (s.link.relays[0]? = some c ∧ linear c.slotDrip c.slotOffset ≤ (s.reach 0).linearNow ∧
      ({ s with radio.laneA := { stage := .detected } } : State).relayBusy = true ∧ s.relayBusy = false ∧ (s.lane .a).policy = none) ∧
    (let x := { sending .relay with start := 100000 }
     x.downTime ≤ (({ s with radio.use := .transmit x } : State).atPhase 0).linearNow) ∧
    ((p.reach 0).relayBusy = false ∧ (p.reach 0).link.windows = [] ∧ (p.lane .a).policy = some 0 ∧ p.power.mode ≠ .service ∧ p.drip.count.toNat - c.verdictDrip.toNat = 63 ∧
      p.radio.inFence (p.job 0).mode (p.job 0).channel = true ∧ p.dutyAllows (p.job 0).mode (p.job 0).channel c.body.length = true) ∧
    (sump.dripRuns = true ∧ sump.link.beaconDrip ≤ sump.drip.count ∧ sump.radioFree = true ∧ sump.radio.inFence .s1 0 = true ∧
      sump.dutyAllows .s1 0 sump.beaconBody.length = true) ∧
    (asked.flowBackground = true ∧ asked.lantern.leaseAsked.contains (7 : Fin 8) = true ∧ nextLease 0xFFFFFF00 = 0xFFFFFFFF) := by decide +kernel

-- Register accesses, peripherals and conduit

theorem witness_RegisterAccessesReachTheirRegister :
    (running.coreRuns = true ∧ running.drip.phase < 7968 ∧ (7967 : Fin 8000).val < 7968) ∧
    (groupIsControl 13 = true ∧ running.periph.gpio.condition = false ∧ groupIsControl 0 = false ∧
      ({ running with periph.gpio.edge := 1, periph.gpio.irqEn := 1 } : State).periph.gpio.condition = true) ∧
    (let u (s : State) := (s.atPhase 0).settle.drainStores
     (u storing).coreRemovals = [] ∧ (u storing).coreRemovalsLate = [] ∧ (u storing).seen.link.rxq = [] ∧ (u storing).core.stores = [] ∧
      (u { running with seen.link.rxq := [127] }).seen.link.rxq = [127] ∧
      (u running).periph.trng.fifo = [] ∧ (u { running with periph.trng.fifo := [1] }).periph.trng.fifo = [1]) ∧
    (let w (s : State) := State.drainWhile (fun e => regionOf e.addr == .gallery) s.settle.core.stores.length s.settle
     (w loading).seen.link.ownerOf 0 ≠ .core ∧ (w loading).core.stores.length = 1 ∧
      (w { running with seen.link.owner := Vector.replicate 128 .core }).seen.link.ownerOf 127 = .core) ∧
    (running.ioExists 0x40009000 = false ∧ running.ioExists 0x50000030 = true ∧ (0x50000030#32).toNat / 0x10000 = 0x5000) := by decide +kernel

/-- A line of zeros with its check as reset, and with another. -/
theorem witness_lines :
    running.lineGood 127 = true ∧ ({ running with integ.lineCheck := running.integ.lineCheck.set 127 1 } : State).lineGood 127 = false := by
  have h : ∀ i, i < 128 → memGet running.mem (lineBase 127 + i) = 0 := by decide +kernel
  refine ⟨lineGood_zeros (by decide +kernel) h, ?_⟩
  unfold State.lineGood
  rw [lineBytes_zeros (s := { running with integ.lineCheck := running.integ.lineCheck.set 127 1 }) h, lineCrc_zeros]
  decide +kernel

theorem witness_PinsTimersAndPwmActAsTheirRulesSay :
    let top : TimerBlock := { en := true, oneshot := true, cnt := 7, top := 7 }
    running.pclkRuns = true ∧ top.en = true ∧ top.cnt = top.top ∧ ({ en := true, cnt := 6, top := 7 } : TimerBlock).cnt ≠ 7 ∧
      (running.periph.timer[(0 : Fin 4)]).en = false ∧ ({ en := true, auto := true } : PwmBlock).auto = true := by decide

theorem witness_EnginesAndConduitActAsTheirRulesSay :
    let adc (x : AdcBlock) : State := { running with periph.adc := x }
    let sha (r : ShaRun) : State := { running with periph.sha.run := some r }
    let routed : State := { adc { en := true, ch := 9 } with conduit.table := [1, 0x100], conduit.pulses := 1 }
    (running.pclkRuns = true ∧ (adc { en := true }).periph.adc.busy = none ∧ (adc { en := true, busy := some ⟨8, true, true, true⟩ }).periph.adc.busy ≠ none ∧
      (adc { busy := some ⟨7, true, true, true⟩ }).periph.gpio.func.getLsbD (12 + (7#4).toNat) = false ∧ 8 ≤ (8#4).toNat) ∧
    (({ running with periph.trng.en := true } : State).trngRuns = true ∧ running.periph.sha.run = none ∧ running.coreRuns = true) ∧
    ((sha ⟨2, 0x20000000, 64, List.replicate 64 0, 0⟩).shaReason 2 0x20000000 64 = 0 ∧
      memBytes running.mem 0x20000000 64 = List.replicate 64 0 ∧ (sha ⟨2, 0, 0, [], 1⟩).periph.sha.run ≠ none) ∧
    (running.carriesEvents = true ∧ (asleep .none).carriesEvents = false ∧ running.conduit.table = [] ∧ routed.conduit.table = [1#32, 0x100#32] ∧
      routed.conduit.pulses = 1 ∧ routed.periph.adc.en = true ∧ routed.periph.adc.busy = none) := by decide +kernel

-- The Keyholder engine

/-- The engine READY with both channels enabled and a quiet baseline of 100. -/
def keyed : State :=
  { running with key := { running.key with ready := true, lEn := true, oEn := true, oMode := 2, history := [100], last := 100 } }

/-- Token 7 in slot 3, in this state, for these channels. -/
def token (state channels : Byte) (expiry : BitVec 40) : State :=
  { keyed with
    key := { keyed.key with
      table := keyed.key.table.set 3 { id := 7, key := 5, rights := 1, channels := channels, state := state, expiry := expiry }
      lAct := .challenged 7 9 } }

/-- A listen in which the amplitude exceeds NOISE for `n` of its 100 us. -/
def listenOf (n : Nat) : List Byte := List.replicate n 17 ++ List.replicate (100 - n) 16

theorem witness_KeyholderSensesAndDecides :
    (let act (a : KeyActivity) : State := { keyed with key.lAct := a }
     (keyed.lPolls = true ∧ keyed.key.lAct = .idle ∧ keyed.key.present = none ∧ keyed.key.keptArrival = none ∧ keyed.key.object = false ∧
       keyed.key.baseline = some 100 ∧ keyed.key.delta.toNat = ampDiff 108 100 ∧ ampDiff 107 100 < keyed.key.delta.toNat ∧
       (listenOf 49).countP (fun x => decide (keyed.key.noise < x)) = 49 ∧ (listenOf 50).countP (fun x => decide (keyed.key.noise < x)) = 50) ∧
     (keyed.keyRuns = true ∧ keyed.dozing = false ∧ (act .confirming).key.baseline = some 100 ∧ keyed.key.locked = false ∧
       ({ act .confirming with key.locked := true } : State).key.locked = true) ∧
     ((act (.waitId false)).receivesFrames .l = true ∧ keyed.periph.trng.stopped = false ∧ keyed.receivesFrames .o = true ∧ keyed.key.oAct ≠ .raw ∧
       running.receivesFrames .l = false ∧ keyCrc (0x5A#8 :: wordBytes 7) ≠ 0) ∧
     (act .retryWait).key.lAct = .retryWait ∧ (act .raw).key.lAct = .raw) ∧
    (let r := expectedResponse 5 9 7
     r.length = 8 ∧ r ≠ List.replicate 8 0 ∧ (token 3 3 0).receivesFrames .l = true ∧ (token 3 3 0).key.lookup 7 = some 3 ∧
       (token 3 3 0).key.enrollLeft = none ∧ (token 1 3 0).key.lookup 8 = none ∧ (token 1 3 0).key.lookup 7 = some 3 ∧
       (token 2 3 0).key.lookup 7 = some 3 ∧ ((token 1 2 0).key.table[(3 : Fin 64)]).allows .l = false ∧
       ((token 1 1 0).key.table[(3 : Fin 64)]).allows .l = true ∧ (token 1 1 5).key.expired (token 1 1 5).key.table[(3 : Fin 64)] = true ∧
       (token 1 1 0).key.expired (token 1 1 0).key.table[(3 : Fin 64)] = false) ∧
    (keyed.key.hasL = true ∧ keyed.key.lFlood = false ∧ ({ keyed with key.lFlood := true, key.cleanListens := 3 } : State).key.lFlood = true ∧
      keyed.oRuns = true ∧ 4 * keyed.key.delta.toNat < (33#8).toNat ∧ keyed.key.longestMark = 9024 ∧
      keyed.key.oCaptures = true ∧ keyed.key.irRun.length = keyed.key.irCount ∧ 0 ≤ keyed.key.endUnits ∧
      ({ keyed with key.irRun := List.replicate 63 (1, 1), key.irCount := 63 } : State).key.irRun.length = 63) ∧
    (let s : State := { asleep .none with key := keyed.key, power.wakeEn := 4 }
     s.dozing = true ∧ s.key.oEn = true ∧ s.power.wakeEn = 4 ∧ s.power.wake = .none) := by decide +kernel

/-- R339, R354: a downlink's first pauses, and the first marks of a channel-O frame. -/
theorem test_downlink :
    (lPauses (challengeBits 0)).take 3 = [(0, 48), (375, 24), (500, 24)] ∧ (lPauses (challengeBits 0)).length = 89 ∧
      (oFrame (challengeBits 0)).take 3 = [(0, 1000), (1500, 125), (1875, 125)] := by decide +kernel

theorem witness_KeyholderCommandsAndTimesHold :
    (({ keyed with key.locked := true } : State).key.lockSecs = 0 ∧ keyed.keyRuns = true ∧ keyed.key.dormant = false ∧
      ({ keyed with key.ckptDue := true } : State).key.ckptDue = true ∧ keyed.key.ckptDue = false ∧
      ({ keyed with key.enrollLeft := some 0 } : State).key.enrollLeft = some 0 ∧
      keyed.key.quiet < keyed.key.dormWeeks.toNat * 604800 ∧ keyed.key.dormWeeks.toNat * 604800 = 3628800) ∧
    (({ keyed with key.holdLeftL := some 0, key.relL := true } : State).dozing = false ∧
      (let s : State := { asleep .none with key := { keyed.key with holdLeftL := some 0, relL := true, relCommitted := true, release := true } }
       s.dozing = true ∧ s.key.force ≠ 2 ∧ s.key.relO = false)) ∧
    (let s : State := { running with key.tableLoaded := true, drip.gap := true }
     let r : List Byte := [5, 1, 1, 0, 0, 0, 0, 0, 0, 0, 0, 0, 0, 0, 0, 0]
     s.key.ready = false ∧ s.power.mode ≠ .sump ∧ s.key.wakeResumes = false ∧ s.drip.gap = true ∧ r.length = 16 ∧ (byteAt r 1).getLsbD 0 = true ∧
       0 < natAt r 2 2) ∧
    (let p : PresenceSensor := { baseline := some 100, delta := 8, period := 250, seconds := 1 }
     let s : State := { running with key.sensor := some p, power.mode := .hibernate, power.wakeEn := 2 }
     s.key.sensor = some p ∧ s.power.hold = .none ∧ 0 < p.seconds ∧ s.power.wakeEn.getLsbD 1 = true ∧ s.power.wake = .none ∧
       p.delta.toNat ≤ ampDiff 108 100 ∧ p.delta.toNat ≤ ampDiff 92 100 ∧ ampDiff 107 100 < p.delta.toNat ∧ { p with baseline := none }.baseline = none) ∧
    (keyed.power.mode ≠ .sump ∧ keyed.key.hasL = true ∧ ({ keyed with key.orderable := .spx7718 } : State).key.hasL = false) ∧
    (let s : State := { keyed with key.rawCh := .o, key.rawLen := 1, key.rawAddr := 8191 }
     s.key.rawRun = none ∧ s.key.oAct = .idle ∧ 0 < s.key.rawLen.toNat ∧ 4 * s.key.rawAddr.toNat + 2 * s.key.rawLen.toNat ≤ 32768 ∧
       ({ s with key.rawRun := some .o } : State).key.rawRun = some .o ∧ Memory.wf s.mem = true) ∧
    ((0x8002#32).getLsbD 15 = true ∧ (0x8002#32).extractLsb' 0 4 = 2#4 ∧
      (let s : State := { keyed with key.verdictO := some 800000 }
       s.key.verdictBy .o = some 800000 ∧ s.linearNow ≤ 800000 ∧ s.key.verdictBy .l = none) ∧
      (let s : State := { keyed with key.verdictO := some 799999 }
       s.key.verdictBy .o = some 799999 ∧ 799999 < s.linearNow)) := by decide +kernel

-- Flash, scrub and Flowstone

/-- A command sequence complete but for its start write. -/
def sequence (c : BitVec 4) (a : Word) (first : BitVec 8) : State :=
  { running with flash := { running.flash with seq := .data 3, cmd := c, addr := a, areaFirst := first, areaCount := 1 } }

/-- The array runs this core operation. -/
def flashing (c : BitVec 4) (a : Nat) : State :=
  { running with flash.run := some { port := .core, cmd := c, addr := a, data := List.replicate 16 1 } }

theorem witness_FlashOperationsFollowTheirSequence :
    (running.flash.seq = .closed ∧ (0xA5#32).extractLsb' 0 8 = 0xA5#8 ∧ ({ running with flash.seq := .key2 } : State).flash.seq = .key2) ∧
    ((sequence 1 0x080FFFF0 255).flash.inDataArea ((0x080FFFF0 - flashBase) / 4096) = true ∧
      (sequence 2 0x080FF000 254).flash.inDataArea ((0x080FF000 - flashBase) / 4096) = false ∧ (sequence 1 0 0).flash.run = none ∧
      (sequence 1 0 0).flash.waiting = [] ∧ running.power.bodWarn = false ∧ 0x080FFFF0 % 16 = 0 ∧ flashBase = 0x08000000) ∧
    ((flashing 1 0x08000000).unitErased 0x08000000 = true ∧ (flashing 1 0x08000000).integ.deadUnits.contains 0x08000000 = false ∧
      ({ flashing 1 0x08000000 with mem := [(0x08000000, 0)] } : State).unitErased 0x08000000 = false ∧
      (flashing 2 0x080FF000).integ.deadSectors.contains 0x080FF000 = false ∧ 0x080FF000 + 4096 = 0x08100000) ∧
    (({ flashing 3 0x08000000 with mem := [(0x08000000, 0)] } : State).firstProgrammed 0x08000000).isSome = true ∧
    (let waits (a : Nat) : State := { running with flash.waiting := [⟨.update, 2, a, []⟩] }
     (waits 0x08080000).appBank ≠ bankOf 0x08080000 ∧ (waits 0x08000000).appBank = bankOf 0x08000000 ∧ (waits 0x08000000).boot.sump = false) := by
  decide +kernel

theorem witness_blank_sector : (flashing 3 0x08000000).firstProgrammed 0x08000000 = none := by decide +kernel

/-- A ring over these sectors, whose headers stand, with no head yet. -/
def formattedOver (secs : List Nat) (id s8 keys : Nat) : State :=
  { running with
    mem := secs.foldl (fun m sec => memPutBytes m (fsAddr sec 0) (headerGroup id false 1)) running.mem
    lantern.flow.rings := [{ id := id, sectors := secs, s8 := s8, n := secs.length, keys := keys, mirror := false }] }

def formatted : (id s8 keys : Nat) → State := formattedOver [10, 11]

/-- As `formatted`, with one record stored. -/
def stored (id s8 keys key : Nat) (data : List Byte) : State := ((formatted id s8 keys).store id key data.length data).2.2

/-- R315, R318: a ring that stores the record answers with the lease end, a device without the ring with a refusal. -/
theorem test_lease :
    let asks (s : State) : State := { s with lantern.leaseAsked := [7] }
    (after (.leaseCommit 7) (asks running)).lantern.leaseAnswers = [(7, none)] ∧
      (after (.leaseCommit 7) (asks (formatted 2 2 16))).lantern.leaseAnswers = [(7, some 1024)] := by decide +kernel

/-- One slot per sector, that of the head sector 10 used by a write that was cut. -/
def fullHead : State :=
  { running with
    mem := memPut (memPutBytes (formattedOver [10, 11, 12] 16 60 2).mem (fsAddr 10 1) (markerGroup 3)) (fsAddr 10 2) 0
    lantern.flow.rings := [{ id := 16, sectors := [10, 11, 12], s8 := 60, n := 3, keys := 2, mirror := false, head := some 10 }] }

theorem witness_BackgroundWorkKeepsTheStore :
    (running.flowRuns = true ∧ running.integ.scrubRow < running.retainedRows ∧ rowWords 0 running.integ.corrWords = [] ∧
      ({ running with integ.scrubRow := 2303 } : State).integ.scrubRow + 1 = running.retainedRows ∧
      (rowWords 0 [0x20000000, 0x2000007C]).length < 3 ∧ (rowWords 2048 [0x10000000]).getLast? = some 0x10000000 ∧ running.flowBackground = true) ∧
    (∃ r, fullHead.ring 16 = some r ∧ r.head = some 10 ∧ r.ro = false ∧ r.after 10 = 11 ∧ fullHead.sectorFree (r.after 10) = true ∧
      fullHead.nextSlot r.s8 10 = none ∧ ((fullHead.openHead r 11 (fullHead.ringEpoch r)).nextSlot r.s8 11).isSome = true ∧
      (fullHead.openHead r 11 (fullHead.ringEpoch r)).sectorFree (r.after 11) = true ∧ Memory.wf fullHead.mem = true) ∧
    ((stored 16 1 2 0 [1]).nextSlot 1 10).isSome = true ∧
    (let s : State := { running with lantern.flow.orphans := [63] }
     s.lantern.flow.orphans = [63] ∧ s.wornOut none 63 = false ∧
       ({ s with lantern.flow.worn := [63, 63, 63] } : State).wornOut none 63 = true ∧ s.integ.deadSectors.contains (fsAddr 63 0) = false ∧ s.header 63 = none ∧ s.lantern.flow.rings = [] ∧ s.lantern.flow.patrol < 2) := by
  refine ⟨by decide +kernel, ⟨{ id := 16, sectors := [10, 11, 12], s8 := 60, n := 3, keys := 2, mirror := false, head := some 10 }, ?_⟩, ?_, ?_⟩ <;>
    decide +kernel

-- Lantern

/-- One request, of this party, in the queue. -/
def asks (s : State) (by_ : Requester) (req : Byte) (a0 a1 : Word) (input : List Byte) : State :=
  { s with lantern.queue := [{ by_ := by_, tag := 1, req := req, arg := #v[a0, a1, 0, 0], input := input }] }

theorem witness_LanternRequestsAnswerWhatTheyRead :
    (let s := asks running .core 0x08 18 0 []
     s.lantern.queue.length = 1 ∧ (s.lantern.queue.all fun q => q.result.isNone && !q.orphaned && q.req == 0x08 && q.arg[0].toNat % 256 == 18) = true ∧
       s.flowRuns = true ∧ ({ s with power.bodWarn := true } : State).power.bodWarn = true) ∧
    (running.namedRing 16 = none ∧ ((stored 16 1 2 1 [9]).namedRing 16).isSome = true ∧ ((stored 16 1 2 1 [9]).load 16 1).isSome = true ∧
      ((stored 16 1 2 1 [9]).load 16 0).isNone = true) ∧
    (((stored 5 4 64 63 (List.replicate 32 1)).load 5 63).map (·.data.length)) = some 32 ∧
    ((0#48) ≤ running.drip.count ∧ running.drip.count < 101#48 ∧ running.drip.count ≤ running.drip.count) ∧
    (running.lantern.life[18] + (1#32).toNat < 2 ^ 48) := by decide +kernel

theorem witness_LanternRequestsCommitWhatTheyWrite :
    (running.power.bodWarn = false ∧ running.flowRuns = true ∧ calendarEnd < 0xFFFFFFFFFF ∧ (0#40).toNat ≤ calendarEnd) ∧
    (((formatted 16 1 2).namedRing 16).map fun r => (r.keys, 8 * r.s8)) = some (2, 8) ∧
    (let l : State := { running with lantern.mono := (running.lantern.mono.set 0 (0xFFFFFFFF, 0xFFFFFFFF)).set 7 (0, 258) }
     (l.lantern.mono[0]).1 = 0xFFFFFFFF ∧ (l.lantern.mono[7]).1 + 257 < (l.lantern.mono[7]).2) ∧
    (running.storedKeys 0 = (none, none) ∧
      ((stored 3 5 8 2 (keysRecord (some (1, 7)) (some (2, 6)))).storedKeys 2 = (some (1, 7), some (2, 6)))) ∧
    (running.duplicateToken 0 7 = false ∧ (stored 5 4 64 1 ([7, 0, 0, 0] ++ List.replicate 19 0 ++ [1] ++ List.replicate 8 0)).duplicateToken 0 7 = true ∧
      running.load 5 0 = none ∧
      ((stored 5 4 64 1 (List.replicate 23 0 ++ [3] ++ List.replicate 8 0)).load 5 1).map (fun x => byteAt x.data 23) = some 3) ∧
    (running.groupErased 0 24 = true ∧ ({ running with mem := [(0x38000000 + 8 * 3, 0)] } : State).groupErased 0 3 = false ∧
      running.integ.deadGroups.contains (fsAddr 0 3) = false ∧ Memory.wf running.mem = true) := by decide +kernel

/-- A stick's directory of one entry, of no kind that is evaluated. -/
def emptyStick : List Byte := [0x53, 0x50, 0x58, 0x44, 1, 1, 0, 0] ++ leBytes 4 (crc32 (List.replicate 32 0)).toNat ++ List.replicate 36 0

theorem witness_CalendarStickAndConfirmationRun :
    (running.power.hold ≠ .brownout ∧ running.lantern.calendar.toNat < calendarEnd ∧ running.flowRuns = true ∧
      ({ running with lantern.alarmArmed := true, lantern.alarm := 1 } : State).lantern.alarm ≤ running.lantern.calendar + 1) ∧
    (({ running with lantern.sinceCkpt := 3600 } : State).flowBackground = true ∧ running.lantern.sinceCkpt < 3600) ∧
    (({ running with lantern.confirmPending := true } : State).lantern.confirmLeft = 0 ∧ running.lantern.stickPresent = false ∧
      ({ running with lantern.stickPresent := true } : State).lantern.stickPresent = true ∧ running.update.owner ≠ .stick) ∧
    (let s : State := { running with lantern.sfdpOk := true, update.stickAuto := true }
     s.lantern.sfdpOk = true ∧ s.update.evaluated = false ∧ s.update.state = .idle ∧ s.stoppedMode = false ∧ s.flash.run = none ∧
       stickValid [] = false ∧ stickValid emptyStick = true ∧ (s.stickPick emptyStick 1).isNone = true ∧ (s.stickPick emptyStick 2).isNone = true) := by
  decide +kernel

-- The update engine

/-- The engine in this state with one command of this code and offset at the head of its queue, sent and owned by the core. -/
def updating (st : UpState) (cmd : BitVec 4) (offset crc : Word) (data : List Byte) : State :=
  { running with
    update := { running.update with
      state := st, owner := if st = .idle then .none else .core, target := 2
      queue := [{ owner := .core, cmd := cmd, kind := 1, slot := 2, offset := offset, crc := crc, data := data }] } }

/-- A block of which only its last unit is to be programmed. -/
def lastUnit : List Byte := List.replicate 255 0xFF ++ [0]

theorem witness_UpdateCommandsRunTheSession :
    (let s := updating .idle 1 0 0 []
     let n := s.upTarget 1 2
     (updating .receiving 1 0 0 []).update.state ≠ .idle ∧ s.update.block.isNone = true ∧ n = 2 ∧ s.bootRecord.trial = false ∧ n ≠ s.boot.appSlot ∧
       n ≠ s.boot.linkSlot ∧ bankOf (slotBase n) ≠ s.appBank ∧ s.power.bodWarn = false) ∧
    (let d : List Byte := List.replicate 15 0xFF ++ [0]
     let s := updating .receiving 2 0x6FF00 (crc32 (leBytes 4 0x6FF00 ++ d)) d
     s.update.owner = .core ∧ s.upReads = true ∧ 0x6FF00 % 256 = 0 ∧ 0x6FF00 < slotSize 2 ∧ slotSize 2 ≤ 0x70000 ∧
       nextUnit (List.replicate 256 0xFF) 0 = none ∧ nextUnit d 0 = some 0 ∧ nextUnit lastUnit 0 = some 15 ∧ nextUnit lastUnit 16 = none ∧
       crc32 (leBytes 4 0x6FF00 ++ d) ≠ 0 ∧ s.update.bitmap.getLsbD (0x6FF00 / 256) = false) ∧
    (let s : State := { updating .receiving 3 0 0 [] with update.bitmap := 1 }
     s.update.bitmap.getLsbD 0 = true ∧ s.headerVerdict (s.image 2) ≠ vdValid ∧ running.update.bitmap.getLsbD 0 = false) ∧
    ((updating .ready 4 0 0 []).bootRecord.trial = false ∧ (updating .ready 4 0 0 []).update.tested = false ∧
      ({ updating .ready 4 0 0 [] with boot.sump := true } : State).boot.sump = true ∧ (updating .ready 5 0 0 []).update.open_.isNone = true) ∧
    (let s : State := { updating .receiving 2 0 0 lastUnit with
        update.block := some ({ owner := .core, cmd := 2, data := lastUnit }, 15), flash.run := some ⟨.update, 1, 0x080800F0, List.replicate 16 1⟩ }
     s.unitErased 0x080800F0 = true ∧ s.integ.deadUnits.contains 0x080800F0 = false ∧ s.update.aborting.isNone = true ∧ Memory.wf s.mem = true) ∧
    (({ updating .ready 0 0 0 [] with update.quiet := 300 } : State).update.quiet = 300 ∧ running.update.quiet < 300) ∧
    (({ running with update.activation := .atEdge 100 } : State).drip.count = 100 ∧ running.drip.running = true ∧
      ({ running with update.activation := .link } : State).quietEdge = true ∧ running.link.reloadEdge = none ∧
      ({ running with radio.use := .relocking } : State).quietEdge = false ∧
      ({ running with link.reloadEdge := some 100 } : State).link.reloadEdge = some 100 ∧
      ({ running with update.activation := .restart 100, core.stopped := true } : State).core.stopped = true) := by decide +kernel

/-- The edge at which the reload of the image in slot 3 ends; its header has the IFGEN of these bytes and no sections. -/
def headed (a b : Byte) : State :=
  { running with
    mem := (List.range 384).map fun k => (0x080F0000 + k, if k = 16 then a else if k = 17 then b else 0)
    update := { running.update with activation := .link, target := 3 }, link.reloadEdge := some 100 }

theorem headed_image (a b : Byte) :
    ((headed a b).image 3).ifgen = a.toNat + 256 * b.toNat ∧ (headed a b).section ((headed a b).image 3) 0 = [] := by
  constructor
  · rfl
  · rfl

/-- An image whose generation is its IFGEN, and one of another generation, whatever generation its code reports. -/
theorem witness_link_generation :
    (∃ s : State, s.update.activation = .link ∧ s.link.reloadEdge = some 100 ∧ 100 ≤ s.drip.count ∧ s.drip.running = true ∧
      (bits (Config.ucode (s.section (s.image s.update.target) 0)) 0 16).toNat = (s.image s.update.target).ifgen) ∧
    (∃ s : State, s.update.activation = .link ∧ s.link.reloadEdge = some 100 ∧ 100 ≤ s.drip.count ∧ s.drip.running = true ∧
      (bits (Config.ucode (s.section (s.image s.update.target) 0)) 0 16).toNat ≠ (s.image s.update.target).ifgen) := by
  generalize h : (bits (Config.ucode []) 0 16).toNat = n
  have hn : n < 65536 := by rw [← h]; exact (bits (Config.ucode []) 0 16).isLt
  have gen (a b : Byte) (r : Nat → Nat → Prop) (hr : r n (a.toNat + 256 * b.toNat)) :
      r (bits (Config.ucode ((headed a b).section ((headed a b).image (headed a b).update.target) 0)) 0 16).toNat
        ((headed a b).image (headed a b).update.target).ifgen := by
    show r (bits (Config.ucode ((headed a b).section ((headed a b).image 3) 0)) 0 16).toNat ((headed a b).image 3).ifgen
    rw [(headed_image a b).1, (headed_image a b).2, h]
    exact hr
  refine ⟨⟨headed (BitVec.ofNat 8 n) (BitVec.ofNat 8 (n / 256)), rfl, rfl, ?_, rfl, gen _ _ Eq ?_⟩, ?_⟩
  · show (100#48) ≤ 100#48; decide
  · simp only [BitVec.toNat_ofNat]; omega
  · by_cases h0 : n = 0
    · exact ⟨headed 1 0, rfl, rfl, by show (100#48) ≤ 100#48; decide, rfl, gen 1 0 (· ≠ ·) (by subst h0; decide)⟩
    · exact ⟨headed 0 0, rfl, rfl, by show (100#48) ≤ 100#48; decide, rfl, gen 0 0 (· ≠ ·) (by simpa using h0)⟩

-- The chain port

/-- A unit at address 5 with a host of generation 1. -/
def chained : State := { running with chain.addr := 5 }

theorem witness_ImmediateChainOperationsAnswer :
    (chained.chainServes = true ∧ chained.chain.addr ≠ 0 ∧ chained.chain.addr ≠ 63 ∧ chained.chain.hostMajor = 1 ∧ running.chain.addr = 0 ∧
      ({ running with chain.eni := true } : State).chain.eni = true ∧ (31#8).toNat ≤ 31 ∧ 31 < (32#8).toNat) ∧
    (crc16 (frameBytes 5 0x04 1 []) ≠ 0 ∧ (4#6) ≠ chained.chain.addr ∧ (0xFFFC#16).toNat % 4 = 0 ∧
      ((chained.atPhase 0).csnFalls.windowRead 0).isSome = true ∧ ((chained.atPhase 0).csnFalls.windowRead 0xFFFC).isNone = true) ∧
    ((2#8).getLsbD 0 = false ∧ (2#8).getLsbD 1 = true ∧ chained.chain.takeQueue = [] ∧ chained.chain.taken = []) ∧
    (let s : State := { chained with
        mem := [(lineBase 127 + 24, 0xFF), (lineBase 127 + 25, 0xFF), (lineBase 127 + 26, 96)], chain.takeQueue := [127]
        link.owner := running.link.owner.set 127 .chain }
     s.chain.takeQueue = [127] ∧ s.link.ownerOf 127 = .chain ∧ byteAt (s.lineBytes 127) 24 = 0xFF ∧ byteAt (s.lineBytes 127) 25 = 0xFF ∧
       natAt (s.lineBytes 127) 26 2 = 96) ∧
    (({ chained with chain.ready := [⟨1, 5, 0, []⟩] } : State).chain.ready.length = 1 ∧ chained.chain.ready = [] ∧
      ({ chained with chain.last := some ⟨1, 5, 0, []⟩ } : State).chain.last.isSome = true) := by decide +kernel

theorem witness_QueuedChainOperationsAreAccepted :
    (({ chained with chain.ready := List.replicate 8 ⟨1, 5, 0, []⟩ } : State).chain.outstanding = 8 ∧
      ({ chained with chain.ready := List.replicate 7 ⟨1, 5, 0, []⟩ } : State).chain.outstanding < 8 ∧
      ({ chained with chain.ready := [⟨1, 5, 0, []⟩] } : State).chain.tagUsed 1 = true) ∧
    (chained.chainServes = true ∧ chained.chain.waiting = [] ∧ chained.chain.ready.length < 8 ∧ chained.chain.tagUsed 1 = false ∧
      (byteAt [14, 0, 0, 0, 1, 0, 0, 0] 0).toNat < 15 ∧ byteAt [0xFF, 0, 0, 0, 1, 0, 0, 0] 0 = 0xFF) ∧
    (let p : List Byte := [1, 0, 0, 0, 0, 0, 0x20]
     p.length = 7 ∧ byteAt p 0 = 1 ∧ natAt p 3 4 % 4 = 0 ∧ regionOf (natAt p 3 4) = .sram ∧ chained.debugOpen = false ∧
       ({ chained with chain.dbgOpen := true } : State).debugOpen = true ∧ ([0, 0, 0, 0, 0, 0, 0x20] : List Byte).length = 7 + 4 * 0) ∧
    (chained.link.txEn = false ∧
      ({ chained with link.txEn := true, link.owner := Vector.replicate 128 .link } : State).link.freeRun ((19 - 8 + 127) / 128) = none ∧
      chainListed.contains (0x08#8).toNat = false) := by decide +kernel

/-- A signed link image of 16 zero bytes of microcode: header, digest, key and signature (R739, R740). -/
def linkImage : List Byte :=
  [0x53, 0x50, 0x58, 0x49, 1, 2] ++ List.replicate 6 0 ++ leBytes 4 400 ++ List.replicate 112 0 ++ leBytes 4 384 ++ leBytes 4 16 ++
    List.replicate 56 0 ++ beBytes 32 0x374708fff7719dd5979ec875d56cd2286f6d3cf7ec317a3b25632aab28ec37bb ++ List.replicate 32 0 ++
    beBytes 32 0x12d4c0a288f6309a09d8d6424d5413edc89926c07b9b9784b1714a9c12ec48c4 ++
    beBytes 32 0x59ed1b253c4b370927b75d0dff1ec0b53d5fae97f61ea440362fdfc1d5f810ad ++
    beBytes 32 0x51590b7a515140d2d784c85608668fdfef8c82fd1f5be52421554a0dc3d033ed ++
    beBytes 32 0x51590b7a515140d2d784c85608668fdfef8c82fd1f5be52421554a0dc3d033ed ++ List.replicate 16 0

/-- The image in slot 3 and the hash of its key in key-hash slot 0, its session at the CLOSE. -/
def signed : State :=
  let cells (a : Nat) (bs : List Byte) : List Host.Cell := (bs.zipIdx.map fun x => (a + x.2, x.1)).filter fun x => x.2 != 0xFF
  { running with
    mem := cells 0x080F0000 linkImage ++ cells 0x38000020 (beBytes 32 0x089bcd4f59a45db5707da9422d375ece5703ea5327e85d76d31926ce1c322a5c)
    update := { running.update with state := .verifying, owner := .core, target := 3, open_ := some { owner := .core, cmd := 3 }, bitmap := 3 } }

theorem witness_valid_header :
    signed.headerVerdict (signed.image 3) = vdValid ∧ (signed.image 3).len = 400 ∧ signed.update.firstMissing 400 = none ∧
      ({ signed.update with bitmap := 1 } : UpdateBlock).firstMissing 400 = some 256 := by decide +kernel

theorem witness_valid_body : signed.bodyVerdict (signed.image 3) = vdValid ∧ signed.bootRecord.rejects (signed.image 3) = false := by decide +kernel

/-- R840: FRAME_SEND of 19 bytes takes line 127, stores its 11 bytes there and runs in host slot 15. -/
theorem test_frame_send :
    let s : State := { chained with link.txEn := true, link.hslots := 1, link.ucodeGen := 1 }
    let p : List Byte := [0, 0, 0, 0, 1, 0, 0, 0, 1, 0, 2, 3, 4, 5, 6, 7, 8, 9, 10]
    let t := after (.frameSend 5 1 p (some (crc16 (frameBytes 5 0x20 1 p))) 0) s
    s.memOk ∧ (((List.finRange 16).filter fun n => s.link.hostRange n && (s.job n).state == .free) = [15] ∧ s.link.freeRun 1 = some [127] ∧
      t.chain.waiting.map (·.lines) = [[127]] ∧ (t.job 15).desc = s.sendDesc p 127 1 ∧ memBytes t.mem (lineBase 127) 11 = p.drop 8 ∧
      ((List.finRange 16).filter fun n => chained.link.hostRange n && (chained.job n).state == .free) = []) := by
  refine ⟨by rfl, ?_⟩
  decide +kernel

/-- R844: an open DEBUG stores an SRAM word, and passes a register write on. -/
theorem test_mem_write :
    let s : State := { chained with chain.dbgOpen := true }
    let write (p : List Byte) : State := after (.memWrite 5 1 p (some (crc16 (frameBytes 5 0x38 1 (2 :: p)))) 0) s
    let ram := write [1, 0, 0, 0, 0, 0, 0x20, 1, 2, 3, 4]
    let io := write [1, 0, 0, 0x30, 0, 0, 0x50, 1, 2, 3, 4]
    regionOf 0x50000030 = .io ∧ ram.chain.ready = [⟨1, 0x38, 0, []⟩] ∧ memBytes ram.mem 0x20000000 4 = [1, 2, 3, 4] ∧
      io.hostWrites = [⟨0x50000030, 0x04030201⟩] ∧ io.mem = [] := by decide +kernel

/-- R144, R145, R150, R156: pins in reset, in HIBERNATE, and while their blocks run them. -/
theorem test_pins :
    let g : GpioBlock := { running.periph.gpio with
      func := 0x1010, dir := 0x0E0, out := 0x0C0, pull := (running.periph.gpio.pull.set 0 1).set 12 2 }
    let s : State := { running with periph.gpio := g, periph.pwm := running.periph.pwm.set 0 { en := true, perCur := 9, dutyCur := 5 } }
    let cnt : Fin 6 → Nat := fun _ => 4
    (State.reset.pin cnt .antSel = .low ∧ State.reset.pin cnt .svcDet = .pullUp ∧ State.reset.pin cnt (.gpio 0) = .hz ∧
      State.reset.pin cnt .attn = .off) ∧
    (s.pin cnt (.gpio (pwmPin 0)) = .high ∧ s.pin (fun _ => 5) (.gpio 4) = .low ∧ s.pin cnt (.gpio 5) = .low ∧ s.pin cnt (.gpio 6) = .high ∧
      s.pin cnt (.gpio 0) = .pullUp ∧ s.pin cnt (.gpio 12) = .pullDown) ∧
    (let h : State := { s with power.mode := .hibernate, periph.gpio.hibPull := (running.periph.gpio.hibPull.set 0 1) }
     h.pin cnt (.gpio 0) = .pullUp ∧ h.pin cnt (.gpio 6) = .hz ∧ h.pin cnt .chEno = .low) ∧
    ((sending .relay).port = .rfTrx ∧ ({ sending .relay with level := 15 } : OnAir).port = .rfHp) := by decide +kernel

/-- R284, R790: LINK_RELOAD holds the radio for 16 drips; its edge makes the target live, or loads the running image again. -/
theorem test_link_reload :
    let s : State := { running with update := { running.update with activation := .link, target := 3, state := .activating } }
    let t := after .linkReload s
    t.radio.use = .reload ∧ t.link.reloadEdge = some 116 ∧ t.lantern.confirmLeft = 60 ∧
      ({ t with drip.count := 115 } : State).reloadEdge = { t with drip.count := 115 } ∧
      (let u := ({ t with drip.count := 116, update.activation := .none } : State).reloadEdge
       u.radio.use = .receive ∧ u.link.reloadEdge = none) := by decide +kernel

-- Worked examples of the spec

/-- The words of 09_kraura_isa.md 8, 11_dsp_datapath.md 9 and 12_custom_instructions.md 7 and the instructions they stand for; 0, all ones, an EMU
major and a word with a field that is not 0 stand for none (R407 to R411, R492, R493, R527). -/
theorem test_words :
    ([(0x0CA80020#32, Instr.mfs 5 0x20), (0x20E50001#32, .addi 7 5 1), (0x00841CA0#32, .sltu 8 7 5), (0x00131900#32, .add 6 6 8),
      (0x39205000#32, .movhi 9 0x5000), (0x004528C0#32, .or 10 10 6), (0x60E91064#32, .sw 7 9 0x1064), (0xC08B0000#32, .cmac 2 1 1 true),
      (0xF810000F#32, .cx 0 4 0 0 15)].all fun x => instrOf x.1 == some x.2) = true ∧ (instrOf 0xD6D3E000#32).isSome = true ∧
      ([0#32, 0xFFFFFFFF#32, 0xF0000000#32, 0x00131901#32].all fun w => (instrOf w).isNone && !isAssigned w) = true := by decide

/-- No row of the table gives bits, so no word spells a command. -/
theorem test_decodeTableWord : decodeTableWord 32 0x20E50001 = none := by decide

/-- 09_kraura_isa.md 8: addi g7, g5, 1 from 0x31327E49, and movhi g10, 0x1400. -/
theorem test_scalar_trace :
    (after (.addi 7 5 1) { running with core.g := running.core.g.set 5 0x31327E49 }).core.reg 7 = 0x31327E4A ∧
      (after (.movhi 10 0x1400) running).core.reg 10 = 0x14000000 ∧ (after (.mfs 5 0x20) running).core.reg 5 = 100 := by decide +kernel

/-- 02_drip.md 8: a wake from DEEP with e = 362, n = 2,949,120 and C = 4,000,096. -/
theorem test_drip_trace :
    let s : State := { asleep .starting with drip := { (asleep .starting).drip with stopEdge := 5120000000#48, keptC := 4000096#32 } }
    let t := after (.resumeTick 362 2949120) s
    t.drip.count = 5120360008#48 ∧ t.drip.phase = 5482 ∧ t.core.dripMiss = s.core.dripMiss := by decide +kernel

/-- 05_radio_phy.md 12: header 0x06E6 leaves as 0xE6, 0x06 and whitens to 0x19, 0xE7; B = 24 in S2 is 492 coded bits and 5.76 ms. -/
theorem test_phy_trace :
    mkPhyHeader 6 true true true false = 0x06E6 ∧ headerBytes 0x06E6 = [0xE6, 0x06] ∧
      whiten (([0xE6, 0x06] : List Byte).flatMap bitsLsb) = ([0x19, 0xE7] : List Byte).flatMap bitsLsb ∧ codedBits .s2 24 = 492 ∧
      frameCycles .s2 24 = 5760 * 32 := by decide +kernel

/-- 06_link_controller.md 11: 1,856 us are charged for a frame of B = 28 in S3, 896 us for its ACK. -/
theorem test_airtime_trace : airtimeUs .s3 28 = 1856 ∧ airtimeUs .s3 4 = 896 := by decide +kernel

/-- 07_istiyn_security.md 7: the lease from 0x3000, and the replay entry after the frame, its retry and a delayed frame. -/
theorem test_security_trace :
    let e : ReplayEntry := { src := 0x0C03, slot := 0, epoch := 1, hc := 0x2EFD, window := 1, drip := 0 }
    let e1 := (e.check 1 0x2EFF).2
    nextLease 0x3000 = 0x3400 ∧ (e1.hc, e1.window) = (0x2EFF, 5) ∧ (e1.check 1 0x2EFF).2 = e1 ∧ (e1.check 1 0x2EFE).2.window = 7 ∧
      (e1.check 1 0x2EFE).1 = .ok := by decide +kernel

/-- 08_keyholder.md 12: amplitude 199 against a baseline of 221 asks for confirmation. -/
theorem test_keyholder_trace :
    (after (.presencePoll (listenOf 0) 199 none) { keyed with key.history := [221] }).key.lAct = .confirming ∧ ampDiff 199 221 = 22 := by decide +kernel

/-- 11_dsp_datapath.md 9.1: CMAC of 0.5 + 0.25j and 0.75 - 0.25j, the ring's step, and ZACC with sh = 15. -/
theorem test_dsp_trace :
    let s : State := { running with
      mem := memPutBytes [] 0x10000100 (wordBytes 0xE0006000)
      core.dsp := { running.core.dsp with
        z := running.core.dsp.z.set 1 0x20004000, ag := running.core.dsp.ag.set 1 { p := 0x10000100, s := 4, b := 0x10000100, l := 128 } } }
    let t := after (.cmac 2 1 1 true) s
    let d := t.core.dsp.drain
    d.accI[2] = 0x1C000000 ∧ d.accQ[2] = 0x04000000 ∧ (d.ag[1]).p = 0x10000104 ∧
      ((after (.zacc 3 2 15 false) { t with core.dsp := d }).core.dsp.drain.z[3]) = 0x08003800 ∧
      ({ p := 0x1000017C, s := 4, b := 0x10000100, l := 128 } : AddrGen).step.p = 0x10000100 := by decide +kernel

/-- 12_custom_instructions.md 7: PWR g4, 15 gives 11,240, steps ag0 and leaves the sample in z7. -/
theorem test_custom_trace :
    let e : CxEntry := { ops := #v[0x44008000, 0x66003800, 0x7400C000, 0x6041F800, 0x6C04C000, 0x26B40000, 0x08580000, 0x83000000, 0, 0, 0, 0, 0, 0, 0, 0] }
    let s : State := { running with
      mem := memPutBytes [] 0x10002000 (wordBytes 0x20004000)
      core := { running.core with
        g := running.core.g.set 4 1000, cx.table := running.core.cx.table.set 0 (e.writeHeader 0x108)
        dsp.ag := running.core.dsp.ag.set 0 { p := 0x10002000, s := 4 } } }
    let t := after (.cx 0 4 0 0 15) s
    (e.writeHeader 0x108).valid = true ∧ t.core.reg 4 = 11240 ∧ (t.core.dsp.drain.ag[0]).p = 0x10002004 ∧ t.core.dsp.drain.z[7] = 0x20004000 ∧
      t.core.dsp.drain.accI[3] = 0x14000000 := by decide +kernel

/-- 14_peripherals.md 11: code 2,560 on VBAT is 3,000 mV inside the window; code 2,000 is 2,344 mV and outside. -/
theorem test_adc_trace :
    let s : State := { running with periph.adc := { en := true, ch := 9, busy := some ⟨9, true, true, false⟩, lo := 2048, hi := 4095 } }
    let t := after (.adcConversionEnd 2560) s
    let u := after (.adcConversionEnd 2000) s
    t.periph.adc.vbat = 3000 ∧ t.periph.adc.win = false ∧ (t.cause.leaf[13]).getLsbD 6 = false ∧ u.periph.adc.vbat = 2344 ∧ u.periph.adc.win = true ∧
      (u.cause.leaf[13]).getLsbD 6 = true := by decide +kernel

/-- 21_chain_port.md 9.1: ASSIGN of 1 to an unassigned unit with CH_ENI high answers MARK alone, then part 0x7720 and cause POWER_ON. -/
theorem test_enumeration_trace :
    let s : State := { running with chain.eni := true }
    let t := after (.assign 0 0 [1] (some (crc16 (frameBytes 0 0x02 0 [1]))) 0) s
    t.chain.addr = 1 ∧ t.chain.eno = true ∧ (t.cause.leaf[10]).getLsbD 3 = true ∧ (t.chain.answer.take 2) = [0x02, 0xA5] ∧
      t.chain.answer.length = 26 ∧ (t.chain.answer.drop 7).take 2 = [0x20, 0x77] := by decide +kernel

/-- 22_cause_tree.md 9: CLEAR of group 10 delivered at a transfer leaves a leaf that was set after the view it acts on (R44). -/
theorem test_clear_trace :
    let s : State := { running with cause := { running.cause with
      leaf := running.cause.leaf.set 10 1, view := running.cause.view.set 10 1, hostClear := running.cause.hostClear.set 10 1, hostMask := 0xE00 } }
    let again : State := { s with cause.fresh := s.cause.fresh.set 10 1 }
    ((after .dripEdge s).cause.leaf[10]) = 0 ∧ (after .dripEdge s).cause.attnLow = false ∧ ((after .dripEdge again).cause.leaf[10]) = 1 ∧
      (after .dripEdge again).cause.attnLow = true := by decide +kernel

/-- FIPS 197: the AES-128 block of the standard's appendix B, the cipher of 14_peripherals.md 8 (R601). -/
theorem test_aes : aes128 (beBytes 16 0x2b7e151628aed2a6abf7158809cf4f3c) (beBytes 16 0x3243f6a8885a308d313198a2e0370734) =
    beBytes 16 0x3925841d02dc09fbdc118597196a0b32 := by decide +kernel

/-- FIPS 180-4: SHA-256 of "abc" (R598). -/
theorem test_sha256 : sha256 [0x61, 0x62, 0x63] = beBytes 32 0xba7816bf8f01cfea414140de5dae2223b00361a396177a9cb410ff61f20015ad := by decide +kernel

end Sys2Proof.Tests
end

section
/-!
PROOFS. A read of a line's last word through the line window (R628) takes one cycle, in which a DSP write in flight can end. The cause tree after
the read is then not the one that the read found (R854).
-/
namespace Sys2Proof.Machine

-- The cause tree

theorem State.setLeaf_leaf_getLsbD (s : State) {l : Leaf} (h : l.place.2 < 32) :
    ((s.setLeaf l).cause.leaf[l.place.1]).getLsbD l.place.2 = true := by
  simp [State.setLeaf, CauseBlock.set, CauseBlock.markLate, Leaf.mask, h]

/-- DSP state whose ZSAT rises sets DSP.ZSAT (R854). -/
theorem State.setDsp_leaf_zsat {s : State} {d : DspBlock} (before : s.core.dsp.zsat = false) (after : d.zsat = true) :
    ((s.setDsp d).cause.leaf[5]).getLsbD 1 = true := by
  simp only [State.setDsp, before, after]
  exact State.setLeaf_leaf_getLsbD _ (l := .dspZsat) (by decide)

/-- Cycles in which a DSP write raises ZSAT set DSP.ZSAT. -/
theorem State.tick_leaf_zsat {s : State} {k : Nat} (before : s.core.dsp.zsat = false) (after : (s.core.dsp.advance k).zsat = true) :
    ((s.tick k).cause.leaf[5]).getLsbD 1 = true :=
  State.setDsp_leaf_zsat (s := { s with core := s.core.pass k }) before after

-- The line window

/-- The core once its stores to the gallery have drained (R628). -/
def State.galleryDrained (s : State) : State :=
  State.drainWhile (fun e => regionOf e.addr == .gallery) s.core.stores.length s

theorem State.galleryDrained_of_no_stores {s : State} (h : s.core.stores = []) : s.galleryDrained = s := by
  simp [State.galleryDrained, h, State.drainWhile]

/-- Byte address of a line's last word in the line window (R46). -/
def windowEnd (n : Fin 128) : Nat := 0x30010000 + 128 * n.val + 0x7C

theorem regionOf_windowEnd (n : Fin 128) : regionOf (windowEnd n) = .window := by
  have := n.isLt
  unfold regionOf windowEnd
  repeat rw [if_neg (by omega)]
  rw [if_pos (by omega)]

theorem lineOf_windowEnd (n : Fin 128) : lineOf (windowEnd n) = n.val := by
  have := n.isLt
  unfold lineOf directView windowEnd
  rw [if_pos (by omega)]
  omega

/-- A load of a line's last word through the window raises nothing and verifies the line (R628). -/
theorem State.loadAt_windowEnd (s : State) (n : Fin 128) :
    s.loadAt (windowEnd n) 4 = .value (s.galleryDrained.rawLoad (windowEnd n) 4) 3 (s.galleryDrained.verifyLine n.val) := by
  have aligned : windowEnd n % 4 = 0 := by unfold windowEnd; omega
  have last : ¬ (windowEnd n + 3) % 128 < 0x7C := by unfold windowEnd; omega
  simp [State.loadAt, State.loadFaults, regionOf_windowEnd, State.windowEffect, lineOf_windowEnd, aligned, last, State.galleryDrained]

/-- What LINE_WINDOW_READ leaves while the core runs. -/
theorem exec_lineWindowRead {s : State} (hr : s.coreRuns = true) (rt : GReg) (n : Fin 128) :
    exec (.lineWindowRead rt n) s =
      .next (((s.settle.galleryDrained.verifyLine n.val).result rt (s.settle.galleryDrained.rawLoad (windowEnd n) 4) 3).tick 1) := by
  show execLineWindowRead rt n s = _
  have address : 0x30010000 + 128 * n.val + 0x7C = windowEnd n := rfl
  simp only [execLineWindowRead, hr, if_true, address, State.loadAt_windowEnd]

/-- Verifying a line leaves the core alone. -/
@[simp] theorem State.verifyLine_core (s : State) (n : Nat) : (s.verifyLine n).core = s.core := by
  unfold State.verifyLine
  split
  · rfl
  · split <;> simp

/-- A result leaves the DSP state alone. -/
@[simp] theorem State.result_dsp (s : State) (r : GReg) (v : Word) (l : Nat) : (s.result r v l).core.dsp = s.core.dsp := by
  obtain ⟨late, hl⟩ := s.result_core r v l
  obtain ⟨g, hg⟩ := s.core.setReg_eq r v
  rw [hl, hg]

/-- The read takes one cycle: a DSP write that raises ZSAT in it sets DSP.ZSAT, whatever the line's result (R854). -/
theorem exec_lineWindowRead_leaf_zsat {s t : State} {rt : GReg} {n : Fin 128} (hr : s.coreRuns = true)
    (ht : exec (.lineWindowRead rt n) s = .next t) (before : s.settle.galleryDrained.core.dsp.zsat = false)
    (after : (s.settle.galleryDrained.core.dsp.advance 1).zsat = true) : (t.cause.leaf[5]).getLsbD 1 = true := by
  rw [exec_lineWindowRead hr] at ht
  rw [← Host.Outcome.next.inj ht]
  exact State.tick_leaf_zsat (by simpa using before) (by simpa using after)

-- The counterexample

/-- The core runs, every line is its own, and a ZACC whose component was clamped (R496) gives its result in the next cycle. -/
def zaccEnding : State :=
  { State.reset with
    power := { State.reset.power with hold := .none, mode := .run }
    seen.link.owner := Vector.replicate 128 .core
    core.dsp.inFlight := [⟨.z 0 0x7FFF true, 1⟩] }

/-- Nothing older is in progress and the store buffer is empty: the read issues from this very state. -/
theorem zaccEnding_galleryDrained : zaccEnding.settle.galleryDrained = zaccEnding := by
  have settled : zaccEnding.settle = zaccEnding := rfl
  rw [settled, State.galleryDrained_of_no_stores rfl]

/-- Line 0 is zeros with check 0, as reset leaves it. -/
theorem zaccEnding_lineGood : zaccEnding.lineGood 0 = true := by
  refine lineGood_zeros (by simp [State.storedCheck, zaccEnding, State.reset, Vector.getD]) fun i hi => ?_
  show memDefault (lineBase 0 + i) = 0
  unfold memDefault lineBase
  repeat rw [if_neg (by omega)]
  rfl

theorem zaccEnding_owner : zaccEnding.seen.link.ownerOf 0 = .core := by
  simp [LinkBlock.ownerOf, zaccEnding, Vector.getD]

theorem zaccEnding_leaf : (zaccEnding.cause.leaf[5]).getLsbD 1 = false := by
  simp [zaccEnding, State.reset]

/-- Refutes O48: a good line is read through the window in the cycle in which a clamped ZACC ends. The result is GOOD, and yet the leaves are
not those before the read, because the cycle sets DSP.ZSAT (R854). -/
theorem not_registerAccessesReachTheirRegister : ¬ Obligations.RegisterAccessesReachTheirRegister := by
  unfold Obligations.RegisterAccessesReachTheirRegister
  intro h
  have runs : zaccEnding.coreRuns = true := by decide
  obtain ⟨-, -, -, -, -, -, window, -⟩ := h zaccEnding 0 runs
  obtain ⟨t, ht, -, -, -, good, -⟩ := window 1 0
  have same : t.cause.leaf = zaccEnding.cause.leaf := by
    have good : zaccEnding.settle.galleryDrained.seen.link.ownerOf 0 = .core → zaccEnding.settle.galleryDrained.lineGood 0 = true →
      _ ∧ t.cause.leaf = zaccEnding.settle.galleryDrained.cause.leaf := good
    rw [zaccEnding_galleryDrained] at good
    exact (good zaccEnding_owner zaccEnding_lineGood).2
  have set : (t.cause.leaf[5]).getLsbD 1 = true :=
    exec_lineWindowRead_leaf_zsat runs ht (by rw [zaccEnding_galleryDrained]; rfl) (by rw [zaccEnding_galleryDrained]; rfl)
  rw [same, zaccEnding_leaf] at set
  cases set

end Sys2Proof.Machine
end

section
/-!
PROOFS. A core write to another plane's region (R31): its command gives the state at the write's cycle, with the write among those of the next
transfer or, from cycle 7,968 on, among those of the transfer after it (R63). Then the eleven commands that make such a write.
-/
namespace Sys2Proof.Machine

@[simp] theorem fld_zero {w : Nat} (x : BitVec w) : fld 0 x = x.setWidth 32 := by simp [fld]

theorem State.coreWriteFar_early {s : State} (h : s.drip.phase < 7968) (addr : Nat) (v : Word) :
    s.coreWriteFar addr v = { s with coreWrites := s.coreWrites ++ [⟨addr, v⟩] } := by
  simp [State.coreWriteFar, State.isLate, Nat.not_le.mpr h]

theorem State.coreWriteFar_late {s : State} (h : 7968 ≤ s.drip.phase) (addr : Nat) (v : Word) :
    s.coreWriteFar addr v = { s with coreWritesLate := s.coreWritesLate ++ [⟨addr, v⟩] } := by
  simp [State.coreWriteFar, State.isLate, h]

theorem State.coreWrites_of_coreRuns {s : State} (h : s.coreRuns = true) (phase : Fin 8000) (addr : Nat) (v : Word) :
    s.coreWrites_ phase addr v = (s.atPhase phase).coreWriteFar addr v := by
  simp [State.coreWrites_, whenDo, h]

/-- The command `c`, in this cycle of the drip, is the core's write of `v` to `addr`, and that write waits for its transfer (R31, R63). -/
def State.FarWriteWaits (s : State) (phase : Fin 8000) (c : Instr) (addr : Nat) (v : Word) : Prop :=
  ((s.atPhase phase).drip.phase < 7968 → exec c s = .next { s.atPhase phase with coreWrites := s.coreWrites ++ [⟨addr, v⟩] }) ∧
  (7968 ≤ (s.atPhase phase).drip.phase → exec c s = .next { s.atPhase phase with coreWritesLate := s.coreWritesLate ++ [⟨addr, v⟩] })

/-- A command whose meaning is a core write to another plane's region waits for its transfer. -/
theorem State.farWriteWaits_of_exec {s : State} (h : s.coreRuns = true) {phase : Fin 8000} {c : Instr} {addr : Nat} {v : Word}
    (hc : exec c s = ok (s.coreWrites_ phase addr v)) : s.FarWriteWaits phase c addr v := by
  rw [State.coreWrites_of_coreRuns h] at hc
  constructor
  · intro early
    rw [hc, State.coreWriteFar_early early]
    rfl
  · intro late
    rw [hc, State.coreWriteFar_late late]
    rfl

theorem exec_modeRequest (s : State) (target : BitVec 4) (phase : Fin 8000) :
    exec (.modeRequest target phase) s = ok (s.coreWrites_ phase 0x60000800 (0x10000#32 ||| target.setWidth 32)) := by
  rw [← fld_zero]
  rfl

theorem exec_lkSubmit (s : State) (slots : BitVec 16) (phase : Fin 8000) :
    exec (.lkSubmit slots phase) s = ok (s.coreWrites_ phase 0x50000030 (slots.setWidth 32)) := by
  rw [← fld_zero]
  rfl

theorem exec_lkJobfree (s : State) (slots : BitVec 16) (phase : Fin 8000) :
    exec (.lkJobfree slots phase) s = ok (s.coreWrites_ phase 0x5000003C (slots.setWidth 32)) := by
  rw [← fld_zero]
  rfl

theorem exec_lkCancel (s : State) (slots : BitVec 16) (phase : Fin 8000) :
    exec (.lkCancel slots phase) s = ok (s.coreWrites_ phase 0x50000038 (slots.setWidth 32)) := by
  rw [← fld_zero]
  rfl

/-- Settles O42: each of the eleven commands is, by its arm of `exec`, the core's write of its value to its register's address, and such a write
waits for its transfer (`State.farWriteWaits_of_exec`). -/
theorem farWritesWaitForTheTransfer : Obligations.FarWritesWaitForTheTransfer := by
  unfold Obligations.FarWritesWaitForTheTransfer
  intro s phase slots target group v run
  have waits {c : Instr} {addr : Nat} {v : Word} (hc : exec c s = ok (s.coreWrites_ phase addr v)) : s.FarWriteWaits phase c addr v :=
    State.farWriteWaits_of_exec run hc
  exact ⟨waits (exec_modeRequest ..), waits (exec_lkSubmit ..), waits (exec_lkJobfree ..), waits (exec_lkCancel ..), waits rfl, waits rfl,
    waits rfl, waits rfl, waits rfl, waits rfl, waits rfl⟩

end Sys2Proof.Machine
end

section
/-!
PROOFS. What each operation of the model leaves of memory: the operations that do not write it. A `simp` lemma per operation, in the order of the
definitions, says that memory is what it was; where an operation may answer no state, the lemma speaks of the state that it answers.
-/
namespace Sys2Proof.Machine

@[simp] theorem State.ite_mem {c : Prop} [Decidable c] (s t : State) : (if c then s else t).mem = if c then s.mem else t.mem := apply_ite _ _ _ _

/-- A fold whose every step keeps memory keeps memory. -/
theorem foldl_mem {α : Type} {f : State → α → State} (hf : ∀ s a, (f s a).mem = s.mem) (l : List α) (s : State) : (l.foldl f s).mem = s.mem :=
  List.foldlRecOn (motive := fun t => t.mem = s.mem) l f rfl fun t h a _ => (hf t a).trans h

@[simp] theorem whenDo_mem (c : Bool) (s t : State) : (whenDo c s t).mem = if c then t.mem else s.mem := State.ite_mem ..

section Frame
variable (s : State)

-- State

@[simp] theorem State.setOwners_mem (ns o) : (s.setOwners ns o).mem = s.mem :=
  foldl_mem (f := fun s n => s.setOwner n o) (fun _ _ => rfl) ..

@[simp] theorem State.noteWake_mem (src) : (s.noteWake src).mem = s.mem := by simp [State.noteWake]
@[simp] theorem State.noteWakeIf_mem (b src) : (s.noteWakeIf b src).mem = s.mem := by simp [State.noteWakeIf]

-- Pins, timers, PWM, ADC, TRNG and AES

@[simp] theorem State.setGpio_mem (g) : (s.setGpio g).mem = s.mem := by simp [State.setGpio]
@[simp] theorem State.gpSet_mem (m) : (s.gpSet m).mem = s.mem := rfl
@[simp] theorem State.gpClr_mem (m) : (s.gpClr m).mem = s.mem := rfl
@[simp] theorem State.gpTgl_mem (m) : (s.gpTgl m).mem = s.mem := rfl

@[simp] theorem State.gpioEdge_mem (pin level) : (s.gpioEdge pin level).mem = s.mem :=
  (foldl_mem (fun s p => s.pulseIf_mem _ p) ..).trans (State.setGpio_mem ..)

@[simp] theorem State.setTimer_mem (n t) : (s.setTimer n t).mem = s.mem := rfl
@[simp] theorem State.capture_mem (n) : (s.capture n).mem = s.mem := by simp [State.capture]
@[simp] theorem State.setPwm_mem (n p) : (s.setPwm n p).mem = s.mem := rfl
@[simp] theorem State.periodStart_mem (n force) : (s.periodStart n force).mem = s.mem := by simp [State.periodStart]
@[simp] theorem State.pwmLoad_mem (m) : (s.pwmLoad m).mem = s.mem := foldl_mem (fun s n => by simp) ..
@[simp] theorem State.pwmEnable_mem (m) : (s.pwmEnable m).mem = s.mem := foldl_mem (fun s n => by simp) ..
@[simp] theorem State.adcTrigger_mem : s.adcTrigger.mem = s.mem := by simp [State.adcTrigger]
@[simp] theorem State.adcEnd_mem (r code) : (s.adcEnd r code).mem = s.mem := by simp [State.adcEnd]

@[simp] theorem State.trngRead_mem : s.trngRead.2.mem = s.mem := by
  unfold State.trngRead
  split <;> rfl

@[simp] theorem State.aesStart_mem : s.aesStart.mem = s.mem := by simp [State.aesStart]

-- Keyholder

@[simp] theorem State.setKey_mem (k) : (s.setKey k).mem = s.mem := rfl
@[simp] theorem State.askLock_mem : s.askLock.mem = s.mem := rfl
@[simp] theorem State.abandonRaw_mem (c) : (s.abandonRaw c).mem = s.mem := by simp [State.abandonRaw]
@[simp] theorem State.commitRelease_mem (lvl state) : (s.commitRelease lvl state).mem = s.mem := by simp [State.commitRelease]
@[simp] theorem State.dozeRelease_mem : s.dozeRelease.mem = s.mem := by simp [State.dozeRelease]
@[simp] theorem State.lFlooded_mem : s.lFlooded.mem = s.mem := by simp [State.lFlooded]
@[simp] theorem State.callL_mem (again) : (s.callL again).mem = s.mem := rfl
@[simp] theorem State.arrival_mem : s.arrival.mem = s.mem := by simp [State.arrival]

@[simp] theorem State.presentPoll_mem (p a recheck) : (s.presentPoll p a recheck).mem = s.mem := by
  unfold State.presentPoll
  split <;> simp

@[simp] theorem State.poll_mem (a recheck) : (s.poll a recheck).mem = s.mem := by
  unfold State.poll
  grind [State.presentPoll_mem, State.setKey_mem]

@[simp] theorem State.drawChallenge_mem : s.drawChallenge.2.mem = s.mem := rfl
@[simp] theorem State.resumeL_mem : s.resumeL.mem = s.mem := by simp [State.resumeL]
@[simp] theorem State.heardO_mem : s.heardO.mem = s.mem := by simp [State.heardO]

@[simp] theorem State.idFrame_mem (c id) : (s.idFrame c id).mem = s.mem := by
  simp only [State.idFrame]
  split <;> simp

@[simp] theorem State.response_mem (c id challenge resp) : (s.response c id challenge resp).mem = s.mem := by
  unfold State.response
  split <;> rfl

@[simp] theorem State.noResponse_mem (c) : (s.noResponse c).mem = s.mem := by
  unfold State.noResponse
  split <;> rfl

@[simp] theorem State.oFlooded_mem : s.oFlooded.mem = s.mem := by simp [State.oFlooded]
@[simp] theorem State.irEnd_mem (mark) : (s.irEnd mark).mem = s.mem := by simp [State.irEnd]

@[simp] theorem State.endLockout_mem : s.endLockout.mem = s.mem := by
  simp only [State.endLockout]
  split <;> simp

@[simp] theorem State.keyReady_mem (rec0) : (s.keyReady rec0).mem = s.mem := by simp [State.keyReady]
@[simp] theorem State.cmdRes_mem (code status) : (s.cmdRes code status).mem = s.mem := rfl
@[simp] theorem State.tkResume_mem : s.tkResume.mem = s.mem := by simp [State.tkResume]
@[simp] theorem State.tkClearLock_mem : s.tkClearLock.mem = s.mem := by simp [State.tkClearLock]
@[simp] theorem State.tkRawStart_mem : s.tkRawStart.mem = s.mem := by simp [State.tkRawStart]

@[simp] theorem State.drawSamples_mem (n) : (s.drawSamples n).2.mem = s.mem := by
  induction n generalizing s with
  | zero => rfl
  | succ n ih => simp [State.drawSamples, ih]

@[simp] theorem State.tkIrAck_mem : s.tkIrAck.mem = s.mem := rfl
@[simp] theorem State.tkCloseEnroll_mem : s.tkCloseEnroll.mem = s.mem := rfl

@[simp] theorem State.tkVerdict_mem (v) : (s.tkVerdict v).mem = s.mem := by
  unfold State.tkVerdict
  grind [State.cmdRes_mem, State.setKey_mem]

@[simp] theorem State.countFailure_mem (c) : (s.countFailure c).mem = s.mem := by
  unfold State.countFailure
  grind [State.pulse_mem, State.setKey_mem, State.setLeaf_mem, State.askLock_mem]

@[simp] theorem State.commitResult_mem (r) : (s.commitResult r).mem = s.mem := by
  unfold State.commitResult
  grind [State.pulse_mem, State.countFailure_mem, State.setKey_mem, State.setLeaf_mem, State.setLeafIf_mem]

@[simp] theorem State.commitResults_mem (rs) : (s.commitResults rs).mem = s.mem := foldl_mem State.commitResult_mem ..
@[simp] theorem State.keyCommit_mem (gate) : (s.keyCommit gate).mem = s.mem := by simp [State.keyCommit]
@[simp] theorem State.tableLoad_mem (t) : (s.tableLoad t).mem = s.mem := by simp [State.tableLoad]

-- Radio and gallery lines

@[simp] theorem State.setLane_mem (l x) : (s.setLane l x).mem = s.mem := rfl
@[simp] theorem State.setJob_mem (n j) : (s.setJob n j).mem = s.mem := rfl
@[simp] theorem State.finishWith_mem (n r moveLines) : (s.finishWith n r moveLines).mem = s.mem := by simp [State.finishWith]

@[simp] theorem State.dropFrame_mem (l) : (s.dropFrame l).mem = s.mem := by
  unfold State.dropFrame
  split <;> simp

@[simp] theorem State.endAtFrame_mem (l) : (s.endAtFrame l).mem = s.mem := by
  simp only [State.endAtFrame]
  split <;> simp

@[simp] theorem State.letGo_mem (l) : (s.letGo l).mem = s.mem := by simp [State.letGo]
@[simp] theorem State.laneOff_mem (l) : (s.laneOff l).mem = s.mem := by simp [State.laneOff]

@[simp] theorem State.tuneLane_mem (restart l) : (s.tuneLane restart l).mem = s.mem := by
  unfold State.tuneLane
  grind [State.setLane_mem, State.letGo_mem, State.laneOff_mem]

@[simp] theorem State.refreshSynth_mem : s.refreshSynth.mem = s.mem := rfl
@[simp] theorem State.applyLanes_mem (back) : (s.applyLanes back).mem = s.mem := by simp [State.applyLanes]
@[simp] theorem State.finishJob_mem (n r) : (s.finishJob n r).mem = s.mem := by simp [State.finishJob]
@[simp] theorem State.stopLane_mem (t leaf l) : (s.stopLane t leaf l).mem = s.mem := by simp [State.stopLane]
@[simp] theorem State.stopLanes_mem (t leaf) : (s.stopLanes t leaf).mem = s.mem := by simp [State.stopLanes]
@[simp] theorem State.chargeFrame_mem (t B start) : (s.chargeFrame t B start).mem = s.mem := rfl
@[simp] theorem State.setKeySlot_mem (n k) : (s.setKeySlot n k).mem = s.mem := rfl
@[simp] theorem State.drawCounter_mem (n) : (s.drawCounter n).2.mem = s.mem := by simp [State.drawCounter]

@[simp] theorem State.replayCheck_mem (src slot epoch c) : (s.replayCheck src slot epoch c).2.mem = s.mem := by
  unfold State.replayCheck
  grind [State.setLeaf_mem]

@[simp] theorem State.securityResult_mem (f) : (s.securityResult f).2.2.2.mem = s.mem := by
  unfold State.securityResult
  grind [State.replayCheck_mem]

@[simp] theorem State.deliver_mem (lines) : (s.deliver lines).mem = s.mem := by simp [State.deliver]

@[simp] theorem State.countFrame_mem (n) : (s.countFrame n).mem = s.mem := by
  unfold State.countFrame
  split <;> rfl

-- Jobs

@[simp] theorem State.armJob_mem (n start late) : (s.armJob n start late).mem = s.mem := rfl
@[simp] theorem State.acceptJob_mem (n host tag) : (s.acceptJob n host tag).mem = s.mem := by simp [State.acceptJob]
@[simp] theorem State.sliceArm_mem : s.sliceArm.mem = s.mem := foldl_mem (fun s n => by simp) ..
@[simp] theorem State.closeWindow_mem (n matched) : (s.closeWindow n matched).mem = s.mem := by simp [State.closeWindow]
@[simp] theorem State.failSyncedWindows_mem (l) : (s.failSyncedWindows l).mem = s.mem := foldl_mem (fun s n => s.closeWindow_mem n _) ..

@[simp] theorem State.endTx_mem : s.endTx.mem = s.mem := by
  unfold State.endTx
  split <;> simp

@[simp] theorem State.settleTx_mem (now) : (s.settleTx now).mem = s.mem := by
  unfold State.settleTx
  grind [State.pulse_mem, State.endTx_mem]

@[simp] theorem State.reach_mem (p) : (s.reach p).mem = s.mem := by simp [State.reach]

theorem State.reachTime_mem {s t : State} {at_} (h : s.reachTime at_ = some t) : t.mem = s.mem := by
  unfold State.reachTime at h
  grind [State.reach_mem]

@[simp] theorem State.markLate_mem (n) : (s.markLate n).mem = s.mem := rfl
@[simp] theorem State.endAttempt_mem (n t) : (s.endAttempt n t).mem = s.mem := by simp [State.endAttempt]
@[simp] theorem State.startLane_mem (n) : (s.startLane n).mem = s.mem := by simp [State.startLane]
@[simp] theorem State.endReceiving_mem (n r) : (s.endReceiving n r).mem = s.mem := by simp [State.endReceiving]
@[simp] theorem State.startPolicy_mem (n) : (s.startPolicy n).mem = s.mem := by simp [State.startPolicy]
@[simp] theorem State.startSnapshot_mem (n samples) : (s.startSnapshot n samples).mem = s.mem := by simp [State.startSnapshot]

@[simp] theorem State.linkTrig_mem : s.linkTrig.mem = s.mem := by
  unfold State.linkTrig
  split <;> rfl

-- Reception

@[simp] theorem State.releaseLane_mem (l) : (s.releaseLane l).mem = s.mem := by simp [State.releaseLane]
@[simp] theorem State.abandonFrame_mem (l) : (s.abandonFrame l).mem = s.mem := by simp [State.abandonFrame]
@[simp] theorem State.detect_mem (l f rssi) : (s.detect l f rssi).mem = s.mem := by simp [State.detect]

@[simp] theorem State.estimate_mem (l f rssi) : (s.estimate l f rssi).mem = s.mem := by
  simp only [State.estimate]
  split <;> simp

@[simp] theorem State.galleryFull_mem (l) : (s.galleryFull l).mem = s.mem := by simp [State.galleryFull]
@[simp] theorem State.headerCheck_mem (l f soft) : (s.headerCheck l f soft).mem = s.mem := by simp [State.headerCheck]
@[simp] theorem State.suppress_mem (key) : (s.suppress key).mem = s.mem := rfl
@[simp] theorem State.addCandidate_mem (l mode hdr body frameEnd off) : (s.addCandidate l mode hdr body frameEnd off).mem = s.mem := rfl

@[simp] theorem State.synthUnlock_mem : s.synthUnlock.mem = s.mem := by
  unfold State.synthUnlock
  grind [State.setLane_mem, State.abandonFrame_mem, State.setJob_mem, State.finishJob_mem, State.setLeaf_mem]

@[simp] theorem State.cancelJob_mem (n) : (s.cancelJob n).mem = s.mem := by
  unfold State.cancelJob
  grind [State.setLane_mem, State.endReceiving_mem, State.setJob_mem, State.finishJob_mem]

@[simp] theorem State.freeJob_mem (n) : (s.freeJob n).mem = s.mem := by simp [State.freeJob]
@[simp] theorem State.submitJob_mem (n) : (s.submitJob n).mem = s.mem := by simp [State.submitJob]

theorem State.eachSlot_mem (mask) {f : State → Fin 16 → State} (hf : ∀ s n, (f s n).mem = s.mem) : (s.eachSlot mask f).mem = s.mem :=
  foldl_mem (fun s n => by simp [hf]) ..

@[simp] theorem State.releaseLine_mem (n) : (s.releaseLine n).mem = s.mem := by simp [State.releaseLine]
@[simp] theorem State.giveLines_mem (ns) : (s.giveLines ns).mem = s.mem := by simp [State.giveLines]

-- Relays

@[simp] theorem State.setCandidates_mem (cs) : (s.setCandidates cs).mem = s.mem := rfl
@[simp] theorem State.dropCandidate_mem (i) : (s.dropCandidate i).mem = s.mem := rfl

-- Registers of the link controller

@[simp] theorem State.linkRemoval_mem (off v) : (s.linkRemoval off v).mem = s.mem := by
  unfold State.linkRemoval
  split <;> rfl

@[simp] theorem State.writeDescriptor_mem (n w v) : (s.writeDescriptor n w v).mem = s.mem := by simp [State.writeDescriptor]

-- Conduit

@[simp] theorem State.gpioActions_mem (m) : (s.gpioActions m).mem = s.mem := rfl
@[simp] theorem State.timerActions_mem (m n) : (s.timerActions m n).mem = s.mem := by simp [State.timerActions]

@[simp] theorem State.consume_mem (m) : (s.consume m).mem = s.mem := by
  have timers : ((List.finRange 4).foldl (fun s (n : Fin 4) => s.timerActions m n) s).mem = s.mem := foldl_mem (fun s n => s.timerActions_mem m n) ..
  simp [State.consume, timers]

@[simp] theorem State.carry_mem (pulses) : (s.carry pulses).mem = s.mem := by simp [State.carry]

@[simp] theorem State.applyRoutes_mem (t) : (s.applyRoutes t).mem = s.mem := by
  unfold State.applyRoutes
  split <;> simp

-- Flowstone

@[simp] theorem State.setFlow_mem (f) : (s.setFlow f).mem = s.mem := rfl
@[simp] theorem State.lifeAdd_mem (i n) : (s.lifeAdd i n).mem = s.mem := rfl
@[simp] theorem State.dropGroups_mem (lo hi) : (s.dropGroups lo hi).mem = s.mem := rfl

@[simp] theorem State.drawBytes_mem (n) : (s.drawBytes n).2.mem = s.mem := by
  induction n generalizing s with
  | zero => rfl
  | succ n ih => simp [State.drawBytes, ih]

@[simp] theorem State.setRing_mem (r) : (s.setRing r).mem = s.mem := rfl
@[simp] theorem State.ringReadOnly_mem (r) : (s.ringReadOnly r).mem = s.mem := by simp [State.ringReadOnly]
@[simp] theorem State.retire_mem (r sec) : (s.retire r sec).mem = s.mem := by simp [State.retire]
@[simp] theorem State.retireFree_mem (sec) : (s.retireFree sec).mem = s.mem := rfl
@[simp] theorem State.noteFailed_mem (r sec) : (s.noteFailed r sec).mem = s.mem := foldl_mem (fun s x => by dsimp only; split <;> simp) ..

@[simp] theorem State.noteRing_mem (r) : (s.noteRing r).mem = s.mem :=
  foldl_mem (fun s c => foldl_mem (fun s sec => s.noteFailed_mem c sec) _ s) ..

-- Memory integrity

@[simp] theorem State.setRepair_mem (b r) : (s.setRepair b r).mem = s.mem := rfl
@[simp] theorem State.verifyLine_mem (n) : (s.verifyLine n).mem = s.mem := by simp [State.verifyLine]

-- Flash

@[simp] theorem State.flashDone_mem (err result) : (s.flashDone err result).mem = s.mem := by simp [State.flashDone]
@[simp] theorem State.flashRefuse_mem (why) : (s.flashRefuse why).mem = s.mem := rfl
@[simp] theorem State.flashStart_mem : s.flashStart.mem = s.mem := by simp [State.flashStart]
@[simp] theorem State.seqCancel_mem : s.seqCancel.mem = s.mem := rfl

@[simp] theorem State.flashWrite_mem (off v) : (s.flashWrite off v).mem = s.mem := by
  unfold State.flashWrite
  grind [State.seqCancel_mem, State.flashStart_mem]

@[simp] theorem State.startWrite_mem (cmd v) : (s.startWrite cmd v).mem = s.mem := by simp [State.startWrite]
@[simp] theorem State.dropLines_mem (a) : (s.dropLines a).mem = s.mem := rfl

-- SHA-256

@[simp] theorem State.shaStart_mem : s.shaStart.mem = s.mem := by simp [State.shaStart]

@[simp] theorem State.shaSource_mem (bs cs) : (s.shaSource bs cs).2.mem = s.mem := by
  induction bs generalizing s cs with
  | nil => rfl
  | cons b bs ih =>
    cases cs with
    | nil => rfl
    | cons c cs =>
      simp only [State.shaSource]
      split <;> simp [ih]

@[simp] theorem State.drawWords_mem (n) : (s.drawWords n).2.mem = s.mem := by
  induction n generalizing s with
  | zero => rfl
  | succ n ih => simp [State.drawWords, ih]

@[simp] theorem State.shaFinish_mem (mode len data reason) : (s.shaFinish mode len data reason).mem = s.mem := by
  unfold State.shaFinish
  grind [State.drawWords_mem, State.setLeaf_mem]

-- Registers of the peripherals

@[simp] theorem State.gpioWrite_mem (off v) : (s.gpioWrite off v).mem = s.mem := by
  unfold State.gpioWrite
  split <;> simp

@[simp] theorem State.timerWrite_mem (n off v) : (s.timerWrite n off v).mem = s.mem := by
  unfold State.timerWrite
  split <;> simp

@[simp] theorem State.pwmWrite_mem (n off v) : (s.pwmWrite n off v).mem = s.mem := by
  unfold State.pwmWrite
  split <;> rfl

@[simp] theorem State.adcWrite_mem (off v) : (s.adcWrite off v).mem = s.mem := by
  unfold State.adcWrite
  split <;> simp

@[simp] theorem State.adcDataRead_mem : s.adcDataRead.2.mem = s.mem := rfl
@[simp] theorem State.aesPut_mem (off v) : (s.aesPut off v).mem = s.mem := by simp [State.aesPut]

@[simp] theorem State.engineWrite_mem (off v) : (s.engineWrite off v).mem = s.mem := by
  unfold State.engineWrite
  grind [State.aesStart_mem, State.aesPut_mem, State.shaStart_mem]

@[simp] theorem State.periphReadEffect_mem (off) : (s.periphReadEffect off).mem = s.mem := by
  unfold State.periphReadEffect
  split <;> simp

theorem State.periphRead_mem {s t : State} {off v} (h : s.periphRead off = some (v, t)) : t.mem = s.mem := by
  simp only [State.periphRead, Option.map_eq_some_iff, Prod.mk.injEq] at h
  obtain ⟨w, -, -, rfl⟩ := h
  simp

-- Lantern

@[simp] theorem State.alarmCheck_mem : s.alarmCheck.mem = s.mem := by simp [State.alarmCheck]
@[simp] theorem State.applyCalSet_mem (q a) : (s.applyCalSet q a).mem = s.mem := by simp [State.applyCalSet]
@[simp] theorem State.complete_mem (i q a) : (s.complete i q a).mem = s.mem := by simp [State.complete]
@[simp] theorem State.dropLease_mem (n) : (s.dropLease n).mem = s.mem := rfl
@[simp] theorem State.queueLoad_mem (l) : (s.queueLoad l).mem = s.mem := rfl
@[simp] theorem State.enqueue_mem (q) : (s.enqueue q).mem = s.mem := rfl

@[simp] theorem State.submit_mem (r m) : (s.submit r m).1.mem = s.mem := by
  unfold State.submit
  grind [State.enqueue_mem]

@[simp] theorem State.releaseResult_mem (r m) : (s.releaseResult r m).1.mem = s.mem := by
  unfold State.releaseResult
  grind

@[simp] theorem State.deliverResult_mem (r m) : (s.deliverResult r m).1.mem = s.mem := by
  unfold State.deliverResult
  grind [State.applyCalSet_mem, State.setLeaf_mem]

@[simp] theorem State.acceptKey_mem : s.acceptKey.mem = s.mem := by
  unfold State.acceptKey
  split <;> simp

@[simp] theorem State.mailboxes_mem : s.mailboxes.mem = s.mem := by simp [State.mailboxes]
@[simp] theorem State.powerSecond_mem : s.powerSecond.mem = s.mem := rfl
@[simp] theorem State.crystalSecond_mem : s.crystalSecond.mem = s.mem := by simp [State.crystalSecond]
@[simp] theorem State.calendarTick_mem : s.calendarTick.mem = s.mem := by simp [State.calendarTick]
@[simp] theorem State.reportRange_mem (a n) : (s.reportRange a n).mem = s.mem := foldl_mem State.reportCorr_mem ..
@[simp] theorem State.applyRepair_mem : s.applyRepair.mem = s.mem := foldl_mem (fun s b => by dsimp only; split <;> rfl) ..

-- Settings

@[simp] theorem State.applyKey0_mem (b) : (s.applyKey0 b).mem = s.mem := rfl

-- Boot

@[simp] theorem State.restoreLife_mem : s.restoreLife.mem = s.mem := by simp [State.restoreLife]

@[simp] theorem State.bootLife_mem (cold ticks) : (s.bootLife cold ticks).mem = s.mem := by
  unfold State.bootLife
  grind [State.restoreLife_mem, State.lifeAdd_mem, State.setLeaf_mem]

@[simp] theorem State.coldTime_mem : s.coldTime.mem = s.mem := by
  unfold State.coldTime
  split <;> rfl

@[simp] theorem State.markDead_mem : s.markDead.mem = s.mem := rfl

@[simp] theorem State.validate_mem : s.validate.mem = s.mem :=
  (State.setLeafIf_mem ..).trans (foldl_mem (fun s n => by simp) ..)

@[simp] theorem State.loadFails_mem (i v) : (s.loadFails i v).mem = s.mem := rfl
@[simp] theorem State.loadUcode_mem (l) : (s.loadUcode l).mem = s.mem := rfl
@[simp] theorem State.loadCx_mem (a) : (s.loadCx a).mem = s.mem := by simp [State.loadCx]
@[simp] theorem State.startCore_mem (a l hitless) : (s.startCore a l hitless).mem = s.mem := rfl
@[simp] theorem State.setDataArea_mem (a) : (s.setDataArea a).mem = s.mem := by simp [State.setDataArea]
@[simp] theorem State.setTrial_mem (on) : (s.setTrial on).mem = s.mem := rfl
@[simp] theorem State.recoveryRadio_mem : s.recoveryRadio.mem = s.mem := by simp [State.recoveryRadio]
@[simp] theorem State.publish_mem : s.publish.mem = s.mem := rfl
@[simp] theorem State.loadDripHi_mem : s.loadDripHi.mem = s.mem := rfl

-- Update

@[simp] theorem State.setUpdate_mem (u) : (s.setUpdate u).mem = s.mem := rfl

@[simp] theorem State.upDone_mem (c st) : (s.upDone c st).mem = s.mem := by
  unfold State.upDone
  split <;> rfl

@[simp] theorem State.endSession_mem : s.endSession.mem = s.mem := rfl

@[simp] theorem State.failSession_mem (st) : (s.failSession st).mem = s.mem := by
  unfold State.failSession
  simp only [State.setLeafIf_mem, State.endSession_mem, State.setUpdate_mem]
  exact foldl_mem (fun s c => s.upDone_mem c st) ..

@[simp] theorem State.upPop_mem : s.upPop.mem = s.mem := rfl
@[simp] theorem State.askErase_mem : s.askErase.mem = s.mem := rfl
@[simp] theorem State.upOpen_mem (c) : (s.upOpen c).mem = s.mem := rfl

@[simp] theorem State.blockFrom_mem (c i) : (s.blockFrom c i).mem = s.mem := by
  unfold State.blockFrom
  split <;> simp

@[simp] theorem State.upBlock_mem (c) : (s.upBlock c).mem = s.mem := by
  unfold State.upBlock
  split <;> simp

@[simp] theorem State.upClose_mem (c) : (s.upClose c).mem = s.mem := by
  unfold State.upClose
  grind [State.upDone_mem, State.setUpdate_mem, State.failSession_mem]

@[simp] theorem State.verifyBody_mem : s.verifyBody.2.mem = s.mem := by
  unfold State.verifyBody
  grind [State.setUpdate_mem, State.reportRange_mem]

@[simp] theorem State.verifyDone_mem (c) : (s.verifyDone c).mem = s.mem := by simp [State.verifyDone]

@[simp] theorem State.upAbort_mem (c) : (s.upAbort c).mem = s.mem := by
  unfold State.upAbort
  split <;> simp

@[simp] theorem State.updateOpEnd_mem (o err) : (s.updateOpEnd o err).mem = s.mem := by
  unfold State.updateOpEnd
  grind [State.setUpdate_mem, State.askErase_mem, State.blockFrom_mem, State.failSession_mem]

@[simp] theorem State.upSubmit_mem : s.upSubmit.mem = s.mem := by simp [State.upSubmit]

-- Registers, as the core and the host see them

@[simp] theorem State.farCapture_mem (addr) : (s.farCapture addr).mem = s.mem := by
  unfold State.farCapture
  split <;> rfl

theorem State.coreReadFar_mem {s t : State} {a v} (h : s.coreReadFar a = some (v, t)) : t.mem = s.mem := by
  simp only [State.coreReadFar, Option.map_eq_some_iff, Prod.mk.injEq] at h
  obtain ⟨w, -, -, rfl⟩ := h
  split <;> simp

@[simp] theorem State.coreWriteFar_mem (addr v) : (s.coreWriteFar addr v).mem = s.mem := by simp [State.coreWriteFar]
@[simp] theorem State.hostWrite_mem (addr v) : (s.hostWrite addr v).mem = s.mem := by simp [State.hostWrite]
@[simp] theorem State.drainDsp_mem : s.drainDsp.mem = s.mem := by simp [State.drainDsp]

theorem State.privateRead_mem {s t : State} {off v} (h : s.privateRead off = some (v, t)) : t.mem = s.mem := by
  simp only [State.privateRead, Option.map_eq_some_iff, Prod.mk.injEq] at h
  obtain ⟨w, -, -, rfl⟩ := h
  split <;> simp

@[simp] theorem State.causeClear_mem (g mask) : (s.causeClear g mask).mem = s.mem := by simp [State.causeClear]
@[simp] theorem State.setCmask_mem (g v) : (s.setCmask g v).mem = s.mem := rfl

@[simp] theorem State.privateWrite_mem (off v) : (s.privateWrite off v).mem = s.mem := by
  unfold State.privateWrite
  split
  · simp
  split
  · simp
  split <;> rfl

theorem State.ioRead_mem {s t : State} {a v} (h : s.ioRead a = some (v, t)) : t.mem = s.mem := by
  unfold State.ioRead at h
  split at h
  · exact State.periphRead_mem h
  · exact State.privateRead_mem h
  · exact State.coreReadFar_mem h

@[simp] theorem State.debugRemoves_mem (r) : (s.debugRemoves r).mem = s.mem := by
  unfold State.debugRemoves
  split <;> simp

@[simp] theorem State.debugTrng_mem : s.debugTrng.2.mem = s.mem := by
  simp only [State.debugTrng]
  split <;> simp

theorem State.debugIoRead_mem {s t : State} {a v} (h : s.debugIoRead a = some (v, t)) : t.mem = s.mem := by
  unfold State.debugIoRead at h
  dsimp only at h
  split at h
  · obtain rfl : s.debugTrng.2 = t := by simp_all
    simp
  · obtain ⟨w, -, hw⟩ := Option.map_eq_some_iff.mp h
    obtain ⟨-, rfl⟩ := Prod.mk.inj hw
    simp

@[simp] theorem State.deliverRemoval_mem (r) : (s.deliverRemoval r).mem = s.mem := by
  unfold State.deliverRemoval
  split <;> simp

@[simp] theorem State.hostClears_mem (g mask) : (s.hostClears g mask).mem = s.mem := rfl
@[simp] theorem State.refreshFs_mem : s.refreshFs.mem = s.mem := rfl

-- The host's accesses

@[simp] theorem State.busyLoad_mem (a size) : (s.busyLoad a size).2.mem = s.mem := rfl
@[simp] theorem State.windowEffect_mem (a size) : (s.windowEffect a size).mem = s.mem := by simp [State.windowEffect]

theorem State.debugLoad_mem {s t : State} {a v} (h : s.debugLoad a = some (v, t)) : t.mem = s.mem := by
  unfold State.debugLoad at h
  grind [State.debugIoRead_mem, State.busyLoad_mem, State.windowEffect_mem]

-- The core's accesses

@[simp] theorem State.settle_mem : s.settle.mem = s.mem := by simp [State.settle]
@[simp] theorem State.result_mem (r v l) : (s.result r v l).mem = s.mem := rfl

@[simp] theorem State.readUnit_mem (u keep) : (s.readUnit u keep).2.mem = s.mem := by
  unfold State.readUnit
  split <;> rfl

@[simp] theorem State.readGroup_mem (u keep) : (s.readGroup u keep).2.mem = s.mem := by
  unfold State.readGroup
  split <;> rfl

@[simp] theorem State.useFlash_mem (u) : (s.useFlash u).2.mem = s.mem := by simp [State.useFlash]
@[simp] theorem State.useGroup_mem (u) : (s.useGroup u).2.mem = s.mem := by simp [State.useGroup]
@[simp] theorem State.cacheFill_mem (line lost) : (s.cacheFill line lost).mem = s.mem := rfl
@[simp] theorem State.fetchMiss_mem (a ahead) : (s.fetchMiss a ahead).2.mem = s.mem := by simp [State.fetchMiss]
@[simp] theorem State.useCache_mem (a) : (s.useCache a).mem = s.mem := rfl

@[simp] theorem State.fetched_mem (a ahead) : (s.fetched a ahead).2.mem = s.mem := by
  unfold State.fetched
  grind [State.ramReport_mem, State.fetchMiss_mem, State.useCache_mem]

-- Exceptions

@[simp] theorem State.abandon_mem : s.abandon.mem = s.mem := by
  unfold State.abandon
  split <;> simp

-- Chain

@[simp] theorem State.followEni_mem : s.followEni.mem = s.mem := rfl
@[simp] theorem State.setAddr_mem (a) : (s.setAddr a).mem = s.mem := by simp [State.setAddr]
@[simp] theorem State.chainReject_mem (why) : (s.chainReject why).mem = s.mem := rfl
@[simp] theorem State.drive_mem (bs) : (s.drive bs).mem = s.mem := rfl

@[simp] theorem State.windowEffects_mem (a) : (s.windowEffects a).mem = s.mem := by
  unfold State.windowEffects
  split <;> rfl

@[simp] theorem State.windowWords_mem (a n) : (s.windowWords a n).2.2.mem = s.mem := by
  induction n generalizing s a with
  | zero => rfl
  | succ n ih => simp [State.windowWords, ih]

@[simp] theorem State.hostClear_mem (g mask) : (s.hostClear g mask).mem = s.mem := rfl

theorem State.windowWrite_mem {s t : State} {a v} (h : s.windowWrite a v = some t) : t.mem = s.mem := by
  unfold State.windowWrite at h
  split at h
  · split at h
    · obtain rfl := Option.some.inj h
      simp
    · cases h
  · split at h
    · obtain rfl := Option.some.inj h
      rfl
    · obtain rfl := Option.some.inj h
      simp
    · cases h

@[simp] theorem State.windowWrites_mem (a ws) : (s.windowWrites a ws).2.mem = s.mem := by
  induction ws generalizing s a with
  | nil => rfl
  | cons w ws ih =>
    unfold State.windowWrites
    split
    · next hw => rw [ih, State.windowWrite_mem hw]
    · exact ih ..

@[simp] theorem State.complete__mem (c status payload) : (s.complete_ c status payload).mem = s.mem := by simp [State.complete_]

@[simp] theorem State.debugWords_mem (a n) : (s.debugWords a n).2.2.mem = s.mem := by
  induction n generalizing s a with
  | zero => rfl
  | succ n ih =>
    simp only [State.debugWords]
    split
    · rfl
    · next hl => exact (ih ..).trans (State.debugLoad_mem hl)

@[simp] theorem State.sendFrame_mem (c) : (s.sendFrame c).2.mem = s.mem := by
  unfold State.sendFrame
  split <;> simp

@[simp] theorem State.passUpdate_mem (w c) : (s.passUpdate w c).1.mem = s.mem := by
  unfold State.passUpdate
  grind [State.complete__mem]

@[simp] theorem State.passLantern_mem (w c) : (s.passLantern w c).1.mem = s.mem := by
  unfold State.passLantern
  grind [State.complete__mem]

@[simp] theorem State.csnFalls_mem : s.csnFalls.mem = s.mem := by simp [State.csnFalls]

theorem State.immediate_mem (op addr tag p crc) {onAll : State → State} {act : Addressed → State → ChainResp × Bool × State}
    (hall : ∀ s, (onAll s).mem = s.mem) (hact : ∀ how s, (act how s).2.2.mem = s.mem) : (s.immediate op addr tag p crc onAll act).mem = s.mem := by
  unfold State.immediate
  dsimp only
  split
  · simp
  split
  · split <;> simp [hall]
  · split
    · simp
    · simp
    · split <;> simp [hact]

@[simp] theorem State.hello_mem (p) : (s.hello p).mem = s.mem := rfl

@[simp] theorem State.fetchResp_mem (again tag) : (s.fetchResp again tag).2.mem = s.mem := by
  unfold State.fetchResp
  grind

@[simp] theorem State.sendTaken_mem (tag) : (s.sendTaken tag).2.2.mem = s.mem := by simp [State.sendTaken]
@[simp] theorem State.freeTaken_mem : s.freeTaken.mem = s.mem := by simp [State.freeTaken]

@[simp] theorem State.takeHead_mem (tag) : (s.takeHead tag).2.2.mem = s.mem := by
  unfold State.takeHead
  grind [State.sendTaken_mem, State.setOwners_mem]

-- Reload

@[simp] theorem State.beginTrial_mem : s.beginTrial.mem = s.mem := rfl

@[simp] theorem State.endActivate_mem (st) : (s.endActivate st).mem = s.mem := by
  unfold State.endActivate
  split <;> simp

@[simp] theorem State.reloadLink_mem : s.reloadLink.mem = s.mem := by simp [State.reloadLink]
@[simp] theorem State.reloadDone_mem : s.reloadDone.mem = s.mem := by simp [State.reloadDone]
@[simp] theorem State.linkActivated_mem : s.linkActivated.mem = s.mem := by simp [State.linkActivated]

-- The transfer at the drip

@[simp] theorem State.closeRecords_mem : s.closeRecords.mem = s.mem := by simp [State.closeRecords]

@[simp] theorem State.captured_mem : s.captured.mem = s.mem := by
  unfold State.captured
  split <;> rfl

@[simp] theorem State.commitPhase_mem : s.commitPhase.mem = s.mem := by simp [State.commitPhase]
@[simp] theorem State.passFrames_mem : s.passFrames.mem = s.mem := by simp [State.passFrames]

@[simp] theorem State.endWaiting_mem (n r l) : (s.endWaiting n r l).mem = s.mem :=
  foldl_mem (fun s i => by cases l <;> simp) ..

@[simp] theorem State.applyKeyLoad_mem (l) : (s.applyKeyLoad l).mem = s.mem := by
  unfold State.applyKeyLoad
  split <;> simp

@[simp] theorem State.applyLease_mem (x) : (s.applyLease x).mem = s.mem := by
  unfold State.applyLease
  split <;> simp

@[simp] theorem State.askLeases_mem : s.askLeases.mem = s.mem := foldl_mem (fun s n => by simp) ..

@[simp] theorem State.handOver_mem : s.handOver.mem = s.mem := by
  have arrived (l : LanternBlock) : (l.leaseAnswers.foldl State.applyLease
      (l.keyLoads.foldl State.applyKeyLoad { s with lantern := s.lantern.afterHandOver l })).mem = s.mem :=
    (foldl_mem State.applyLease_mem ..).trans (foldl_mem State.applyKeyLoad_mem ..)
  unfold State.handOver
  grind [State.askLeases_mem, State.tableLoad_mem, State.setKey_mem]

@[simp] theorem State.handCalendar_mem : s.handCalendar.mem = s.mem := rfl
@[simp] theorem State.mailboxTransfer_mem : s.mailboxTransfer.mem = s.mem := by simp [State.mailboxTransfer]

@[simp] theorem State.scheduledWake_mem : s.scheduledWake.mem = s.mem := by
  unfold State.scheduledWake
  split <;> simp

@[simp] theorem State.dropRelays_mem : s.dropRelays.mem = s.mem := rfl
@[simp] theorem State.startService_mem : s.startService.mem = s.mem := rfl
@[simp] theorem State.sessionMode_mem : s.sessionMode.mem = s.mem := by simp [State.sessionMode]
@[simp] theorem State.confirmTransfer_mem : s.confirmTransfer.mem = s.mem := by simp [State.confirmTransfer]
@[simp] theorem State.hearLane_mem (l) : (s.hearLane l).mem = s.mem := by simp [State.hearLane]

@[simp] theorem State.recordEntry_mem (r) : (s.recordEntry r).mem = s.mem := by
  unfold State.recordEntry
  split <;> rfl

@[simp] theorem State.stopMode_mem (m) : (s.stopMode m).mem = s.mem := by simp [State.stopMode]
@[simp] theorem State.hibernate_mem : s.hibernate.mem = s.mem := rfl

@[simp] theorem State.enterMode_mem (target) : (s.enterMode target).mem = s.mem := by
  unfold State.enterMode
  split <;> simp

@[simp] theorem State.dripToCore_mem : s.dripToCore.mem = s.mem := by simp [State.dripToCore]

@[simp] theorem State.wakeEdge_mem : s.wakeEdge.mem = s.mem := by
  unfold State.wakeEdge
  split <;> simp

@[simp] theorem State.rollLate_mem : s.rollLate.mem = s.mem := rfl
@[simp] theorem State.cclkEdge_mem : s.cclkEdge.mem = s.mem := rfl
@[simp] theorem State.makeVisible_mem (s t : State) : (s.makeVisible t).mem = t.mem := rfl

-- Activation and restart

@[simp] theorem State.dropCore_mem : s.dropCore.mem = s.mem := foldl_mem (fun s q => by split <;> simp) ..

-- The course of an instruction

@[simp] theorem State.prefetch_mem (a) : (s.prefetch a).2.mem = s.mem := by
  unfold State.prefetch
  split <;> simp

@[simp] theorem State.begins_mem (pc rt unit l) : (s.begins pc rt unit l).mem = s.mem := rfl
@[simp] theorem State.goTo_mem (pc target predicted taken extra) : (s.goTo pc target predicted taken extra).mem = s.mem := by simp [State.goTo]

-- System instructions

@[simp] theorem State.serialise_mem : s.serialise.mem = s.mem := by simp [State.serialise]
@[simp] theorem State.three_mem : s.three.mem = s.mem := by simp [State.three]

@[simp] theorem State.specialRead_mem (sr) : (s.specialRead sr).mem = s.mem := by
  unfold State.specialRead
  split <;> rfl

-- Core events

@[simp] theorem State.leaveDoze_mem : s.leaveDoze.mem = s.mem := rfl

-- DSP instructions

@[simp] theorem State.dspPush_mem (e l) : (s.dspPush e l).mem = s.mem := by simp [State.dspPush]
@[simp] theorem State.agStep_mem (n u) : (s.agStep n u).mem = s.mem := by simp [State.agStep]
@[simp] theorem State.zacc_mem (zd acc sh c) : (s.zacc zd acc sh c).mem = s.mem := by simp [State.zacc]

-- GATHER

@[simp] theorem State.gatherWord_mem (m0 a) : (s.gatherWord m0 a).2.mem = s.mem := by
  simp only [State.gatherWord]
  split <;> simp

@[simp] theorem State.sourceUse_mem (a) : (s.sourceUse a).2.mem = s.mem := by
  unfold State.sourceUse
  split <;> simp

@[simp] theorem State.gatherDone_mem (agD agI count) : (s.gatherDone agD agI count).mem = s.mem := rfl

-- Modes and resets

@[simp] theorem State.wakeTick_mem (src) : (s.wakeTick src).mem = s.mem := by simp [State.wakeTick]
@[simp] theorem State.latchPin_mem (pin) : (s.latchPin pin).mem = s.mem := by simp [State.latchPin]
@[simp] theorem State.coreWrites__mem (phase addr v) : (s.coreWrites_ phase addr v).mem = s.mem := by simp [State.coreWrites_]

end Frame

end Sys2Proof.Machine
end

section
/-!
PROOFS. The operations that write memory keep it canonical: addresses strictly rising, no entry that says what an unlisted address reads as. Every
write goes through `memPutBytes`, `memClear` or the loss of entries (`memPutBytes_wf`, `memClear_wf`, `memFilter_wf`), so a lemma per operation, in
the order of the definitions, carries the property from the state it is given to the state it answers.
-/
namespace Sys2Proof.Machine

/-- A fold whose every step keeps memory canonical keeps it canonical. -/
theorem foldl_wf {α : Type} {f : State → α → State} (hf : ∀ {s} a, Memory.wf s.mem = true → Memory.wf (f s a).mem = true) (l : List α) {s : State}
    (h : Memory.wf s.mem = true) : Memory.wf (l.foldl f s).mem = true :=
  List.foldlRecOn (motive := fun t => Memory.wf t.mem = true) l f h fun _ h a _ => hf a h

theorem whenDo_wf {c : Bool} {s t : State} (hs : Memory.wf s.mem = true) (ht : Memory.wf t.mem = true) : Memory.wf (whenDo c s t).mem = true := by
  cases c
  · exact hs
  · exact ht

/-- If the command answers a next state, its memory is canonical. -/
def Out.Wf (o : Out) : Prop := ∀ t, o = .next t → Memory.wf t.mem = true

theorem ok_wf {s : State} (h : Memory.wf s.mem = true) : (ok s).Wf := by
  rintro _ ⟨⟩
  exact h

section Canonical
variable {s : State} (h : Memory.wf s.mem = true)
include h

-- State

theorem State.clearLine_wf (n) : Memory.wf (s.clearLine n).mem = true := by
  rw [State.clearLine, State.setCheck_mem]
  exact memClear_wf h

theorem State.takeLine_wf (n o) : Memory.wf (s.takeLine n o).mem = true := by simp [State.takeLine, h, State.clearLine_wf]

theorem State.writeLines_wf (ns off bs) : Memory.wf (s.writeLines ns off bs).mem = true := by
  induction ns generalizing s off bs with
  | nil => exact h
  | cons n ns ih =>
    unfold State.writeLines
    split
    · exact ih h ..
    · exact ih (writeLine_wf h) ..

-- Keyholder

theorem State.rawEnd_wf (samples) : Memory.wf (s.rawEnd samples).mem = true := by
  unfold State.rawEnd
  split
  · exact h
  · rw [State.setLeaf_mem, State.setKey_mem]
    exact memPutBytes_wf h

theorem State.tkRawStop_wf (samples) : Memory.wf (s.tkRawStop samples).mem = true := by
  unfold State.tkRawStop
  split <;> simp [h, State.rawEnd_wf]

theorem State.stopRaw_wf : Memory.wf s.stopRaw.mem = true := by simp [State.stopRaw, h, State.tkRawStop_wf]

theorem State.tkCommand_wf (c) : Memory.wf (s.tkCommand c).mem = true := by
  unfold State.tkCommand
  split <;> simp [h, State.stopRaw_wf]

theorem State.writeKey_wf (off v) : Memory.wf (s.writeKey off v).mem = true := by
  unfold State.writeKey
  grind [State.tkCommand_wf, State.setKey_mem, State.tkVerdict_mem]

-- Radio and gallery lines

theorem State.securityCheck_wf : Memory.wf s.securityCheck.mem = true := by
  unfold State.securityCheck
  split
  · exact h
  next f fs _ =>
    have checked : Memory.wf (({ s with link.checking := fs } : State).securityResult f).2.2.2.mem = true := by rwa [State.securityResult_mem]
    dsimp only
    rw [State.countFrame_mem, State.deliver_mem]
    split
    · rw [State.setLeaf_mem]
      exact State.writeLines_wf (State.writeLines_wf checked ..) ..
    · exact State.writeLines_wf (State.writeLines_wf checked ..) ..

-- Jobs

theorem State.cutSnapshots_wf : Memory.wf s.cutSnapshots.mem = true :=
  foldl_wf (fun _ h => by simpa using State.writeLines_wf h ..) _ h

theorem State.takeRadio_wf (t use lo) : Memory.wf (s.takeRadio t use lo).mem = true := by simp [State.takeRadio, h, State.cutSnapshots_wf]
theorem State.beginTx_wf (t from_) : Memory.wf (s.beginTx t from_).mem = true := by simp [State.beginTx, h, State.takeRadio_wf]
theorem State.sendAttempt_wf (n) : Memory.wf (s.sendAttempt n).mem = true := by simp [State.sendAttempt, h, State.beginTx_wf]

theorem State.dutyAndSend_wf (n) : Memory.wf (s.dutyAndSend n).mem = true := by
  simp only [State.dutyAndSend]
  split <;> simp [h, State.sendAttempt_wf]

theorem State.firstSend_wf (n) : Memory.wf (s.firstSend n).mem = true := by
  unfold State.firstSend
  grind [State.sendAttempt_wf, State.drawCounter_mem, State.setJob_mem, State.finishJob_mem, State.setLeaf_mem]

theorem State.startTx_wf (n) : Memory.wf (s.startTx n).mem = true := by
  have marked : Memory.wf (s.markLate n).mem = true := by rwa [State.markLate_mem]
  simp only [State.startTx]
  split
  · rwa [State.finishJob_mem]
  split
  · exact State.firstSend_wf marked n
  split
  · rwa [State.finishJob_mem]
  · rwa [State.finishJob_mem, State.setLeaf_mem]
  · exact State.firstSend_wf marked n
  · rwa [State.setJob_mem, State.setKeySlot_mem]

theorem State.retry_wf (n) : Memory.wf (s.retry n).mem = true := by
  unfold State.retry
  split <;> simp [h, State.dutyAndSend_wf]

theorem State.startCal_wf (n) : Memory.wf (s.startCal n).mem = true := by
  have marked : Memory.wf (s.markLate n).mem = true := by rwa [State.markLate_mem]
  simp only [State.startCal]
  split
  · rwa [State.finishJob_mem]
  split
  · rwa [State.finishJob_mem]
  · exact State.takeRadio_wf (by rwa [State.setJob_mem]) ..

-- Reception

theorem State.sync_wf (l) : Memory.wf (s.sync l).mem = true := by
  simp only [State.sync]
  split <;> simp [h, State.takeLine_wf]

theorem State.extend_wf (l) : Memory.wf (s.extend l).mem = true := by
  unfold State.extend
  split
  · exact h
  split
  · rwa [State.galleryFull_mem]
  · exact State.takeLine_wf (by rwa [State.setLane_mem]) ..

theorem State.extendTo_wf (l need n) : Memory.wf (s.extendTo l need n).mem = true := by
  induction n generalizing s with
  | zero => exact h
  | succ n ih =>
    unfold State.extendTo
    split
    · exact h
    · split
      · exact ih (State.extend_wf h l)
      · exact h

theorem State.goodData_wf (l f hdr body crc corrected frameEnd) : Memory.wf (s.goodData l f hdr body crc corrected frameEnd).mem = true := by
  unfold State.goodData
  grind [State.addCandidate_mem, State.suppress_mem, State.deliver_mem, State.setOwners_mem, State.countFrame_mem, State.setLeafIf_mem,
    State.writeLines_wf]

theorem State.verdict_wf (l f hdr body crc corrected frameEnd) : Memory.wf (s.verdict l f hdr body crc corrected frameEnd).mem = true := by
  unfold State.verdict
  grind [State.goodData_wf, State.closeWindow_mem, State.setLane_mem, State.releaseLane_mem, State.setOwners_mem]

theorem State.judgeFrame_wf (l f hdr) : Memory.wf (s.judgeFrame l f hdr).mem = true := by
  simp only [State.judgeFrame]
  split <;> simp [h, State.verdict_wf, State.extendTo_wf]

theorem State.judgeWaiting_wf : Memory.wf s.judgeWaiting.mem = true := by
  unfold State.judgeWaiting
  split
  · split
    · split
      · exact State.judgeFrame_wf h ..
      · exact h
    · exact h
  · exact h

theorem State.endFrame_wf (l f u e soft) : Memory.wf (s.endFrame l f u e soft).mem = true := by
  have ended (x : LaneBlock) : Memory.wf (s.setLane l x).mem = true := by rwa [State.setLane_mem]
  simp only [State.endFrame]
  split
  · exact ended _
  split
  · exact State.judgeWaiting_wf (State.judgeFrame_wf (ended _) ..)
  · exact State.judgeFrame_wf (ended _) ..

theorem State.claimLine_wf (n) : Memory.wf (s.claimLine n).mem = true := by
  unfold State.claimLine
  split <;> simp [h, State.takeLine_wf]

-- Relays

theorem State.sendRelay_wf (i c n) : Memory.wf (s.sendRelay i c n).mem = true := by simp [State.sendRelay, h, State.beginTx_wf]

theorem State.relayChecks_wf (i c) : Memory.wf (s.relayChecks i c).mem = true := by
  unfold State.relayChecks
  split
  · rwa [State.dropCandidate_mem]
  dsimp only
  split
  · rwa [State.dropCandidate_mem]
  split
  · rwa [State.dropCandidate_mem, State.setLeaf_mem]
  · exact State.sendRelay_wf h ..

theorem State.relaySlot_wf (i) : Memory.wf (s.relaySlot i).mem = true := by
  unfold State.relaySlot
  split
  · exact h
  split
  · split
    · exact h
    · rwa [State.setCandidates_mem, State.draw_mem]
  split
  · exact h
  split
  · rwa [State.setCandidates_mem]
  · exact State.relayChecks_wf h ..

-- Registers of the link controller

theorem State.deliverLink_wf (off v) : Memory.wf (s.deliverLink off v).mem = true := by
  unfold State.deliverLink
  split
  · exact foldl_wf (fun _ h => State.claimLine_wf h _) _ h
  split
  · rwa [foldl_mem (fun s i => State.releaseLine_mem s _)]
  split
  · exact h
  split
  · simpa using h
  split <;> simp [h, State.eachSlot_mem]

-- Flowstone

theorem State.programGroup_wf (sec g bs) : Memory.wf (s.programGroup sec g bs).2.mem = true := by
  have hd (lo hi : Nat) : Memory.wf (s.dropGroups lo hi).mem = true := by rwa [State.dropGroups_mem]
  simp only [State.programGroup]
  split
  · exact memPutBytes_wf (by rw [State.draw_mem, State.drawBytes_mem]; exact hd ..)
  · split <;> exact memPutBytes_wf (hd ..)

theorem State.programGroups_wf (sec g gs) : Memory.wf (s.programGroups sec g gs).2.mem = true := by
  induction gs generalizing s g with
  | nil => exact h
  | cons bs gs ih =>
    simp only [State.programGroups]
    split
    · exact ih (State.programGroup_wf h ..) _
    · exact State.programGroup_wf h ..

theorem State.eraseFs_wf (sec) : Memory.wf (s.eraseFs sec).2.mem = true := by
  have erased (lo hi : Nat) : Memory.wf (memClear ((s.dropGroups lo hi).lifeAdd 17 1).mem lo hi) = true := memClear_wf (by simpa using h)
  simp only [State.eraseFs]
  split
  · dsimp only
    refine memPutBytes_wf ?_
    rw [State.drawBytes_mem]
    exact erased ..
  · exact erased ..

theorem State.writeSlot_wf (s8 sec slot key len seq data) : Memory.wf (s.writeSlot s8 sec slot key len seq data).2.mem = true := by
  simp only [State.writeSlot]
  split <;> simp [h, State.programGroups_wf, State.programGroup_wf]

theorem State.renew_wf (ring sec) : Memory.wf (s.renew ring sec).2.mem = true := by
  simp only [State.renew]
  split <;> simp [h, State.eraseFs_wf, State.programGroup_wf]

theorem State.recycle_wf (r sec) : Memory.wf (s.recycle r sec).mem = true := by
  unfold State.recycle
  split <;> simp [h, State.renew_wf]

theorem State.appendHead_wf (id key len seq data) : Memory.wf (s.appendHead id key len seq data).2.mem = true := by
  unfold State.appendHead
  split
  · exact h
  split
  · exact h
  split
  · exact h
  dsimp only
  split
  · exact State.writeSlot_wf h ..
  · rw [State.setFlow_mem]
    exact State.writeSlot_wf h ..

theorem State.copyRecord_wf (id x n) : Memory.wf (s.copyRecord id x n).2.mem = true := by
  induction n generalizing s with
  | zero => exact h
  | succ n ih =>
    simp only [State.copyRecord]
    split
    · exact h
    · split
      · exact State.appendHead_wf h ..
      · exact ih (State.appendHead_wf h ..)

theorem State.moveRecords_wf (id xs) : Memory.wf (s.moveRecords id xs).2.mem = true := by
  induction xs generalizing s with
  | nil => exact h
  | cons x xs ih =>
    simp only [State.moveRecords]
    split
    · exact h
    · split
      · split
        · exact ih (State.copyRecord_wf h ..)
        · exact State.copyRecord_wf h ..
      · exact ih h

theorem State.reclaimSector_wf (id sec) : Memory.wf (s.reclaimSector id sec).2.mem = true := by
  unfold State.reclaimSector
  split
  · exact h
  next r _ =>
    have moved := State.moveRecords_wf h id (s.sectorRecords r.s8 sec)
    dsimp only
    split
    · exact moved
    split
    · exact State.recycle_wf moved ..
    · exact moved

theorem State.openHead_wf (r sec epoch) : Memory.wf (s.openHead r sec epoch).mem = true := by simp [State.openHead, h, State.programGroup_wf]

theorem State.makeRoom_wf (id n) : Memory.wf (s.makeRoom id n).2.mem = true := by
  induction n generalizing s with
  | zero => exact h
  | succ n ih =>
    unfold State.makeRoom
    split
    · exact h
    split
    · exact h
    split
    · exact h
    split
    · dsimp only
      split
      · exact ih (State.openHead_wf h ..)
      split
      · exact ih (State.reclaimSector_wf h ..)
      · exact State.reclaimSector_wf h ..
    split
    · exact ih (State.openHead_wf h ..)
    split
    · exact ih (State.recycle_wf h ..)
    · exact h

theorem State.writeCopy_wf (id key len seq data n) :
    Memory.wf (s.writeCopy id key len seq data n).2.mem = true := by
  induction n generalizing s seq with
  | zero => exact h
  | succ n ih =>
    unfold State.writeCopy
    grind [State.makeRoom_wf, State.appendHead_wf]

theorem State.roomInAll_wf (cs) : Memory.wf (s.roomInAll cs).2.mem = true := by
  induction cs generalizing s with
  | nil => exact h
  | cons c cs ih =>
    simp only [State.roomInAll]
    split
    · exact ih (State.makeRoom_wf h ..)
    · exact State.makeRoom_wf h ..

theorem State.writeAll_wf (key len seq data cs) : Memory.wf (s.writeAll key len seq data cs).2.mem = true := by
  induction cs generalizing s seq with
  | nil => exact h
  | cons c cs ih =>
    have hc := State.writeCopy_wf h c.id key len seq data 3
    unfold State.writeAll
    split
    · next heq => rw [heq] at hc; exact ih hc _
    · next heq => rwa [heq] at hc

theorem State.writeNext_wf (r copies key len data) : Memory.wf (s.writeNext r copies key len data).2.mem = true := by
  simp only [State.writeNext]
  split <;> simp [h, State.roomInAll_wf, State.writeAll_wf]

theorem State.saveMap_wf (old) : Memory.wf (s.saveMap old).mem = true := by
  unfold State.saveMap
  split
  · exact h
  split
  · exact h
  · exact State.writeNext_wf h ..

theorem State.compact_wf (r) : Memory.wf (s.compact r).mem = true := by
  refine foldl_wf (fun _ h => State.writeNext_wf h ..) _ (foldl_wf (fun c h => ?_) _ h)
  have hm := State.makeRoom_wf h c.id 40
  dsimp only
  split
  · split
    · exact State.openHead_wf hm ..
    · exact hm
  · exact hm

theorem State.beforeWrite_wf (r) : Memory.wf (s.beforeWrite r).mem = true := by
  unfold State.beforeWrite
  split
  · exact h
  split
  · rwa [foldl_mem State.ringReadOnly_mem]
  · exact State.compact_wf h r

theorem State.resolveKey_wf (r key) : Memory.wf (s.resolveKey r key).mem = true := by
  unfold State.resolveKey
  grind [State.writeNext_wf, State.setFlow_mem, State.setLeaf_mem]

theorem State.commitRecord_wf (id key len data) : Memory.wf (s.commitRecord id key len data).2.mem = true := by
  unfold State.commitRecord
  grind [State.writeNext_wf, State.resolveKey_wf, State.beforeWrite_wf, State.saveMap_wf]

theorem State.store_wf (id key len data) : Memory.wf (s.store id key len data).2.2.mem = true := by
  unfold State.store
  split
  · exact h
  next r _ =>
    have committed := State.commitRecord_wf h id key len data
    split
    · exact h
    split
    · next hc => rwa [hc] at committed
    · next hc => rwa [hc] at committed

theorem State.resolvePair_wf (r) : Memory.wf (s.resolvePair r).mem = true :=
  foldl_wf (fun k h => State.resolveKey_wf h r k) _ h

theorem State.background_wf (id) : Memory.wf (s.background id).mem = true := by simp [State.background, h, State.makeRoom_wf, State.saveMap_wf]

theorem State.patrolSector_wf (sec) : Memory.wf (s.patrolSector sec).mem = true := by
  unfold State.patrolSector
  split
  · exact h
  split
  · exact h
  next r _ =>
    dsimp only
    generalize hs : List.foldl _ (s.noteFailed r sec) _ = s2
    have h2 : Memory.wf s2.mem = true := by
      rw [← hs]
      refine foldl_wf (fun x h => ?_) _ (by simpa using h)
      split
      · exact State.writeNext_wf h ..
      · exact h
    split
    · exact State.resolvePair_wf h2 _
    · exact h2

theorem State.toPool_wf (sec) : Memory.wf (s.toPool sec).mem = true := by
  unfold State.toPool
  split <;> simp [h, State.renew_wf]

theorem State.adoptOrphan_wf (sec) : Memory.wf (s.adoptOrphan sec).mem = true := by
  unfold State.adoptOrphan
  split <;> simp [h, State.recycle_wf, State.toPool_wf]

-- Memory integrity

theorem State.clearWords_wf (lo hi) : Memory.wf (s.clearWords lo hi).mem = true := memClear_wf h
theorem State.clearGallery_wf : Memory.wf s.clearGallery.mem = true := memClear_wf h

theorem State.saveRepair_wf (b) : Memory.wf (s.saveRepair b).mem = true := by
  unfold State.saveRepair
  split <;> simp [h, State.store_wf]

theorem State.remapRow_wf (b row i) : Memory.wf (s.remapRow b row i).mem = true := by
  simp only [State.remapRow]
  split <;> simp [h, State.saveRepair_wf]

theorem State.scrubRow_wf (i) : Memory.wf (s.scrubRow i).mem = true := by
  unfold State.scrubRow
  grind [State.remapRow_wf, State.setRepair_mem, State.setLeaf_mem, State.setLeafIf_mem]

theorem State.scrubVisit_wf : Memory.wf s.scrubVisit.mem = true := by simp [State.scrubVisit, h, State.scrubRow_wf]

-- Flash

theorem State.scrambleUnit_wf (a) : Memory.wf (s.scrambleUnit a).mem = true := by
  simp only [State.scrambleUnit]
  exact memPutBytes_wf (by rwa [State.draw_mem, State.drawBytes_mem])

theorem State.scrambleSector_wf (a) : Memory.wf (s.scrambleSector a).mem = true :=
  foldl_wf (fun _ h => State.scrambleUnit_wf h _) _ h

theorem State.eraseSector_wf (a) : Memory.wf (s.eraseSector a).mem = true := memClear_wf h

theorem State.flashEffect_wf (o) : Memory.wf (s.flashEffect o).2.2.mem = true := by
  unfold State.flashEffect
  split
  · grind [State.scrambleUnit_wf, State.dropLines_mem, memPutBytes_wf]
  · grind [State.lifeAdd_mem, State.dropLines_mem, State.scrambleSector_wf, State.draw_mem, State.eraseSector_wf]
  · split <;> exact h

theorem State.cutFlash_wf : Memory.wf s.cutFlash.mem = true := by
  unfold State.cutFlash
  split
  · exact h
  · dsimp only
    split
    · exact State.scrambleUnit_wf h _
    · exact State.scrambleSector_wf h _
    · exact h

-- Registers of the peripherals

theorem State.periphWrite_wf (off v) : Memory.wf (s.periphWrite off v).mem = true := by
  unfold State.periphWrite
  grind [State.writeKey_wf, State.gpioWrite_mem, State.pwmWrite_mem, State.adcWrite_mem, State.pwmLoad_mem, State.engineWrite_mem,
    State.flashWrite_mem, State.timerWrite_mem, State.pwmEnable_mem]

-- Lantern

theorem State.serve_wf (code allowed writes) {work : LtRequest → State → LtAnswer × State}
    (hw : ∀ q, Memory.wf (work q s).2.mem = true) : Memory.wf (s.serve code allowed writes work).mem = true := by
  unfold State.serve
  grind [State.complete_mem]

theorem State.lifeSave_wf : Memory.wf s.lifeSave.2.mem = true := by simp [State.lifeSave, h, State.store_wf]
theorem State.extendMono_wf (i) : Memory.wf (s.extendMono i).mem = true := by simp [State.extendMono, h, State.store_wf]

theorem State.monoInc_wf (i) : Memory.wf (s.monoInc i).2.mem = true := by
  unfold State.monoInc
  grind [State.extendMono_wf, State.setLeaf_mem]

theorem State.keyInstall_wf (n epoch key) : Memory.wf (s.keyInstall n epoch key).2.mem = true := by
  unfold State.keyInstall
  grind [State.store_wf, State.queueLoad_mem, State.dropLease_mem]

theorem State.keyChange_wf (n cur prev) : Memory.wf (s.keyChange n cur prev).2.mem = true := by
  simp only [State.keyChange]
  split <;> simp [h, State.store_wf]

theorem State.tokenStore_wf (n b) : Memory.wf (s.tokenStore n b).2.mem = true := by
  unfold State.tokenStore
  split
  · exact h
  split
  · exact h
  · dsimp only
    split <;> exact State.store_wf h ..

theorem State.leaseCommit_wf (n) : Memory.wf (s.leaseCommit n).mem = true := by simp [State.leaseCommit, h, State.store_wf]
theorem State.calCheckpoint_wf : Memory.wf s.calCheckpoint.mem = true := by simp [State.calCheckpoint, h, State.store_wf]

theorem State.formatSector_wf (counts id sec) : Memory.wf (s.formatSector counts id sec).mem = true := by
  unfold State.formatSector
  grind [State.eraseFs_wf, State.setFlow_mem, State.programGroup_wf, State.setLeaf_mem]

theorem State.openFirst_wf (id) : Memory.wf (s.openFirst id).mem = true := by
  unfold State.openFirst
  split
  · split
    · exact State.openHead_wf h ..
    · exact h
  · exact h

theorem State.formatAll_wf : Memory.wf s.formatAll.mem = true := by
  unfold State.formatAll
  extract_lets assign
  split
  refine State.saveMap_wf ?_ _
  rw [State.setFlow_mem]
  refine foldl_wf (fun r h => State.openFirst_wf h _) _ ?_
  refine foldl_wf (fun x h => State.formatSector_wf h ..) _ ?_
  refine foldl_wf (fun r h => foldl_wf (fun x h => State.formatSector_wf h ..) _ h) _ ?_
  rwa [State.setFlow_mem]

theorem State.bootScan_wf : Memory.wf s.bootScan.mem = true := by
  have noted (rs : List Ring) (s : State) : (rs.foldl (fun s r => r.sectors.foldl (fun s sec => s.noteFailed r sec) s) s).mem = s.mem :=
    foldl_mem (fun s r => foldl_mem (fun s sec => s.noteFailed_mem r sec) _ s) ..
  unfold State.bootScan
  extract_lets users heads s0 gone live orphans gathered rings s1 torn s2 s3
  split
  · exact State.formatAll_wf h
  · rwa [State.setLeafIf_mem, noted, State.setFlow_mem, State.setFlow_mem]

theorem State.resolveAll_wf : Memory.wf s.resolveAll.mem = true :=
  foldl_wf (fun r h => State.resolvePair_wf h r) _ h

theorem State.assignSector_wf (id) : Memory.wf (s.assignSector id).mem = true := by
  unfold State.assignSector
  grind [State.retireFree_mem, State.setFlow_mem, State.renew_wf]

theorem State.formatRing_wf (e) : Memory.wf (s.formatRing e).mem = true := by
  refine State.openFirst_wf (foldl_wf (fun _ h => State.assignSector_wf h _) _ ?_) _
  rwa [State.setFlow_mem]

theorem State.applyPlan_wf (b) : Memory.wf (s.applyPlan b).mem = true := by
  unfold State.applyPlan
  extract_lets _ hide why es old s1
  have hh : Memory.wf hide.mem = true := h
  split
  · rwa [State.setFlow_mem]
  split
  · rwa [State.setLeaf_mem, State.setFlow_mem]
  · rw [State.setFlow_mem]
    exact State.saveMap_wf (foldl_wf (fun e h => State.formatRing_wf h e) _ hh) _

theorem State.releaseRings_wf : Memory.wf s.releaseRings.mem = true := by
  unfold State.releaseRings
  split
  · exact h
  · exact foldl_wf (fun x h => State.toPool_wf h x) _ h

-- Settings

theorem State.saveRecord_wf (r) : Memory.wf (s.saveRecord r).2.mem = true := by simp [State.saveRecord, h, State.store_wf]

theorem State.bootSave_wf (r) : Memory.wf (s.bootSave r).2.mem = true := by
  unfold State.bootSave
  split <;> simp [h, State.saveRecord_wf]

omit h in
theorem State.putKey_wf {acc : Bool × State} (h : Memory.wf acc.2.mem = true) (key data) : Memory.wf (State.putKey acc key data).2.mem = true :=
  State.store_wf h ..

omit h in
theorem State.putKeys_wf {acc : Bool × State} (h : Memory.wf acc.2.mem = true) (ks : List Nat) (key : Nat → Nat) (data : Bool × State → Nat → List Byte) :
    Memory.wf (ks.foldl (fun a k => State.putKey a (key k) (data a k)) acc).2.mem = true :=
  List.foldlRecOn (motive := fun acc : Bool × State => Memory.wf acc.2.mem = true) ks _ h fun _ h _ _ => State.putKey_wf h ..

omit h in
theorem State.clearSaved_wf {acc : Bool × State} (h : Memory.wf acc.2.mem = true) : Memory.wf (State.clearSaved acc).2.mem = true := by
  unfold State.clearSaved
  exact State.putKey_wf (State.putKeys_wf h [3, 4, 5] (fun k => k) fun _ _ => [0#8]) ..

omit h in
theorem State.copyKeys_wf {acc : Bool × State} (h : Memory.wf acc.2.mem = true) (src dst) : Memory.wf (State.copyKeys acc src dst).2.mem = true :=
  State.putKeys_wf h [0, 1, 2] (dst + ·) fun a k => (a.2.setting (src + k)).getD [0#8]

omit h in
theorem State.writeDefaults_wf {acc : Bool × State} (h : Memory.wf acc.2.mem = true) (a) : Memory.wf (State.writeDefaults acc a).2.mem = true :=
  State.putKey_wf (State.putKey_wf (State.putKey_wf h ..) ..) ..

omit h in
theorem State.saveSettings_wf {acc : Bool × State} (h : Memory.wf acc.2.mem = true) (a trial) :
    Memory.wf (State.saveSettings acc a trial).2.mem = true := by
  unfold State.saveSettings
  split
  · exact h
  split
  · exact h
  · exact State.putKey_wf (State.copyKeys_wf h ..) ..

theorem State.bootSettings_wf (r c trial) : Memory.wf (s.bootSettings r c trial).mem = true := by
  unfold State.bootSettings
  grind [State.clearSaved_wf, State.copyKeys_wf, State.saveSettings_wf, State.writeDefaults_wf, State.setLeafIf_mem, State.applyKey0_mem]

theorem State.activationSettings_wf (a) : Memory.wf (s.activationSettings a).2.mem = true := by
  unfold State.activationSettings
  split
  · exact State.writeDefaults_wf (State.saveSettings_wf h ..) _
  · exact h

theorem State.undoSettings_wf (old) : Memory.wf (s.undoSettings old).mem = true := by
  unfold State.undoSettings
  grind [State.putKey_wf, State.clearSaved_wf]

-- Boot

theorem State.afterReset_wf (cold cause hold) : Memory.wf (s.afterReset cold cause hold).mem = true :=
  memFilter_wf (State.cutFlash_wf h)

theorem State.saveBootLife_wf : Memory.wf s.saveBootLife.mem = true := by
  unfold State.saveBootLife
  split <;> simp [h, State.lifeSave_wf]

theorem State.bootMono_wf : Memory.wf s.bootMono.mem = true := by
  refine foldl_wf (fun i h => ?_) _ h
  dsimp only
  split
  · exact h
  · exact State.store_wf h ..

theorem State.bootSlot_wf (n) : Memory.wf (s.bootSlot n).mem = true := by
  unfold State.bootSlot
  grind [State.store_wf, State.queueLoad_mem]

theorem State.bootLoads_wf : Memory.wf s.bootLoads.mem = true := by
  have slots (ns : List (Fin 8)) : Memory.wf (ns.foldl State.bootSlot s.bootMono).mem = true :=
    foldl_wf (fun n h => State.bootSlot_wf h n) ns (State.bootMono_wf h)
  simp only [State.bootLoads, slots]

theorem State.recordPair_wf (r changed a l) : Memory.wf (s.recordPair r changed a l).2.mem = true := by
  simp only [State.recordPair]
  split
  · split
    · rw [State.setLeafIf_mem, State.setTrial_mem]
      exact State.bootSave_wf h _
    · rwa [State.setTrial_mem]
  · rw [State.setLeafIf_mem, State.setTrial_mem]
    exact State.bootSave_wf h _

theorem State.setUpPair_wf (r changed k a l) : Memory.wf (s.setUpPair r changed k a l).mem = true := by
  unfold State.setUpPair
  grind [State.setDataArea_mem, State.bootSettings_wf, State.loadUcode_mem, State.recordPair_wf, State.applyRoutes_mem, State.loadCx_mem,
    State.applyPlan_wf, State.setLeafIf_mem]

theorem State.enterSump_wf (why) : Memory.wf (s.enterSump why).mem = true := by simp [State.enterSump, h, State.applyPlan_wf]

theorem State.noPair_wf (r changed) : Memory.wf (s.noPair r changed).mem = true := by
  unfold State.noPair
  split <;> simp [h, State.enterSump_wf, State.bootSave_wf]

theorem State.pairUp_wf (r changed n) : Memory.wf (s.pairUp r changed n).mem = true := by
  induction n generalizing s changed with
  | zero => exact State.noPair_wf h ..
  | succ n ih =>
    unfold State.pairUp
    grind [State.noPair_wf, State.setUpPair_wf, State.loadFails_mem, State.startCore_mem]

theorem State.bootImages_wf : Memory.wf s.bootImages.mem = true := by
  have valid : Memory.wf s.validate.mem = true := by rwa [State.validate_mem]
  simp only [State.bootImages]
  split
  · exact State.enterSump_wf valid _
  split
  · exact State.enterSump_wf valid _
  · refine State.pairUp_wf ?_ ..
    split
    · rwa [State.setLeaf_mem]
    · exact valid

theorem State.boot6_wf (ticks) : Memory.wf (s.boot6 ticks).mem = true := by
  unfold State.boot6
  grind [State.bootScan_wf, State.bootLoads_wf, State.bootImages_wf, State.bootLife_mem, State.applyRepair_mem, State.resolveAll_wf,
    State.publish_mem, State.loadDripHi_mem, State.saveBootLife_wf, State.markDead_mem, State.coldTime_mem]

-- Update

theorem State.upActivateRun_wf (c) : Memory.wf (s.upActivateRun c).mem = true := by
  unfold State.upActivateRun
  grind [State.upDone_mem, State.setUpdate_mem, State.undoSettings_wf, State.activationSettings_wf, State.saveRecord_wf]

theorem State.upActivate_wf (c) : Memory.wf (s.upActivate c).mem = true := by
  unfold State.upActivate
  split
  · rwa [State.upDone_mem]
  split
  · rwa [State.endSession_mem, State.upDone_mem]
  · exact State.upActivateRun_wf h c

theorem State.programUnits_wf (a us) : Memory.wf (s.programUnits a us).2.mem = true := by
  induction us generalizing s a with
  | nil => exact h
  | cons u us ih =>
    simp only [State.programUnits]
    split
    · exact ih h _
    split
    · exact State.flashEffect_wf h _
    · exact ih (State.flashEffect_wf h _) _

theorem State.stickBlocks_wf (t src i n) : Memory.wf (s.stickBlocks t src i n).2.mem = true := by
  induction n generalizing s i with
  | zero => exact h
  | succ n ih =>
    simp only [State.stickBlocks]
    split
    · exact h
    split
    · exact State.programUnits_wf h ..
    · exact ih (by simpa using State.programUnits_wf h ..) _

theorem State.eraseSlot_wf (t) : Memory.wf (s.eraseSlot t).2.mem = true := by
  refine List.foldlRecOn (motive := fun acc : Bool × State => Memory.wf acc.2.mem = true) _ _ h fun acc h i _ => ?_
  dsimp only
  split
  · exact State.flashEffect_wf h _
  · exact h

theorem State.stickInstall_wf (b e) : Memory.wf (s.stickInstall b e).2.2.mem = true := by
  unfold State.stickInstall
  grind [State.setUpdate_mem, State.verifyBody_mem, State.upOpen_mem, State.eraseSlot_wf, State.failSession_mem, State.stickBlocks_wf]

theorem State.stickKind_wf (b kind) : Memory.wf (s.stickKind b kind).2.2.2.mem = true := by
  unfold State.stickKind
  split
  · exact h
  split
  · exact h
  · exact State.stickInstall_wf h ..

theorem State.stickEvaluate_wf (stick) : Memory.wf (s.stickEvaluate stick).mem = true := by
  unfold State.stickEvaluate
  grind [State.setUpdate_mem, State.upActivate_wf, State.stickKind_wf, State.setLeaf_mem, State.endSession_mem]

-- Registers, as the core and the host see them

theorem State.confirm_wf : Memory.wf s.confirm.mem = true := by
  have saved := State.saveRecord_wf h s.bootRecord.settled
  simp only [State.confirm]
  split
  · exact h
  split
  · exact h
  split
  · rwa [State.setLeaf_mem]
  · refine State.releaseRings_wf ?_
    split
    · exact State.clearSaved_wf saved
    · exact saved

theorem State.deliverLantern_wf (off v0) : Memory.wf (s.deliverLantern off v0).mem = true := by
  unfold State.deliverLantern
  grind [State.confirm_wf]

theorem State.ioWrite_wf (a v) : Memory.wf (s.ioWrite a v).mem = true := by
  unfold State.ioWrite
  split <;> simp [h, State.periphWrite_wf]

theorem State.deliverWrite_wf (p) : Memory.wf (s.deliverWrite p).mem = true := by
  unfold State.deliverWrite
  split
  · rwa [State.hostClears_mem]
  split
  · exact State.deliverLink_wf h ..
  · exact State.deliverLantern_wf h ..
  · exact State.periphWrite_wf h ..
  · rwa [State.privateWrite_mem]
  · exact h

theorem State.deliverWrites_wf (ws) : Memory.wf (s.deliverWrites ws).mem = true := by
  have delivered (ws : List PendingWrite) : Memory.wf (ws.foldl State.deliverWrite s).mem = true := foldl_wf (fun w h => State.deliverWrite_wf h w) ws h
  unfold State.deliverWrites
  dsimp only
  split
  · exact delivered _
  · rw [State.giveLines_mem]
    exact delivered _

-- The host's accesses

theorem State.storeRam_wf (a size v) : Memory.wf (s.storeRam a size v).mem = true := by
  have put (bs : List Byte) : Memory.wf (memPutBytes s.mem a bs) = true := memPutBytes_wf h
  simp only [State.storeRam]
  split
  · exact put _
  split
  · rw [State.setLeaf_mem]
    exact put _
  split
  · rw [State.reportCorr_mem]
    exact put _
  · exact put _

theorem State.storeLine_wf (a size v) : Memory.wf (s.storeLine a size v).mem = true := by
  unfold State.storeLine
  extract_lets n _
  split
  · exact writeLine_wf h
  · rwa [State.setLeaf_mem]

theorem State.storeAt_wf (a size v) : Memory.wf (s.storeAt a size v).mem = true := by
  unfold State.storeAt
  split <;> simp [h, State.storeRam_wf, State.ioWrite_wf, State.storeLine_wf]

theorem State.debugStore_wf {t : State} {a v} (ht : s.debugStore a v = some t) : Memory.wf t.mem = true := by
  unfold State.debugStore at ht
  grind [State.hostWrite_mem, State.storeAt_wf]

-- The core's accesses

theorem State.drainOne_wf : Memory.wf s.drainOne.mem = true := by
  unfold State.drainOne
  split <;> simp [h, State.storeAt_wf]

theorem State.awaitDrain_wf : Memory.wf s.awaitDrain.mem = true := by
  simp only [State.awaitDrain]
  split <;> simp [h, State.drainOne_wf]

theorem State.drainWhile_wf (p n) : Memory.wf (State.drainWhile p n s).mem = true := by
  induction n generalizing s with
  | zero => exact h
  | succ n ih =>
    unfold State.drainWhile
    split
    · exact ih (State.awaitDrain_wf h)
    · exact h

theorem State.drainStores_wf : Memory.wf s.drainStores.mem = true := by simp [State.drainStores, h, State.drainWhile_wf]

theorem State.pushStore_wf (a size v) : Memory.wf (s.pushStore a size v).mem = true := by
  unfold State.pushStore
  split <;> simp [h, State.awaitDrain_wf]

theorem State.forwarded_wf (a size) : Memory.wf (s.forwarded a size).2.mem = true := by
  unfold State.forwarded
  split
  · exact h
  · split
    · exact h
    · exact State.drainWhile_wf h ..
  · exact State.drainWhile_wf h ..

theorem State.putDtcm_wf (a v) : Memory.wf (s.putDtcm a v).mem = true := by simp [State.putDtcm, h, State.storeRam_wf]

/-- Memory is canonical after a load that answers a value. -/
def Loaded.Wf : Loaded → Prop
  | .value _ _ s => Memory.wf s.mem = true
  | .fails _ => True

theorem State.loadRam_wf (a size) : (s.loadRam a size).Wf := by
  have hf := State.forwarded_wf h a size
  unfold State.loadRam
  split
  · next heq => rwa [heq] at hf
  · next heq =>
    rw [heq] at hf
    split
    · trivial
    · simpa [Loaded.Wf] using hf

theorem State.loadFlash_wf (a size) : (s.loadFlash a size).Wf := by
  unfold State.loadFlash
  dsimp only
  split
  · simpa [Loaded.Wf] using h
  split
  · trivial
  · simpa [Loaded.Wf] using h

theorem State.loadFlowstone_wf (a size) : (s.loadFlowstone a size).Wf := by
  unfold State.loadFlowstone
  dsimp only
  split
  · trivial
  · simpa [Loaded.Wf] using h

theorem State.loadAt_wf (a size) : (s.loadAt a size).Wf := by
  unfold State.loadAt
  split
  · trivial
  split
  · trivial
  cases regionOf a with
  | dtcm => exact State.loadRam_wf h a size
  | sram => exact State.loadRam_wf h a size
  | gallery =>
    have hf := State.forwarded_wf h a size
    dsimp only
    split
    · next heq => rwa [heq] at hf
    · next heq => rwa [heq] at hf
  | window => simpa [Loaded.Wf] using State.drainWhile_wf h ..
  | flash => exact State.loadFlash_wf h a size
  | flowstone => exact State.loadFlowstone_wf h a size
  | io =>
    dsimp only
    split
    · next hr =>
      have hd := State.drainStores_wf h
      rwa [← State.ioRead_mem hr] at hd
    · trivial
  | _ => exact h

/-- Memory is canonical after an instruction's own effect, whether it is done or raises. -/
def Ran.Wf : Ran → Prop
  | .done s => Memory.wf s.mem = true
  | .raise _ s => Memory.wf s.mem = true

theorem State.storeOp_wf (a size v) : (s.storeOp a size v).Wf := by
  unfold State.storeOp
  dsimp only
  split
  · exact h
  split
  · exact h
  · exact State.pushStore_wf h ..

theorem State.coreWrite_wf (phase a v) : Memory.wf (s.coreWrite phase a v).mem = true :=
  whenDo_wf h (State.ioWrite_wf (by rwa [State.atPhase_mem]) ..)

theorem State.coreRead_wf (phase a rt) : Memory.wf (s.coreRead phase a rt).mem = true := by
  unfold State.coreRead
  split
  · split
    · next hr =>
      have hd := State.drainStores_wf (s := (s.atPhase phase).settle) (by simpa using h)
      rw [← State.ioRead_mem hr] at hd
      simpa using hd
    · exact h
  · exact h

-- Exceptions

theorem State.enter_wf (x level epc) : Memory.wf (s.enter x level epc).mem = true := by
  simp only [State.enter]
  split <;> simp [h, State.afterReset_wf]

theorem State.takeAsync_wf (r) : Memory.wf (s.takeAsync r).mem = true := by simp [State.takeAsync, h, State.enter_wf]

theorem State.raiseSync_wf (pc x) : Memory.wf (s.raiseSync pc x).mem = true := by
  unfold State.raiseSync
  split <;> simp [h, State.takeAsync_wf, State.enter_wf]

-- Chain

theorem State.debugPuts_wf (a ws) : Memory.wf (s.debugPuts a ws).2.2.mem = true := by
  induction ws generalizing s a with
  | nil => exact h
  | cons w ws ih =>
    simp only [State.debugPuts]
    split
    · exact h
    · next hp => exact ih (State.debugStore_wf h hp) _

theorem State.chainDebug_wf (p) : Memory.wf (s.chainDebug p).2.2.mem = true := by
  unfold State.chainDebug
  grind [State.debugPuts_wf, State.debugWords_mem]

theorem State.takeFrame_wf (p) : Memory.wf (s.takeFrame p).2.mem = true := by
  unfold State.takeFrame
  split
  · exact h
  split
  · exact h
  · exact State.writeLines_wf (foldl_wf (fun n h => State.takeLine_wf h n _) _ h) ..

theorem State.passGeneral_wf (w c) : Memory.wf (s.passGeneral w c).1.mem = true := by
  unfold State.passGeneral
  split
  · grind [State.complete__mem, State.windowWrites_mem]
  · dsimp only
    split
    · simpa using h
    split
    · exact h
    · rw [State.complete__mem, foldl_mem fun s i => by simp]
      exact h
  · grind [State.complete__mem, State.sendFrame_mem]
  · simpa using State.chainDebug_wf h _

theorem State.passAll_wf (w cs held) : Memory.wf (State.passAll w cs held s).2.mem = true := by
  induction cs generalizing s held with
  | nil => exact h
  | cons c cs ih =>
    simp only [State.passAll]
    refine ih ?_ _
    grind [State.complete__mem, State.passUpdate_mem, State.passLantern_mem, State.passGeneral_wf]

theorem State.chainPass_wf (w) : Memory.wf (s.chainPass w).mem = true := by simp [State.chainPass, h, State.passAll_wf]
theorem State.acceptChain_wf (c) : Memory.wf (s.acceptChain c).mem = true := by simp [State.acceptChain, h, State.chainPass_wf]

theorem State.resetUnit_wf (p) : Memory.wf (s.resetUnit p).mem = true := by
  unfold State.resetUnit
  split
  · exact h
  split
  · exact State.afterReset_wf h ..
  · exact h

theorem State.queueChain_wf (how op tag p) : Memory.wf (s.queueChain how op tag p).mem = true := by
  have taken := State.takeFrame_wf h p
  unfold State.queueChain
  split
  · exact h
  split
  · rwa [State.chainReject_mem]
  split
  · exact State.resetUnit_wf h p
  dsimp only
  split
  · split
    · next ht => exact State.acceptChain_wf (by rwa [ht] at taken) _
    · next ht => exact State.acceptChain_wf (by rwa [ht] at taken) _
  · exact State.acceptChain_wf h _

theorem State.dropFrameSend_wf (how op p) : Memory.wf (s.dropFrameSend how op p).mem = true := by
  have taken := State.takeFrame_wf h p
  unfold State.dropFrameSend
  split
  · split
    · next ht =>
      rw [ht] at taken
      rwa [State.setOwners_mem]
    · exact h
  · exact h

theorem State.queued_wf (op addr tag p crc) : Memory.wf (s.queued op addr tag p crc).mem = true := by
  unfold State.queued
  dsimp only
  split
  · simpa using h
  · split
    · rw [State.chainReject_mem]
      exact State.dropFrameSend_wf (by simpa using h) ..
    · simpa using h
    · exact State.queueChain_wf (by simpa using h) ..

-- Reload

theorem State.rejectLink_wf : Memory.wf s.rejectLink.mem = true := by simp [State.rejectLink, h, State.saveRecord_wf]

theorem State.reloadEdge_wf : Memory.wf s.reloadEdge.mem = true := by
  unfold State.reloadEdge
  grind [State.linkActivated_mem, State.rejectLink_wf, State.loadUcode_mem, State.reloadDone_mem]

-- The transfer at the drip

theorem State.deliverAll_wf : Memory.wf s.deliverAll.mem = true := by
  have removals (ws : List PendingWrite) {s : State} (h : Memory.wf s.mem = true) : Memory.wf (ws.foldl State.deliverRemoval s).mem = true := by
    rwa [foldl_mem State.deliverRemoval_mem]
  unfold State.deliverAll
  dsimp only
  have h1 := State.deliverWrites_wf (removals s.coreRemovals (s := { s with power.requested := false }) h) s.coreWrites
  have h2 := State.deliverWrites_wf (removals s.hostRemovals h1) s.hostWrites
  split
  · exact State.calCheckpoint_wf h2
  · exact h2

theorem State.exchange_wf : Memory.wf s.exchange.mem = true := by
  unfold State.exchange
  grind [State.pulse_mem, State.cclkEdge_mem, State.passFrames_mem, State.refreshFs_mem, State.handCalendar_mem, State.handOver_mem,
    State.confirmTransfer_mem, State.deliverAll_wf, State.hearLane_mem, State.mailboxTransfer_mem, State.sessionMode_mem, State.reloadEdge_wf,
    State.chainPass_wf, State.scheduledWake_mem, State.upSubmit_mem]

theorem State.transferWork_wf : Memory.wf s.transferWork.mem = true := by simp [State.transferWork, h, State.exchange_wf]

theorem State.transfer_wf : Memory.wf s.transfer.mem = true := by
  simp only [State.transfer]
  split <;> simp [h, State.afterReset_wf, State.transferWork_wf]

-- Activation and restart

theorem State.stopCore_wf : Memory.wf s.stopCore.mem = true :=
  foldl_wf (fun e h => State.storeAt_wf h ..) _ (by simpa using h)

theorem State.activateApp_wf (u) : Memory.wf (s.activateApp u).mem = true := by simp [State.activateApp, h, State.stopCore_wf]
theorem State.restartCore_wf : Memory.wf s.restartCore.mem = true := by simp [State.restartCore, h, State.applyPlan_wf]

-- The course of an instruction

theorem State.aheadLoadStep_wf (e size extend rt ra off) : Memory.wf (s.aheadLoadStep e size extend rt ra off).2.mem = true := by
  simp only [State.aheadLoadStep]
  split
  · exact h
  split
  · exact h
  · exact h
  · exact h
  split
  · exact h
  · rwa [State.prefetch_mem]

theorem State.aheadEffect_wf (e a) : Memory.wf (s.aheadEffect e a).2.2.mem = true := by
  cases a with
  | load => exact State.aheadLoadStep_wf h ..
  | branch | jumpReg =>
    simp only [State.aheadEffect]
    split <;> exact h
  | _ => exact h

theorem State.aheadStep_wf (e a) : Memory.wf (s.aheadStep e a).mem = true := by
  unfold State.aheadStep
  split
  · exact h
  split
  · exact h
  · rw [State.tick_mem]
    exact State.aheadEffect_wf (by rwa [State.fetched_mem]) ..

theorem State.writes_wf (r v l) : (s.writes r v l).Wf := h

omit h in
theorem Ran.finish_wf {r : Ran} (h : r.Wf) (before pc) : Memory.wf (r.finish before pc).mem = true := by
  cases r with
  | done s => rwa [Ran.finish, State.tick_mem]
  | raise x s =>
    unfold Ran.finish
    dsimp only
    split
    · exact State.takeAsync_wf (by exact h) _
    · exact State.raiseSync_wf h ..

theorem State.issue_wf (keep reads) {run : Word → State → Ran}
    (hr : ∀ pc {s}, Memory.wf s.mem = true → (run pc s).Wf) : Memory.wf (s.issue keep reads run).mem = true := by
  unfold State.issue
  dsimp only
  split
  · exact State.raiseSync_wf h ..
  · exact Ran.finish_wf (hr _ (by simpa using h)) ..

theorem State.coreInstr_wf {keep reads ahead} {run : Word → State → Ran}
    (hr : ∀ pc {s}, Memory.wf s.mem = true → (run pc s).Wf) : (s.coreInstr keep reads ahead run).Wf := by
  refine ok_wf ?_
  split
  · exact h
  split
  · exact State.aheadStep_wf h ..
  split
  · exact State.takeAsync_wf h _
  · exact State.issue_wf (by exact h) _ _ hr

theorem State.aluInstr_wf (rd reads f) : (s.aluInstr rd reads f).Wf :=
  State.coreInstr_wf h fun _ _ h => State.writes_wf h ..

theorem State.satInstr_wf (rd reads f) : (s.satInstr rd reads f).Wf :=
  State.coreInstr_wf h fun _ _ h => State.writes_wf (by exact h) ..

theorem State.mulInstr_wf (rd ra rb f) : (s.mulInstr rd ra rb f).Wf :=
  State.coreInstr_wf h fun _ _ h => State.writes_wf h ..

theorem State.divInstr_wf (rd ra rb f) : (s.divInstr rd ra rb f).Wf :=
  State.coreInstr_wf h fun _ _ h => State.writes_wf (by simpa using h) ..

theorem State.branchInstr_wf (ra rb off cond) : (s.branchInstr ra rb off cond).Wf :=
  State.coreInstr_wf h fun _ _ h => by split <;> simpa [Ran.Wf] using h

theorem State.jumpInstr_wf (link off) : (s.jumpInstr link off).Wf :=
  State.coreInstr_wf h fun _ _ h => by simpa [Ran.Wf] using h

theorem State.jumpRegInstr_wf (rd ra) : (s.jumpRegInstr rd ra).Wf :=
  State.coreInstr_wf h fun _ _ h => by
    dsimp only
    split
    · exact h
    · cases rd <;> simpa [Ran.Wf] using h

-- System instructions

theorem State.sysInstr_wf {reads} {run : Word → State → Ran}
    (hr : ∀ pc {s}, Memory.wf s.mem = true → (run pc s).Wf) : (s.sysInstr reads run).Wf :=
  State.coreInstr_wf h fun _ _ h => hr _ (by simpa using h)

theorem State.fenced_wf : Memory.wf s.fenced.mem = true := by simp [State.fenced, h, State.drainStores_wf]

theorem State.enterDoze_wf (v) : Memory.wf (s.enterDoze v).mem = true := by
  have drained := State.drainStores_wf h
  simp only [State.enterDoze]
  split
  · exact h
  split
  · split
    · exact State.takeAsync_wf drained _
    · exact drained
  · exact drained

theorem State.specialWrite_wf (sr v) : Memory.wf (s.specialWrite sr v).mem = true := by
  unfold State.specialWrite
  split <;> simp [h, State.enterDoze_wf]

theorem State.mtsInstr_wf (rt sr) : (s.mtsInstr rt sr).Wf :=
  State.sysInstr_wf h fun _ _ h => by
    split
    · exact State.specialWrite_wf (by simpa using h) ..
    · exact h

-- DSP instructions

theorem State.dtcmRead_wf (a) : (s.dtcmRead a).Wf := by
  unfold State.dtcmRead
  split
  · trivial
  · exact State.loadRam_wf h ..

theorem State.dspInstr_wf {reads} {run : State → Ran}
    (hr : ∀ {s}, Memory.wf s.mem = true → (run s).Wf) : (s.dspInstr reads run).Wf :=
  State.coreInstr_wf h fun _ _ h => hr h

theorem State.withOperand_wf (ag u) {k : Word → State → State} (hk : ∀ m s, (k m s).mem = s.mem) :
    (s.withOperand ag u k).Wf := by
  have hl := State.dtcmRead_wf h (s.core.dsp.ag[ag]).p.toNat
  unfold State.withOperand
  split
  · exact h
  · next heq =>
    rw [heq] at hl
    simpa [Ran.Wf, hk] using show Memory.wf _ = true from hl

theorem State.macInstr_wf (op acc z ag u) : (s.macInstr op acc z ag u).Wf :=
  State.dspInstr_wf h fun h => State.withOperand_wf h _ _ fun _ _ => State.dspPush_mem ..

theorem State.saveWords_wf (a n) : Memory.wf (s.saveWords a n).mem = true :=
  foldl_wf (fun _ h => State.putDtcm_wf h ..) _ h

theorem State.readWords_wf (a n) : Memory.wf (s.readWords a n).2.2.mem = true := by
  induction n generalizing s a with
  | zero => exact h
  | succ n ih =>
    have hl := State.loadRam_wf h a 4
    unfold State.readWords
    split
    · exact h
    · next heq =>
      rw [heq] at hl
      exact ih hl _

-- Custom instructions

/-- Memory is canonical after a micro-op, whatever it answers. -/
def CxStep.Wf : CxStep → Prop
  | .next _ s => Memory.wf s.mem = true
  | .last _ s => Memory.wf s.mem = true
  | .fails _ s => Memory.wf s.mem = true

theorem CxRun.load_wf (c : CxRun) (w) : (c.load w s).Wf := by
  have hl := State.dtcmRead_wf h (c.address w).1
  simp only [CxRun.load]
  split
  · exact h
  · next heq =>
    rw [heq] at hl
    split
    · exact (congrArg Memory.wf (State.tick_mem ..)).trans hl
    · exact hl

theorem CxRun.store_wf (c : CxRun) (w) : (c.store w s).Wf := by
  simp only [CxRun.store]
  split <;> exact h

theorem CxRun.dsp_wf (c : CxRun) (w) : (c.dsp w s).Wf := by
  unfold CxRun.dsp
  dsimp only
  split <;> simpa [CxStep.Wf] using h

theorem CxRun.step_wf (c : CxRun) (w) : (c.step w s).Wf := by
  unfold CxRun.step
  split
  · exact h
  split
  · exact c.load_wf h w
  · exact c.load_wf h w
  · exact c.store_wf h w
  · exact c.store_wf h w
  · exact h
  · exact h
  · split <;> exact h
  · split <;> exact h
  · exact c.dsp_wf h w

theorem CxRun.ops_wf (c : CxRun) (first ws) : (c.ops s first ws).Wf := by
  induction ws generalizing s c first with
  | nil => exact h
  | cons w ws ih =>
    unfold CxRun.ops
    dsimp only
    generalize max (if first then 0 else 1) (c.stall w) = k
    have hs := (c.pass k).step_wf (s := s.tick k) (by simpa using h) w
    split
    · next heq =>
      rw [heq] at hs
      exact ih hs ..
    · exact hs

theorem CxRun.complete_wf (c : CxRun) (rd ra rb) : Memory.wf (c.complete rd ra rb s).mem = true := by
  have regs : (c.regs.foldl (fun s x => s.result (if x.1 = 0 then rd else if x.1 = 1 then ra else rb) x.2 1) s).mem = s.mem :=
    foldl_mem (fun s x => State.result_mem ..) ..
  exact foldl_wf (fun x h => State.pushStore_wf h ..) _ (by rwa [regs])

-- GATHER

/-- Memory is canonical after one element of GATHER, whether it ends or faults. -/
theorem State.gatherElement_wf (m0 agD agI base k) :
    (∀ {x t}, s.gatherElement m0 agD agI base k = .error (x, t) → Memory.wf t.mem = true) ∧
      ∀ {l t}, s.gatherElement m0 agD agI base k = .ok (l, t) → Memory.wf t.mem = true := by
  unfold State.gatherElement
  grind [State.ramReport_mem, State.gatherWord_mem, State.sourceUse_mem, State.putDtcm_wf]

theorem State.gatherFrom_wf (m0 agD agI base k f first n) :
    Memory.wf (s.gatherFrom m0 agD agI base k f first n).state.mem = true := by
  induction n generalizing s k f first with
  | zero => exact h
  | succ n ih =>
    obtain ⟨herror, hok⟩ := State.gatherElement_wf (s := s.tick (flightWait f first)) (by simpa using h) m0 agD agI base k
    unfold State.gatherFrom
    dsimp only
    split
    · next heq => exact herror heq
    · next heq => exact ih (hok heq) ..

theorem State.gatherFault_wf (k f) : (s.gatherFault k f).Wf := h
theorem State.gatherTaken_wf (r pc k) : (s.gatherTaken r pc k).Wf := State.takeAsync_wf (by exact h) _

-- Loads and stores

theorem Loaded.into_wf {l : Loaded} (hl : l.Wf) (w rt pc a) : (l.into w rt pc a s).Wf := by
  cases l with
  | value v n s1 =>
    refine State.writes_wf ?_ ..
    split <;> exact hl
  | fails x => exact h

theorem State.loadTurn_wf (a size) : Memory.wf (s.loadTurn a size).mem = true := by
  unfold State.loadTurn
  split <;> simp [h]

theorem State.loadInstr_wf (w rt ra off) : (s.loadInstr w rt ra off).Wf :=
  State.coreInstr_wf h fun _ _ h =>
    have ht := State.loadTurn_wf h ..
    Loaded.into_wf ht (State.loadAt_wf ht ..) ..

theorem State.storeInstr_wf (size rt ra off) : (s.storeInstr size rt ra off).Wf :=
  State.coreInstr_wf h fun _ _ h => State.storeOp_wf h ..

-- Modes and resets

theorem State.clearLost_wf : Memory.wf s.clearLost.mem = true :=
  State.clearGallery_wf (State.clearWords_wf (State.clearWords_wf h ..) ..)

theorem State.resumeTick_wf (e n) : Memory.wf (s.resumeTick e n).mem = true := by simp [State.resumeTick, h, State.clearLost_wf]

theorem State.warn_wf : Memory.wf s.warn.mem = true := by
  unfold State.warn
  extract_lets _ _ s1 s2
  have h1 : Memory.wf s1.mem = true := by
    unfold s1
    rwa [State.pulse_mem, State.setLeaf_mem]
  have h2 : Memory.wf s2.mem = true := by
    unfold s2
    split
    · exact State.calCheckpoint_wf h1
    · exact h1
  split
  · exact State.store_wf h2 ..
  · exact h2

theorem State.unwarn_wf : Memory.wf s.unwarn.mem = true := by
  unfold State.unwarn
  extract_lets _ s1 _ s2
  have h1 : Memory.wf s1.mem = true := by
    refine foldl_wf (fun b h => ?_) _ h
    split
    · exact State.saveRepair_wf h b
    · exact h
  have h2 : Memory.wf s2.mem = true := by
    unfold s2
    clear_value s1
    split
    · exact State.confirm_wf h1
    · exact h1
  clear_value s2
  split
  · exact State.lifeSave_wf h2
  · exact h2

theorem State.nresetFalls_wf : Memory.wf s.nresetFalls.mem = true := by
  unfold State.nresetFalls
  split <;> simp [h, State.afterReset_wf]

theorem State.sendBeacon_wf : Memory.wf s.sendBeacon.mem = true := by
  simp only [State.sendBeacon]
  split
  · exact h
  split
  · rwa [State.setLeaf_mem]
  · exact State.beginTx_wf (by exact h) ..

end Canonical

end Sys2Proof.Machine
end

section
/-!
PROOFS. Every command leaves canonical memory canonical, hence every step does. First the commands whose effect takes more than the lemma of one
operation, then all of them.
-/
namespace Sys2Proof.Machine

section Canonical
variable {s : State} (h : Memory.wf s.mem = true)
include h

-- Radio and link controller

theorem execTxAttemptStart_wf (slot phase) : (execTxAttemptStart slot phase s).Wf := by
  have ht : Memory.wf (s.reach phase).mem = true := by rwa [State.reach_mem]
  exact ok_wf (whenDo_wf ht (State.startTx_wf ht _))

theorem execRetryStart_wf (slot phase) : (execRetryStart slot phase s).Wf := by
  have ht : Memory.wf (s.reach phase).mem = true := by rwa [State.reach_mem]
  exact ok_wf (whenDo_wf ht (State.retry_wf ht _))

theorem execCalJobStart_wf (slot phase) : (execCalJobStart slot phase s).Wf := by
  have ht : Memory.wf (s.reach phase).mem = true := by rwa [State.reach_mem]
  exact ok_wf (whenDo_wf ht (State.startCal_wf ht _))

theorem execRxWindowEnd_wf (slot) : (execRxWindowEnd slot s).Wf := by
  refine ok_wf ?_
  split
  · exact h
  · next hr => simpa [State.reachTime_mem hr] using h

theorem execSyncFound_wf (lane decisions offsets phases phase) : (execSyncFound lane decisions offsets phases phase s).Wf := by
  have ht : Memory.wf (s.reach phase).mem = true := by rwa [State.reach_mem]
  refine ok_wf (whenDo_wf ht ?_)
  rw [State.pulse_mem]
  exact State.sync_wf (by rwa [State.setLane_mem]) _

theorem execLineExtend_wf (lane) : (execLineExtend lane s).Wf := by
  refine ok_wf ?_
  split
  · exact whenDo_wf h (State.extend_wf h _)
  · exact h

theorem execCrcVerdict_wf (lane soft) : (execCrcVerdict lane soft s).Wf := by
  refine ok_wf ?_
  split
  · exact h
  split
  · exact h
  dsimp only
  split
  · exact h
  split
  · exact h
  · next hr => exact State.endFrame_wf (by rwa [State.reachTime_mem hr]) ..

theorem execAckTurnaround_wf : (execAckTurnaround s).Wf := by
  refine ok_wf ?_
  split
  · exact h
  split
  · exact h
  · next hr =>
    have ht := h
    rw [← State.reachTime_mem hr] at ht
    exact whenDo_wf ht (State.beginTx_wf ht ..)

-- Flowstone

theorem execFlowstoneReclaim_wf (ring) : (execFlowstoneReclaim ring s).Wf := by
  refine ok_wf ?_
  split
  · exact whenDo_wf h (State.background_wf h _)
  · exact h

theorem execOrphanErase_wf : (execOrphanErase s).Wf := by
  refine ok_wf ?_
  split
  · exact h
  · exact whenDo_wf h (State.saveMap_wf (State.adoptOrphan_wf h _) _)

-- Lantern

theorem execTokenRead_wf : (execTokenRead s).Wf :=
  ok_wf (State.serve_wf h _ _ _ fun q => by
    have noted : Memory.wf (((s.ring 5).map s.noteRing).getD s).mem = true := by cases s.ring 5 <;> simpa using h
    dsimp only
    split
    · exact h
    · split <;> exact noted)

-- Update

theorem execOpenOp_wf : (execOpenOp s).Wf := by
  refine ok_wf ?_
  split
  · exact h
  · dsimp only
    split <;> simpa using h

theorem execActivate_wf : (execActivate s).Wf := by
  refine ok_wf ?_
  split
  · dsimp only
    split
    · simpa using h
    · exact State.upActivate_wf (by simpa using h) _
  · exact h

theorem execActivationEdge_wf : (execActivationEdge s).Wf := by
  refine ok_wf ?_
  split
  · exact whenDo_wf h (State.activateApp_wf h _)
  · exact h

theorem execCoreRestart_wf : (execCoreRestart s).Wf := by
  refine ok_wf ?_
  split
  · exact whenDo_wf h (State.restartCore_wf h)
  · exact h

-- Registers

theorem execLineWindowRead_wf (rt line) : (execLineWindowRead rt line s).Wf := by
  refine ok_wf ?_
  split
  · have hl := State.loadAt_wf (s := s.settle) (by simpa using h) (0x30010000 + 128 * line.val + 0x7C) 4
    split
    · next heq =>
      rw [heq] at hl
      exact (congrArg Memory.wf (State.tick_mem ..)).trans hl
    · exact h
  · exact h

-- Chain

theorem execAssign_wf (addr tag payload crc phase) : (execAssign addr tag payload crc phase s).Wf := by
  refine ok_wf ?_
  rwa [State.immediate_mem _ _ _ _ _ _ (fun s => by split <;> simp) fun _ s => by split <;> simp]

theorem execHello_wf (addr tag payload crc phase) : (execHello addr tag payload crc phase s).Wf :=
  ok_wf (by rwa [State.immediate_mem _ _ _ _ _ _ (fun s => s.hello_mem _) fun _ s => s.hello_mem _])

theorem execSummary_wf (addr tag payload crc phase) : (execSummary addr tag payload crc phase s).Wf :=
  ok_wf (by rwa [State.immediate_mem _ _ _ _ _ _ (fun _ => rfl) fun _ _ => rfl])

theorem execRead_wf (addr tag payload crc phase) : (execRead addr tag payload crc phase s).Wf :=
  ok_wf (by rwa [State.immediate_mem _ _ _ _ _ _ (fun _ => rfl) fun _ s => by dsimp only; split <;> simp])

theorem execFetch_wf (addr tag payload crc phase) : (execFetch addr tag payload crc phase s).Wf :=
  ok_wf (by rwa [State.immediate_mem _ _ _ _ _ _ (fun _ => rfl) fun _ s => by simp])

theorem execFrameTake_wf (addr tag payload crc phase) : (execFrameTake addr tag payload crc phase s).Wf :=
  ok_wf (by
    rwa [State.immediate_mem _ _ _ _ _ _ (fun _ => rfl) fun _ s => by
      dsimp only
      split
      · split <;> simp
      · split <;> simp])

-- System instructions

theorem execSyscall_wf (code) : (execSyscall code s).Wf := State.sysInstr_wf h fun _ _ h => h
theorem execBreakOp_wf (code) : (execBreakOp code s).Wf := State.sysInstr_wf h fun _ _ h => h

theorem execEret_wf : (execEret s).Wf :=
  State.sysInstr_wf h fun _ _ h => by split <;> simpa [Ran.Wf] using h

theorem execFence_wf : (execFence s).Wf := State.sysInstr_wf h fun _ _ h => State.fenced_wf h

theorem execIflush_wf : (execIflush s).Wf :=
  State.sysInstr_wf h fun _ _ h => by simpa [Ran.Wf] using State.fenced_wf h

theorem execDi_wf : (execDi s).Wf := State.sysInstr_wf h fun _ _ h => by simpa [Ran.Wf] using h

theorem execEi_wf : (execEi s).Wf :=
  State.sysInstr_wf h fun _ s h => by
    dsimp only
    have h1 : Memory.wf ({ s with core.csd := if s.core.csd = 0 then 0 else s.core.csd - 1 } : State).three.mem = true := by simpa using h
    split
    · split
      · exact State.takeAsync_wf h1 _
      · exact h1
    · exact h1

theorem execReservedOp_wf (word) : (execReservedOp word s).Wf := by
  unfold execReservedOp
  split
  · exact ok_wf h
  · exact State.coreInstr_wf h fun _ _ h => h

theorem execMfs_wf (rd sr) : (execMfs rd sr s).Wf :=
  State.sysInstr_wf h fun _ _ h => by
    split
    · exact State.writes_wf (by simpa using h) ..
    · exact h

theorem execDoze_wf : (execDoze s).Wf :=
  State.sysInstr_wf h fun _ _ h => State.enterDoze_wf (by simpa using h) _

-- Core events

theorem execInterruptEntry_wf : (execInterruptEntry s).Wf := by
  refine ok_wf ?_
  split
  · exact whenDo_wf h (State.takeAsync_wf h _)
  · exact h

theorem execExceptionEntry_wf : (execExceptionEntry s).Wf := by
  refine ok_wf ?_
  split
  · exact whenDo_wf h (State.raiseSync_wf h ..)
  · exact h

theorem execRunaheadEntry_wf (trigger) : (execRunaheadEntry trigger s).Wf := ok_wf (whenDo_wf h h)

-- DSP instructions

theorem execZld_wf (z ag u) : (execZld z ag u s).Wf :=
  State.dspInstr_wf h fun h => State.withOperand_wf h _ _ fun _ _ => State.dspPush_mem ..

theorem execZst_wf (z ag u) : (execZst z ag u s).Wf :=
  State.dspInstr_wf h fun h => by
    dsimp only
    split
    · exact h
    · exact (congrArg Memory.wf (State.agStep_mem ..)).trans (State.pushStore_wf h ..)

theorem execAclr_wf (acc) : (execAclr acc s).Wf := State.dspInstr_wf h fun h => by simpa [Ran.Wf] using h

theorem execZacc_wf (zd acc sh c) : (execZacc zd acc sh c s).Wf :=
  State.dspInstr_wf h fun h => by simpa [Ran.Wf] using h

theorem execAgset_wf (ag g field) : (execAgset ag g field s).Wf := State.dspInstr_wf h fun h => h

theorem execAgget_wf (ag g field) : (execAgget ag g field s).Wf :=
  State.dspInstr_wf h fun h => State.writes_wf h ..

theorem execZput_wf (z g) : (execZput z g s).Wf := State.dspInstr_wf h fun h => by simpa [Ran.Wf] using h
theorem execZget_wf (z g) : (execZget z g s).Wf := State.dspInstr_wf h fun h => State.writes_wf h ..

theorem execAccput_wf (acc g part) : (execAccput acc g part s).Wf :=
  State.dspInstr_wf h fun h => by simpa [Ran.Wf] using h

theorem execAccget_wf (acc g part) : (execAccget acc g part s).Wf :=
  State.dspInstr_wf h fun h => State.writes_wf h ..

theorem execDsave_wf (g) : (execDsave g s).Wf :=
  State.coreInstr_wf h fun _ s h => by
    have hd : Memory.wf s.serialise.drainStores.mem = true := State.drainStores_wf (by simpa using h)
    dsimp only
    generalize s.serialise.drainStores = s1 at hd ⊢
    split
    · exact h
    split
    · exact (congrArg Memory.wf (State.tick_mem ..)).trans (State.saveWords_wf hd ..)
    · have hs := State.saveWords_wf (s := (s1.draw 35).2) hd
      split
      · exact (congrArg Memory.wf (State.tick_mem ..)).trans (hs ..)
      · exact State.takeAsync_wf (by exact hs ..) _

theorem execDload_wf (g) : (execDload g s).Wf :=
  State.coreInstr_wf h fun _ s h => by
    have hr (a n) := State.readWords_wf (s := s.serialise) (by simpa using h) a n
    dsimp only
    split
    · exact h
    split
    · exact hr ..
    · exact (congrArg Memory.wf (State.tick_mem ..)).trans (hr ..)

-- Custom instructions and GATHER

theorem execCx_wf (e rd ra rb imm8) : (execCx e rd ra rb imm8 s).Wf :=
  State.coreInstr_wf h fun _ s h => by
    have drained (b : Bool) : Memory.wf (if b then s.drainStores else s).mem = true := by
      cases b
      · exact h
      · exact State.drainStores_wf h
    dsimp only
    split
    · exact h
    · generalize hc : CxRun.ops _ _ true _ = r
      have hw : r.Wf := hc ▸ CxRun.ops_wf (drained _) ..
      cases r with
      | next c1 s2 => exact c1.complete_wf hw ..
      | last c1 s2 => exact c1.complete_wf hw ..
      | fails x s2 => exact hw

theorem execGather_wf (agD agI gBase count) : (execGather agD agI gBase count s).Wf :=
  State.coreInstr_wf h fun _ s h => by
    have hd : Memory.wf s.serialise.drainStores.mem = true := State.drainStores_wf (by simpa using h)
    dsimp only
    generalize s.serialise.drainStores = s1 at hd ⊢
    split
    · split
      · exact State.gatherFault_wf (State.gatherFrom_wf hd ..) ..
      · exact (congrArg Memory.wf (State.tick_mem ..)).trans (State.gatherFrom_wf hd ..)
    · have hg := State.gatherFrom_wf (s := (s1.draw (count.val + 1 - s1.core.dsp.gstart.toNat + 1)).2) hd
      split
      · exact hg ..
      · exact State.gatherTaken_wf (hg ..) ..

-- Modes and resets

theorem execResumeTick_wf (e ticks) : (execResumeTick e ticks s).Wf := by
  refine ok_wf ?_
  split
  · exact h
  split
  · exact State.resumeTick_wf h ..
  split
  · exact State.boot6_wf (by exact h) _
  · exact h

theorem execBodSample_wf (below) : (execBodSample below s).Wf := by
  refine ok_wf (whenDo_wf h ?_)
  split
  · exact State.warn_wf h
  split
  · exact State.unwarn_wf h
  · exact h

theorem execBrownoutRelease_wf : (execBrownoutRelease s).Wf := by
  refine ok_wf (whenDo_wf h ?_)
  split
  · exact h
  · exact State.boot6_wf h _

theorem execPinReset_wf (micros) : (execPinReset micros s).Wf := by
  refine ok_wf ?_
  split
  · exact h
  split
  · exact State.nresetFalls_wf h
  have hd : Memory.wf (s.draw 2).2.mem = true := h
  dsimp only
  split
  · exact hd
  · exact State.nresetFalls_wf hd

/-- Every command keeps memory canonical. -/
theorem exec_wf (i : Instr) : Out.Wf (exec i s) := by
  cases i with
  | lfcalRunEnd | kclkCalibration | bypassEntry | bypassExit | lfxoFail | dozeWake | modeRequest | wakeTick | listenWake | xoRestart
    | laneDetection | fineEstimate | noSync | adcClip | synthUnlock | synthRelock | laneStart | lkSubmit | lkJobfree | lkCancel | ackWindowOpen
    | ackWindowClose | snapshotStart | calJobEnd | lkClaim | lkRelease | lkGive | linkTrig | presencePoll | confirmPoll | idFrame | noTokenRetry
    | lfFlood | lfFloodListen | irFlood | irRearm | irMark | irCodeEnd | oSenseWindow | lockoutEnd | lockCheckpoint | dormancy | enrollWindowEnd
    | releaseHoldExpiry | resume | clearLock | rawStart | irAck | closeEnroll | tkVerdict | conduitEvent | gpSet | gpClr | gpTgl | gpioEdge
    | gpioWake | timerTick | tmCapture | pwmPeriodStart | pwmLoad | pwmEnable | adcTrigger | trngWord | trngHealthFail | shaStart | aesStart
    | aesBlockDone | flKey | flashSeqTimeout | program | erase | blankCheck | resultRelease | calendarTick | ltResetreq | stickInsert
    | stickRemove | confirm | confirmExpired | sessionTimeout | enumEnableChange | chDbgctl | causeClear | csCmask | relayPolicyStart
    | nresetRelease =>
    exact ok_wf (by simp [h])
  | add | sub | and | or | xor | nor | slt | sltu | sll | srl | sra | ror | sllv | srlv | srav | rorv | min | max | minu | maxu | clz | sextb
    | sexth | zexth | bswap | cmovz | cmovnz | addi | andi | ori | xori | slti | sltiu | movhi =>
    exact State.aluInstr_wf h _ _ _
  | sliceDeadline | scheduledWake | phyHeaderCheck | txAttemptEnd | ackEnd | responseFrame | noResponse | noToken | keyholderReady
    | hibernatePresence | runaheadExit | adcConversionEnd | shaRunEnd | updatePortOp | slotEraseDone | block | closeOp | verifyDone | abortOp
    | linkReload =>
    exact ok_wf (by split <;> simp [h])
  | write | clear | updateOpen | updateBlock | updateClose | updateActivate | frameSend | lanternSubmit | lanternResult | memRead | memWrite
    | resetUnit =>
    exact ok_wf (by simp [h, State.queued_wf])
  | beq | bne | blt | bge | bltu | bgeu => exact State.branchInstr_wf h _ _ _ _
  | lw | lh | lhu | lb | lbu => exact State.loadInstr_wf h _ _ _ _
  | div | divu | rem | remu => exact State.divInstr_wf h _ _ _ _
  | cmac | cmacj | cmsu | cmul => exact State.macInstr_wf h _ _ _ _ _
  | identity | calGet | calAlarm | bodHist => exact ok_wf (State.serve_wf h _ _ _ fun _ => h)
  | calSet | recWrite | tokenRevoke | lockWrite => exact ok_wf (State.serve_wf h _ _ _ fun _ => by grind [State.store_wf])
  | brownoutReset | clockReset | hibernateWake => exact ok_wf (whenDo_wf h (by simp [h, State.afterReset_wf]))
  | lkRxq | adDataRead | gpTrngData => exact ok_wf (by simp [h, State.coreRead_wf])
  | addsat | subsat | abs => exact State.satInstr_wf h _ _ _
  | mul | mulh | mulhu => exact State.mulInstr_wf h _ _ _ _
  | sw | sh | sb => exact State.storeInstr_wf h _ _ _ _
  | mts | cpDtdata | cpDtlock => exact State.mtsInstr_wf h _ _
  | wakeAt | lifeGet | monoGet => exact ok_wf (State.serve_wf h _ _ _ fun _ => by grind)
  | jump | jal => exact State.jumpInstr_wf h _ _
  | jr | jalr => exact State.jumpRegInstr_wf h _ _
  | keyRetire | keyRemove => exact ok_wf (State.serve_wf h _ _ _ fun _ => by grind [State.keyChange_wf])
  | dripEdge => exact ok_wf (whenDo_wf h (by simp [h, State.transfer_wf]))
  | resumeTick => exact execResumeTick_wf h _ _
  | powerOnReset => exact ok_wf (by simp [h, State.afterReset_wf])
  | earlyWarning => exact ok_wf (whenDo_wf h (by simp [h, State.warn_wf]))
  | warningRelease => exact ok_wf (whenDo_wf h (by simp [h, State.unwarn_wf]))
  | bodSample => exact execBodSample_wf h _
  | doze => exact execDoze_wf h
  | pinReset => exact execPinReset_wf h _
  | recoveryBeacon => exact ok_wf (whenDo_wf h (by simp [h, State.sendBeacon_wf]))
  | syncFound => exact execSyncFound_wf h _ _ _ _ _
  | lineExtend => exact execLineExtend_wf h _
  | crcVerdict => exact execCrcVerdict_wf h _ _
  | securityCheck => exact ok_wf (by simp [h, State.securityCheck_wf])
  | txAttemptStart => exact execTxAttemptStart_wf h _ _
  | retryStart => exact execRetryStart_wf h _ _
  | rxWindowEnd => exact execRxWindowEnd_wf h _
  | ackTurnaround => exact execAckTurnaround_wf h
  | relaySlot => exact ok_wf (by simp [h, State.relaySlot_wf])
  | snapshotEnd => exact ok_wf (whenDo_wf h (by simp [h, State.writeLines_wf]))
  | calJobStart => exact execCalJobStart_wf h _ _
  | leaseCommit => exact ok_wf (whenDo_wf h (by simp [h, State.leaseCommit_wf]))
  | rawStop => exact ok_wf (by simp [h, State.tkRawStop_wf])
  | rawDone => exact ok_wf (by simp [h, State.rawEnd_wf])
  | syscall => exact execSyscall_wf h _
  | breakOp => exact execBreakOp_wf h _
  | eret => exact execEret_wf h
  | fence => exact execFence_wf h
  | iflush => exact execIflush_wf h
  | mfs => exact execMfs_wf h _ _
  | di => exact execDi_wf h
  | ei => exact execEi_wf h
  | reservedOp => exact execReservedOp_wf h _
  | zld => exact execZld_wf h _ _ _
  | zst => exact execZst_wf h _ _ _
  | aclr => exact execAclr_wf h _
  | zacc => exact execZacc_wf h _ _ _ _
  | agset => exact execAgset_wf h _ _ _
  | agget => exact execAgget_wf h _ _ _
  | zput => exact execZput_wf h _ _
  | zget => exact execZget_wf h _ _
  | accput => exact execAccput_wf h _ _ _
  | accget => exact execAccget_wf h _ _ _
  | gather => exact execGather_wf h _ _ _ _
  | dsave => exact execDsave_wf h _
  | dload => exact execDload_wf h _
  | cx => exact execCx_wf h _ _ _ _ _
  | interruptEntry => exact execInterruptEntry_wf h
  | exceptionEntry => exact execExceptionEntry_wf h
  | runaheadEntry => exact execRunaheadEntry_wf h _
  | storeDrain => exact ok_wf (whenDo_wf h (by simp [h, State.drainOne_wf]))
  | lineWindowRead => exact execLineWindowRead_wf h _ _
  | scrubVisit => exact ok_wf (whenDo_wf h (by simp [h, State.scrubVisit_wf]))
  | flashOpEnd => exact ok_wf (by split <;> simp [h, State.flashEffect_wf])
  | flowstoneReclaim => exact execFlowstoneReclaim_wf h _
  | patrolVisit => exact ok_wf (whenDo_wf h (by simp [h, State.saveMap_wf, State.patrolSector_wf]))
  | orphanErase => exact execOrphanErase_wf h
  | lifeAdd => exact ok_wf (State.serve_wf h _ _ _ fun _ => by grind [State.lifeAdd_mem, State.setLeaf_mem])
  | lifeSave => exact ok_wf (State.serve_wf h _ _ _ fun _ => by grind [State.lifeSave_wf])
  | recRead => exact ok_wf (State.serve_wf h _ _ _ fun _ => by grind [State.noteRing_mem])
  | monoInc => exact ok_wf (State.serve_wf h _ _ _ fun _ => by grind [State.monoInc_wf])
  | keyInstall => exact ok_wf (State.serve_wf h _ _ _ fun _ => by grind [State.keyInstall_wf])
  | tokenWrite => exact ok_wf (State.serve_wf h _ _ _ fun _ => by grind [State.tokenStore_wf])
  | tokenRead => exact execTokenRead_wf h
  | provision => exact ok_wf (State.serve_wf h _ _ _ fun _ => by grind [State.programGroup_wf])
  | calCheckpoint => exact ok_wf (whenDo_wf h (by simp [h, State.lifeSave_wf, State.calCheckpoint_wf]))
  | openOp => exact execOpenOp_wf h
  | activate => exact execActivate_wf h
  | activationEdge => exact execActivationEdge_wf h
  | coreRestart => exact execCoreRestart_wf h
  | stickEvaluation => exact ok_wf (whenDo_wf h (by simp [h, State.stickEvaluate_wf]))
  | hello => exact execHello_wf h _ _ _ _ _
  | assign => exact execAssign_wf h _ _ _ _ _
  | summary => exact execSummary_wf h _ _ _ _ _
  | read => exact execRead_wf h _ _ _ _ _
  | fetch => exact execFetch_wf h _ _ _ _ _
  | frameTake => exact execFrameTake_wf h _ _ _ _ _
  | unsupportedOp => exact ok_wf (whenDo_wf h (by simp [h, State.queued_wf]))
  | rcFieldRead => exact ok_wf (by split <;> simp [h, State.coreRead_wf])
  | registerWrite => exact ok_wf (by simp [h, State.coreWrite_wf])
  | brownoutRelease => exact execBrownoutRelease_wf h

end Canonical

/-- Settles O3: the command at the front of the queue runs on a state with the same memory, and every command keeps memory canonical
(`exec_wf`). -/
theorem everyStepKeepsMemoryCanonical : Obligations.EveryStepKeepsMemoryCanonical := by
  unfold Obligations.EveryStepKeepsMemoryCanonical
  intro s t h ht
  unfold step at ht
  split at ht
  · cases ht
    exact h
  · next c rest _ =>
    have same : Memory.wf ({ s with pending := rest } : State).mem = true := h
    exact exec_wf same c t ht

end Sys2Proof.Machine
end

section
/-!
PROOFS. What a transfer leaves of the drip's time: the operations that a drip edge runs. None but the step to the next drip moves the count or the phase.
Most leave the whole drip block; a few touch its other fields (a latch, a flag, the stop), and of these the lemma speaks of `DripBlock.clock`.
-/
namespace Sys2Proof.Machine

/-- Where in time the drip stands: its count and its phase (R59, R64). -/
def DripBlock.clock (d : DripBlock) : BitVec 48 × Nat := (d.count, d.phase)

/-- A fold whose every step keeps a view of the state keeps that view. -/
theorem foldl_keeps {α β : Type} (view : State → β) {f : State → α → State} (hf : ∀ s a, view (f s a) = view s) (l : List α) (s : State) :
    view (l.foldl f s) = view s :=
  List.foldlRecOn (motive := fun t => view t = view s) l f rfl fun t h a _ => (hf t a).trans h

theorem foldl_drip {α : Type} {f : State → α → State} (hf : ∀ s a, (f s a).drip = s.drip) (l : List α) (s : State) : (l.foldl f s).drip = s.drip :=
  foldl_keeps (fun s => s.drip) hf l s

theorem foldl_clock {α : Type} {f : State → α → State} (hf : ∀ s a, (f s a).drip.clock = s.drip.clock) (l : List α) (s : State) :
    (l.foldl f s).drip.clock = s.drip.clock :=
  foldl_keeps (fun s => s.drip.clock) hf l s

@[simp] theorem State.ite_drip {c : Prop} [Decidable c] (s t : State) : (if c then s else t).drip = if c then s.drip else t.drip :=
  apply_ite (fun s : State => s.drip) _ _ _

section Frame
variable (s : State)

-- State

@[simp] theorem State.setOwners_drip (ns o) : (s.setOwners ns o).drip = s.drip :=
  foldl_drip (f := fun s n => s.setOwner n o) (fun _ _ => rfl) ..

@[simp] theorem State.takeLine_drip (n o) : (s.takeLine n o).drip = s.drip := rfl
@[simp] theorem State.noteWake_drip (src) : (s.noteWake src).drip = s.drip := by simp [State.noteWake]

-- Pins, timers, PWM, ADC and AES

@[simp] theorem State.setGpio_drip (g) : (s.setGpio g).drip = s.drip := by simp [State.setGpio]
@[simp] theorem State.gpSet_drip (m) : (s.gpSet m).drip = s.drip := rfl
@[simp] theorem State.gpClr_drip (m) : (s.gpClr m).drip = s.drip := rfl
@[simp] theorem State.gpTgl_drip (m) : (s.gpTgl m).drip = s.drip := rfl
@[simp] theorem State.setTimer_drip (n t) : (s.setTimer n t).drip = s.drip := rfl
@[simp] theorem State.capture_drip (n) : (s.capture n).drip = s.drip := by simp [State.capture]
@[simp] theorem State.setPwm_drip (n p) : (s.setPwm n p).drip = s.drip := rfl
@[simp] theorem State.periodStart_drip (n force) : (s.periodStart n force).drip = s.drip := by simp [State.periodStart]
@[simp] theorem State.pwmLoad_drip (m) : (s.pwmLoad m).drip = s.drip := foldl_drip (fun s n => by simp) ..
@[simp] theorem State.pwmEnable_drip (m) : (s.pwmEnable m).drip = s.drip := foldl_drip (fun s n => by simp) ..
@[simp] theorem State.adcTrigger_drip : s.adcTrigger.drip = s.drip := by simp [State.adcTrigger]
@[simp] theorem State.aesStart_drip : s.aesStart.drip = s.drip := by simp [State.aesStart]

-- Keyholder

@[simp] theorem State.setKey_drip (k) : (s.setKey k).drip = s.drip := rfl
@[simp] theorem State.askLock_drip : s.askLock.drip = s.drip := rfl
@[simp] theorem State.commitRelease_drip (lvl state) : (s.commitRelease lvl state).drip = s.drip := by simp [State.commitRelease]
@[simp] theorem State.callL_drip (again) : (s.callL again).drip = s.drip := rfl
@[simp] theorem State.arrival_drip : s.arrival.drip = s.drip := by simp [State.arrival]
@[simp] theorem State.resumeL_drip : s.resumeL.drip = s.drip := by simp [State.resumeL]

@[simp] theorem State.endLockout_drip : s.endLockout.drip = s.drip := by
  simp only [State.endLockout]
  split <;> simp

@[simp] theorem State.cmdRes_drip (code status) : (s.cmdRes code status).drip = s.drip := rfl
@[simp] theorem State.tkResume_drip : s.tkResume.drip = s.drip := by simp [State.tkResume]
@[simp] theorem State.tkClearLock_drip : s.tkClearLock.drip = s.drip := by simp [State.tkClearLock]
@[simp] theorem State.tkRawStart_drip : s.tkRawStart.drip = s.drip := by simp [State.tkRawStart]

@[simp] theorem State.rawEnd_drip (samples) : (s.rawEnd samples).drip = s.drip := by
  unfold State.rawEnd
  split <;> rfl

@[simp] theorem State.tkRawStop_drip (samples) : (s.tkRawStop samples).drip = s.drip := by simp [State.tkRawStop]

@[simp] theorem State.drawSamples_drip (n) : (s.drawSamples n).2.drip = s.drip := by
  induction n generalizing s with
  | zero => rfl
  | succ n ih => simp [State.drawSamples, ih]

@[simp] theorem State.stopRaw_drip : s.stopRaw.drip = s.drip := by simp [State.stopRaw]
@[simp] theorem State.tkIrAck_drip : s.tkIrAck.drip = s.drip := rfl
@[simp] theorem State.tkCloseEnroll_drip : s.tkCloseEnroll.drip = s.drip := rfl

@[simp] theorem State.tkVerdict_drip (v) : (s.tkVerdict v).drip = s.drip := by
  unfold State.tkVerdict
  grind [State.cmdRes_drip, State.setKey_drip]

@[simp] theorem State.countFailure_drip (c) : (s.countFailure c).drip = s.drip := by
  unfold State.countFailure
  grind [State.pulse_drip, State.setKey_drip, State.setLeaf_drip, State.askLock_drip]

@[simp] theorem State.commitResult_drip (r) : (s.commitResult r).drip = s.drip := by
  unfold State.commitResult
  grind [State.pulse_drip, State.countFailure_drip, State.setKey_drip, State.setLeaf_drip, State.setLeafIf_drip]

@[simp] theorem State.commitResults_drip (rs) : (s.commitResults rs).drip = s.drip := foldl_drip State.commitResult_drip ..
@[simp] theorem State.keyCommit_drip (gate) : (s.keyCommit gate).drip = s.drip := by simp [State.keyCommit]
@[simp] theorem State.tableLoad_drip (t) : (s.tableLoad t).drip = s.drip := by simp [State.tableLoad]

@[simp] theorem State.tkCommand_drip (c) : (s.tkCommand c).drip = s.drip := by
  unfold State.tkCommand
  split <;> simp

@[simp] theorem State.writeKey_drip (off v) : (s.writeKey off v).drip = s.drip := by
  unfold State.writeKey
  grind [State.tkCommand_drip, State.setKey_drip, State.tkVerdict_drip]

-- Radio and gallery lines

@[simp] theorem State.setLane_drip (l x) : (s.setLane l x).drip = s.drip := rfl
@[simp] theorem State.setJob_drip (n j) : (s.setJob n j).drip = s.drip := rfl
@[simp] theorem State.finishWith_drip (n r moveLines) : (s.finishWith n r moveLines).drip = s.drip := by simp [State.finishWith]

@[simp] theorem State.dropFrame_drip (l) : (s.dropFrame l).drip = s.drip := by
  unfold State.dropFrame
  split <;> simp

@[simp] theorem State.endAtFrame_drip (l) : (s.endAtFrame l).drip = s.drip := by
  simp only [State.endAtFrame]
  split <;> simp

@[simp] theorem State.letGo_drip (l) : (s.letGo l).drip = s.drip := by simp [State.letGo]
@[simp] theorem State.laneOff_drip (l) : (s.laneOff l).drip = s.drip := by simp [State.laneOff]

@[simp] theorem State.tuneLane_drip (restart l) : (s.tuneLane restart l).drip = s.drip := by
  unfold State.tuneLane
  grind [State.setLane_drip, State.letGo_drip, State.laneOff_drip]

@[simp] theorem State.refreshSynth_drip : s.refreshSynth.drip = s.drip := rfl
@[simp] theorem State.applyLanes_drip (back) : (s.applyLanes back).drip = s.drip := by simp [State.applyLanes]
@[simp] theorem State.finishJob_drip (n r) : (s.finishJob n r).drip = s.drip := by simp [State.finishJob]

-- Key slots

@[simp] theorem State.setKeySlot_drip (n k) : (s.setKeySlot n k).drip = s.drip := rfl

-- Jobs

@[simp] theorem State.armJob_drip (n start late) : (s.armJob n start late).drip = s.drip := rfl
@[simp] theorem State.acceptJob_drip (n host tag) : (s.acceptJob n host tag).drip = s.drip := by simp [State.acceptJob]

@[simp] theorem State.endTx_drip : s.endTx.drip = s.drip := by
  unfold State.endTx
  split <;> simp

@[simp] theorem State.settleTx_drip (now) : (s.settleTx now).drip = s.drip := by
  unfold State.settleTx
  grind [State.pulse_drip, State.endTx_drip]

@[simp] theorem State.endReceiving_drip (n r) : (s.endReceiving n r).drip = s.drip := by simp [State.endReceiving]

-- Reception

@[simp] theorem State.cancelJob_drip (n) : (s.cancelJob n).drip = s.drip := by
  unfold State.cancelJob
  grind [State.setLane_drip, State.endReceiving_drip, State.setJob_drip, State.finishJob_drip]

@[simp] theorem State.freeJob_drip (n) : (s.freeJob n).drip = s.drip := by simp [State.freeJob]
@[simp] theorem State.submitJob_drip (n) : (s.submitJob n).drip = s.drip := by simp [State.submitJob]

theorem State.eachSlot_drip (mask) {f : State → Fin 16 → State} (hf : ∀ s n, (f s n).drip = s.drip) : (s.eachSlot mask f).drip = s.drip :=
  foldl_drip (fun s n => by simp [hf]) ..

@[simp] theorem State.claimLine_drip (n) : (s.claimLine n).drip = s.drip := by simp [State.claimLine]
@[simp] theorem State.releaseLine_drip (n) : (s.releaseLine n).drip = s.drip := by simp [State.releaseLine]
@[simp] theorem State.giveLines_drip (ns) : (s.giveLines ns).drip = s.drip := by simp [State.giveLines]

-- Registers of the link controller

@[simp] theorem Blocks.putLinkCounts_drip (b : Blocks) (off v) : (b.putLinkCounts off v).drip = b.drip := by
  unfold Blocks.putLinkCounts
  split <;> rfl

@[simp] theorem State.linkRemoval_drip (off v) : (s.linkRemoval off v).drip = s.drip := by
  unfold State.linkRemoval
  split <;> simp

@[simp] theorem State.writeDescriptor_drip (n w v) : (s.writeDescriptor n w v).drip = s.drip := by simp [State.writeDescriptor]

@[simp] theorem State.deliverLink_clock (off v) : (s.deliverLink off v).drip.clock = s.drip.clock := by
  unfold State.deliverLink
  split
  · rw [foldl_drip fun s i => s.claimLine_drip _]
  split
  · rw [foldl_drip fun s i => s.releaseLine_drip _]
  split
  · rfl
  split
  · simp
  split
  case h_1 =>
    dsimp only
    split <;> rfl
  all_goals simp [State.eachSlot_drip]

-- Flowstone

@[simp] theorem State.setFlow_drip (f) : (s.setFlow f).drip = s.drip := rfl
@[simp] theorem State.lifeAdd_drip (i n) : (s.lifeAdd i n).drip = s.drip := rfl
@[simp] theorem State.dropGroups_drip (lo hi) : (s.dropGroups lo hi).drip = s.drip := rfl

@[simp] theorem State.drawBytes_drip (n) : (s.drawBytes n).2.drip = s.drip := by
  induction n generalizing s with
  | zero => rfl
  | succ n ih => simp [State.drawBytes, ih]

@[simp] theorem State.programGroup_drip (sec g bs) : (s.programGroup sec g bs).2.drip = s.drip := by
  simp only [State.programGroup]
  split
  · simp
  · split <;> simp

@[simp] theorem State.programGroups_drip (sec g gs) : (s.programGroups sec g gs).2.drip = s.drip := by
  induction gs generalizing s g with
  | nil => rfl
  | cons bs gs ih =>
    simp only [State.programGroups]
    split <;> simp [ih]

@[simp] theorem State.eraseFs_drip (sec) : (s.eraseFs sec).2.drip = s.drip := by
  simp only [State.eraseFs]
  split <;> simp

@[simp] theorem State.setRing_drip (r) : (s.setRing r).drip = s.drip := rfl

@[simp] theorem State.writeSlot_drip (s8 sec slot key len seq data) : (s.writeSlot s8 sec slot key len seq data).2.drip = s.drip := by
  simp only [State.writeSlot]
  split <;> simp

@[simp] theorem State.ringReadOnly_drip (r) : (s.ringReadOnly r).drip = s.drip := by simp [State.ringReadOnly]
@[simp] theorem State.retire_drip (r sec) : (s.retire r sec).drip = s.drip := by simp [State.retire]

@[simp] theorem State.renew_drip (ring sec) : (s.renew ring sec).2.drip = s.drip := by
  simp only [State.renew]
  split <;> simp

@[simp] theorem State.retireFree_drip (sec) : (s.retireFree sec).drip = s.drip := rfl
@[simp] theorem State.recycle_drip (r sec) : (s.recycle r sec).drip = s.drip := by simp [State.recycle]

@[simp] theorem State.appendHead_drip (id key len seq data) : (s.appendHead id key len seq data).2.drip = s.drip := by
  unfold State.appendHead
  grind [State.writeSlot_drip, State.setFlow_drip]

@[simp] theorem State.copyRecord_drip (id x n) : (s.copyRecord id x n).2.drip = s.drip := by
  induction n generalizing s with
  | zero => rfl
  | succ n ih =>
    unfold State.copyRecord
    grind [State.appendHead_drip]

@[simp] theorem State.moveRecords_drip (id xs) : (s.moveRecords id xs).2.drip = s.drip := by
  induction xs generalizing s with
  | nil => rfl
  | cons x xs ih =>
    unfold State.moveRecords
    grind [State.copyRecord_drip]

@[simp] theorem State.reclaimSector_drip (id sec) : (s.reclaimSector id sec).2.drip = s.drip := by
  unfold State.reclaimSector
  grind [State.moveRecords_drip, State.recycle_drip]

@[simp] theorem State.openHead_drip (r sec epoch) : (s.openHead r sec epoch).drip = s.drip := by simp [State.openHead]

@[simp] theorem State.makeRoom_drip (id n) : (s.makeRoom id n).2.drip = s.drip := by
  induction n generalizing s with
  | zero => rfl
  | succ n ih =>
    unfold State.makeRoom
    grind [State.openHead_drip, State.reclaimSector_drip, State.recycle_drip]

@[simp] theorem State.writeCopy_drip (id key len seq data n) : (s.writeCopy id key len seq data n).2.drip = s.drip := by
  induction n generalizing s seq with
  | zero => rfl
  | succ n ih =>
    unfold State.writeCopy
    grind [State.makeRoom_drip, State.appendHead_drip]

@[simp] theorem State.roomInAll_drip (cs) : (s.roomInAll cs).2.drip = s.drip := by
  induction cs generalizing s with
  | nil => rfl
  | cons c cs ih =>
    simp only [State.roomInAll]
    split <;> simp [ih]

@[simp] theorem State.writeAll_drip (key len seq data cs) : (s.writeAll key len seq data cs).2.drip = s.drip := by
  induction cs generalizing s seq with
  | nil => rfl
  | cons c cs ih =>
    unfold State.writeAll
    grind [State.writeCopy_drip]

@[simp] theorem State.writeNext_drip (r copies key len data) : (s.writeNext r copies key len data).2.drip = s.drip := by
  simp only [State.writeNext]
  split <;> simp

@[simp] theorem State.saveMap_drip (old) : (s.saveMap old).drip = s.drip := by
  unfold State.saveMap
  grind [State.writeNext_drip]

@[simp] theorem State.compact_drip (r) : (s.compact r).drip = s.drip := by
  unfold State.compact
  refine (foldl_drip (fun s x => s.writeNext_drip ..) ..).trans (foldl_drip (fun s c => ?_) ..)
  grind [State.makeRoom_drip, State.openHead_drip]

@[simp] theorem State.beforeWrite_drip (r) : (s.beforeWrite r).drip = s.drip := by
  unfold State.beforeWrite
  split
  · rfl
  split
  · exact foldl_drip State.ringReadOnly_drip ..
  · exact s.compact_drip r

@[simp] theorem State.resolveKey_drip (r key) : (s.resolveKey r key).drip = s.drip := by
  unfold State.resolveKey
  grind [State.writeNext_drip, State.setFlow_drip, State.setLeaf_drip]

@[simp] theorem State.commitRecord_drip (id key len data) : (s.commitRecord id key len data).2.drip = s.drip := by
  unfold State.commitRecord
  grind [State.beforeWrite_drip, State.writeNext_drip, State.resolveKey_drip, State.saveMap_drip]

@[simp] theorem State.store_drip (id key len data) : (s.store id key len data).2.2.drip = s.drip := by
  unfold State.store
  grind [State.commitRecord_drip]

@[simp] theorem State.toPool_drip (sec) : (s.toPool sec).drip = s.drip := by simp [State.toPool]

-- Memory integrity

@[simp] theorem State.verifyLine_drip (n) : (s.verifyLine n).drip = s.drip := by simp [State.verifyLine]

-- Flash

@[simp] theorem State.flashDone_drip (err result) : (s.flashDone err result).drip = s.drip := by simp [State.flashDone]
@[simp] theorem State.flashRefuse_drip (why) : (s.flashRefuse why).drip = s.drip := rfl
@[simp] theorem State.flashStart_drip : s.flashStart.drip = s.drip := by simp [State.flashStart]
@[simp] theorem State.seqCancel_drip : s.seqCancel.drip = s.drip := rfl

@[simp] theorem State.flashWrite_drip (off v) : (s.flashWrite off v).drip = s.drip := by
  unfold State.flashWrite
  grind [State.seqCancel_drip, State.flashStart_drip]

-- SHA-256

@[simp] theorem State.shaStart_drip : s.shaStart.drip = s.drip := by simp [State.shaStart]

-- Registers of the peripherals

@[simp] theorem State.gpioWrite_drip (off v) : (s.gpioWrite off v).drip = s.drip := by
  unfold State.gpioWrite
  split <;> simp

@[simp] theorem State.timerWrite_drip (n off v) : (s.timerWrite n off v).drip = s.drip := by
  unfold State.timerWrite
  split <;> simp

@[simp] theorem State.pwmWrite_drip (n off v) : (s.pwmWrite n off v).drip = s.drip := by
  unfold State.pwmWrite
  split <;> rfl

@[simp] theorem State.adcWrite_drip (off v) : (s.adcWrite off v).drip = s.drip := by
  unfold State.adcWrite
  split <;> simp

@[simp] theorem State.aesPut_drip (off v) : (s.aesPut off v).drip = s.drip := by simp [State.aesPut]

@[simp] theorem State.engineWrite_drip (off v) : (s.engineWrite off v).drip = s.drip := by
  unfold State.engineWrite
  grind [State.aesStart_drip, State.aesPut_drip, State.shaStart_drip]

@[simp] theorem State.periphWrite_drip (off v) : (s.periphWrite off v).drip = s.drip := by
  unfold State.periphWrite
  grind [State.gpioWrite_drip, State.timerWrite_drip, State.pwmEnable_drip, State.pwmLoad_drip, State.pwmWrite_drip, State.adcWrite_drip,
    State.engineWrite_drip, State.writeKey_drip, State.flashWrite_drip]

-- Lantern

@[simp] theorem State.alarmCheck_drip : s.alarmCheck.drip = s.drip := by simp [State.alarmCheck]
@[simp] theorem State.applyCalSet_drip (q a) : (s.applyCalSet q a).drip = s.drip := by simp [State.applyCalSet]
@[simp] theorem State.enqueue_drip (q) : (s.enqueue q).drip = s.drip := rfl

@[simp] theorem State.submit_drip (r m) : (s.submit r m).1.drip = s.drip := by
  unfold State.submit
  grind [State.enqueue_drip]

@[simp] theorem State.releaseResult_drip (r m) : (s.releaseResult r m).1.drip = s.drip := by
  unfold State.releaseResult
  grind

@[simp] theorem State.deliverResult_drip (r m) : (s.deliverResult r m).1.drip = s.drip := by
  unfold State.deliverResult
  grind [State.applyCalSet_drip, State.setLeaf_drip]

@[simp] theorem State.acceptKey_drip : s.acceptKey.drip = s.drip := by
  unfold State.acceptKey
  split <;> simp

@[simp] theorem State.mailboxes_drip : s.mailboxes.drip = s.drip := by simp [State.mailboxes]
@[simp] theorem State.calCheckpoint_drip : s.calCheckpoint.drip = s.drip := by simp [State.calCheckpoint]

-- Rings

@[simp] theorem State.releaseRings_drip : s.releaseRings.drip = s.drip := by
  unfold State.releaseRings
  split
  · rfl
  · exact foldl_drip State.toPool_drip ..

-- Settings

@[simp] theorem State.saveRecord_drip (r) : (s.saveRecord r).2.drip = s.drip := by simp [State.saveRecord]
@[simp] theorem State.putKey_drip (acc : Bool × State) (key data) : (State.putKey acc key data).2.drip = acc.2.drip := by simp [State.putKey]
@[simp] theorem State.clearSaved_drip (acc : Bool × State) : (State.clearSaved acc).2.drip = acc.2.drip := by simp [State.clearSaved]

-- Boot

@[simp] theorem State.loadUcode_drip (l) : (s.loadUcode l).drip = s.drip := rfl

-- Update

@[simp] theorem State.setUpdate_drip (u) : (s.setUpdate u).drip = s.drip := rfl

@[simp] theorem State.upDone_drip (c st) : (s.upDone c st).drip = s.drip := by
  unfold State.upDone
  split <;> rfl

@[simp] theorem State.endSession_drip : s.endSession.drip = s.drip := rfl

@[simp] theorem State.failSession_drip (st) : (s.failSession st).drip = s.drip := by
  unfold State.failSession
  simp only [State.setLeafIf_drip, State.endSession_drip, State.setUpdate_drip]
  exact foldl_drip (fun s c => s.upDone_drip c st) ..

@[simp] theorem State.upSubmit_drip : s.upSubmit.drip = s.drip := by simp [State.upSubmit]

-- Registers, as the core and the host see them

@[simp] theorem State.confirm_drip : s.confirm.drip = s.drip := by
  unfold State.confirm
  grind [State.saveRecord_drip, State.setLeaf_drip, State.releaseRings_drip, State.clearSaved_drip]

@[simp] theorem State.deliverLantern_drip (off v) : (s.deliverLantern off v).drip = s.drip := by
  unfold State.deliverLantern
  grind [State.confirm_drip]

@[simp] theorem State.farCapture_clock (addr) : (s.farCapture addr).drip.clock = s.drip.clock := by
  unfold State.farCapture
  split <;> rfl

@[simp] theorem State.coreWriteFar_drip (addr v) : (s.coreWriteFar addr v).drip = s.drip := by simp [State.coreWriteFar]
@[simp] theorem State.hostWrite_drip (addr v) : (s.hostWrite addr v).drip = s.drip := by simp [State.hostWrite]
@[simp] theorem State.causeClear_drip (g mask) : (s.causeClear g mask).drip = s.drip := by simp [State.causeClear]
@[simp] theorem State.setCmask_drip (g v) : (s.setCmask g v).drip = s.drip := rfl

@[simp] theorem State.privateWrite_drip (off v) : (s.privateWrite off v).drip = s.drip := by
  unfold State.privateWrite
  split
  · simp
  split
  · simp
  split <;> rfl

@[simp] theorem State.ioWrite_drip (a v) : (s.ioWrite a v).drip = s.drip := by
  unfold State.ioWrite
  split <;> simp

@[simp] theorem State.debugRemoves_drip (r) : (s.debugRemoves r).drip = s.drip := by
  unfold State.debugRemoves
  split <;> simp

@[simp] theorem State.debugTrng_drip : s.debugTrng.2.drip = s.drip := by
  simp only [State.debugTrng]
  split <;> exact State.debugRemoves_drip ..

theorem State.debugIoRead_clock {s t : State} {a v} (h : s.debugIoRead a = some (v, t)) : t.drip.clock = s.drip.clock := by
  unfold State.debugIoRead at h
  dsimp only at h
  split at h
  · obtain rfl : s.debugTrng.2 = t := by simp_all
    simp
  · obtain ⟨w, -, hw⟩ := Option.map_eq_some_iff.mp h
    obtain ⟨-, rfl⟩ := Prod.mk.inj hw
    simp

@[simp] theorem State.deliverRemoval_drip (r) : (s.deliverRemoval r).drip = s.drip := by
  unfold State.deliverRemoval
  split <;> simp

@[simp] theorem State.hostClears_drip (g mask) : (s.hostClears g mask).drip = s.drip := rfl

@[simp] theorem State.deliverWrite_clock (p) : (s.deliverWrite p).drip.clock = s.drip.clock := by
  unfold State.deliverWrite
  split
  · simp
  · split <;> simp

@[simp] theorem State.deliverWrites_clock (ws) : (s.deliverWrites ws).drip.clock = s.drip.clock := by
  have delivered (ws : List PendingWrite) : (ws.foldl State.deliverWrite s).drip.clock = s.drip.clock := foldl_clock State.deliverWrite_clock ..
  unfold State.deliverWrites
  grind [State.giveLines_drip]

@[simp] theorem State.refreshFs_drip : s.refreshFs.drip = s.drip := rfl

-- Accesses of the host

@[simp] theorem State.storeRam_drip (a size v) : (s.storeRam a size v).drip = s.drip := by
  simp only [State.storeRam]
  split
  · rfl
  split
  · rfl
  · split <;> rfl

@[simp] theorem State.storeLine_drip (a size v) : (s.storeLine a size v).drip = s.drip := by
  -- The line's number is kept opaque: the kernel would compute with the addresses in it.
  obtain ⟨n, hn⟩ : ∃ n, n = lineOf a := ⟨_, rfl⟩
  simp only [State.storeLine, ← hn]
  split <;> rfl

@[simp] theorem State.storeAt_drip (a size v) : (s.storeAt a size v).drip = s.drip := by
  unfold State.storeAt
  split <;> simp

@[simp] theorem State.busyLoad_drip (a size) : (s.busyLoad a size).2.drip = s.drip := rfl
@[simp] theorem State.windowEffect_drip (a size) : (s.windowEffect a size).drip = s.drip := by simp [State.windowEffect]

theorem State.debugLoad_clock {s t : State} {a v} (h : s.debugLoad a = some (v, t)) : t.drip.clock = s.drip.clock := by
  unfold State.debugLoad at h
  grind [State.debugIoRead_clock, State.busyLoad_drip, State.windowEffect_drip]

theorem State.debugStore_drip {s t : State} {a v} (h : s.debugStore a v = some t) : t.drip = s.drip := by
  unfold State.debugStore at h
  grind [State.hostWrite_drip, State.storeAt_drip]

-- Chain

@[simp] theorem State.hostClear_drip (g mask) : (s.hostClear g mask).drip = s.drip := rfl

theorem State.windowWrite_drip {s t : State} {a v} (h : s.windowWrite a v = some t) : t.drip = s.drip := by
  unfold State.windowWrite at h
  split at h
  · split at h
    · obtain rfl := Option.some.inj h
      simp
    · cases h
  · split at h
    · obtain rfl := Option.some.inj h
      rfl
    · obtain rfl := Option.some.inj h
      simp
    · cases h

@[simp] theorem State.windowWrites_drip (a ws) : (s.windowWrites a ws).2.drip = s.drip := by
  induction ws generalizing s a with
  | nil => rfl
  | cons w ws ih =>
    unfold State.windowWrites
    split
    · next hw => rw [ih, State.windowWrite_drip hw]
    · exact ih ..

@[simp] theorem State.complete_chain_drip (c status payload) : (s.complete_ c status payload).drip = s.drip := by simp [State.complete_]

@[simp] theorem State.debugWords_clock (a n) : (s.debugWords a n).2.2.drip.clock = s.drip.clock := by
  induction n generalizing s a with
  | zero => rfl
  | succ n ih =>
    simp only [State.debugWords]
    split
    · rfl
    · next hl => exact (ih ..).trans (State.debugLoad_clock hl)

@[simp] theorem State.debugPuts_drip (a ws) : (s.debugPuts a ws).2.2.drip = s.drip := by
  induction ws generalizing s a with
  | nil => rfl
  | cons w ws ih =>
    simp only [State.debugPuts]
    split
    · rfl
    · next hp => exact (ih ..).trans (State.debugStore_drip hp)

@[simp] theorem State.chainDebug_clock (p) : (s.chainDebug p).2.2.drip.clock = s.drip.clock := by
  unfold State.chainDebug
  grind [State.debugWords_clock, State.debugPuts_drip]

@[simp] theorem State.sendFrame_drip (c) : (s.sendFrame c).2.drip = s.drip := by
  unfold State.sendFrame
  split <;> simp

@[simp] theorem State.passUpdate_drip (w c) : (s.passUpdate w c).1.drip = s.drip := by
  unfold State.passUpdate
  grind [State.complete_chain_drip]

@[simp] theorem State.passLantern_drip (w c) : (s.passLantern w c).1.drip = s.drip := by
  unfold State.passLantern
  grind [State.complete_chain_drip]

@[simp] theorem State.passGeneral_clock (w c) : (s.passGeneral w c).1.drip.clock = s.drip.clock := by
  unfold State.passGeneral
  split
  · grind [State.complete_chain_drip, State.windowWrites_drip]
  · dsimp only
    split
    · simp
    split
    · rfl
    · rw [State.complete_chain_drip, foldl_drip fun s i => by simp]
  · grind [State.complete_chain_drip, State.sendFrame_drip]
  · simp

@[simp] theorem State.passAll_clock (w cs held) : (State.passAll w cs held s).2.drip.clock = s.drip.clock := by
  induction cs generalizing s held with
  | nil => rfl
  | cons c cs ih =>
    simp only [State.passAll]
    refine (ih ..).trans ?_
    grind [State.complete_chain_drip, State.passUpdate_drip, State.passLantern_drip, State.passGeneral_clock]

@[simp] theorem State.chainPass_clock (w) : (s.chainPass w).drip.clock = s.drip.clock := by simp [State.chainPass]

-- Reload

@[simp] theorem State.beginTrial_drip : s.beginTrial.drip = s.drip := rfl

@[simp] theorem State.endActivate_drip (st) : (s.endActivate st).drip = s.drip := by
  unfold State.endActivate
  split <;> simp

@[simp] theorem State.rejectLink_drip : s.rejectLink.drip = s.drip := by simp [State.rejectLink]
@[simp] theorem State.reloadDone_drip : s.reloadDone.drip = s.drip := by simp [State.reloadDone]
@[simp] theorem State.linkActivated_drip : s.linkActivated.drip = s.drip := by simp [State.linkActivated]

@[simp] theorem State.reloadEdge_drip : s.reloadEdge.drip = s.drip := by
  unfold State.reloadEdge
  grind [State.linkActivated_drip, State.rejectLink_drip, State.loadUcode_drip, State.reloadDone_drip]

-- The transfer at the drip

@[simp] theorem State.closeRecords_drip : s.closeRecords.drip = s.drip := by simp [State.closeRecords]

@[simp] theorem State.commitPhase_count : s.commitPhase.drip.count = s.drip.count := by
  simp only [State.commitPhase, State.closeRecords_drip]
  split <;> simp

@[simp] theorem State.deliverAll_clock : s.deliverAll.drip.clock = s.drip.clock := by
  have removed (rs : List PendingWrite) (s : State) : (rs.foldl State.deliverRemoval s).drip = s.drip := foldl_drip State.deliverRemoval_drip ..
  simp only [State.deliverAll]
  split <;> simp [removed]

@[simp] theorem State.passFrames_drip : s.passFrames.drip = s.drip := by simp [State.passFrames]

@[simp] theorem State.endWaiting_drip (n r l) : (s.endWaiting n r l).drip = s.drip := by
  unfold State.endWaiting
  exact foldl_drip (fun s i => by cases l <;> simp) ..

@[simp] theorem State.applyKeyLoad_drip (l) : (s.applyKeyLoad l).drip = s.drip := by
  unfold State.applyKeyLoad
  split <;> simp

@[simp] theorem State.applyLease_drip (x) : (s.applyLease x).drip = s.drip := by
  unfold State.applyLease
  split <;> simp

@[simp] theorem State.askLeases_drip : s.askLeases.drip = s.drip := by
  unfold State.askLeases
  exact foldl_drip (fun s n => by simp) ..

@[simp] theorem State.handOver_drip : s.handOver.drip = s.drip := by
  have arrived (l : LanternBlock) : (l.leaseAnswers.foldl State.applyLease
      (l.keyLoads.foldl State.applyKeyLoad { s with lantern := s.lantern.afterHandOver l })).drip = s.drip :=
    (foldl_drip State.applyLease_drip ..).trans (foldl_drip State.applyKeyLoad_drip ..)
  unfold State.handOver
  grind [State.askLeases_drip, State.tableLoad_drip, State.setKey_drip]

@[simp] theorem State.handCalendar_drip : s.handCalendar.drip = s.drip := rfl
@[simp] theorem State.mailboxTransfer_drip : s.mailboxTransfer.drip = s.drip := by simp [State.mailboxTransfer]

@[simp] theorem State.scheduledWake_drip : s.scheduledWake.drip = s.drip := by
  unfold State.scheduledWake
  split <;> simp

@[simp] theorem State.dropRelays_drip : s.dropRelays.drip = s.drip := rfl
@[simp] theorem State.startService_drip : s.startService.drip = s.drip := rfl
@[simp] theorem State.sessionMode_drip : s.sessionMode.drip = s.drip := by simp [State.sessionMode]
@[simp] theorem State.confirmTransfer_drip : s.confirmTransfer.drip = s.drip := by simp [State.confirmTransfer]
@[simp] theorem State.hearLane_drip (l) : (s.hearLane l).drip = s.drip := by simp [State.hearLane]

@[simp] theorem State.recordEntry_drip (r) : (s.recordEntry r).drip = s.drip := by
  unfold State.recordEntry
  split <;> rfl

@[simp] theorem State.stopMode_clock (m) : (s.stopMode m).drip.clock = s.drip.clock := rfl
@[simp] theorem State.hibernate_drip : s.hibernate.drip = s.drip := rfl

@[simp] theorem State.enterMode_clock (target) : (s.enterMode target).drip.clock = s.drip.clock := by
  unfold State.enterMode
  split
  case h_5 => split <;> simp
  all_goals simp

@[simp] theorem State.dripToCore_drip : s.dripToCore.drip = s.drip := by simp [State.dripToCore]

@[simp] theorem State.wakeEdge_drip : s.wakeEdge.drip = s.drip := by
  unfold State.wakeEdge
  split <;> simp

@[simp] theorem State.rollLate_drip : s.rollLate.drip = s.drip := rfl
@[simp] theorem State.cclkEdge_drip : s.cclkEdge.drip = s.drip := rfl

/-- The exchange of a transfer brings the next drip: the count goes up and the phase restarts (R59, R64). -/
theorem State.exchange_clock : s.exchange.drip.clock = s.drip.next.clock := by simp [State.exchange]

/-- The transfer opens the next drip, whatever it delivers and whatever mode it enters (R58, R64). -/
theorem State.transferWork_clock : s.transferWork.drip.clock = s.drip.next.clock := by
  rw [← State.exchange_clock]
  simp only [State.transferWork]
  grind [State.recordEntry_drip, State.enterMode_clock, State.dripToCore_drip, State.wakeEdge_drip, State.rollLate_drip]

-- Modes

@[simp] theorem State.clearLost_drip : s.clearLost.drip = s.drip := rfl

end Frame

end Sys2Proof.Machine
end

section
/-!
PROOFS. The drip edge, the slice deadline and the calibration of the drip's LFCLK count (R58, R59, R63 to R65, R70, R71, R87, R88): what the transfer
leaves, from the frame above, with the software reset as its one way out (R730).
-/
namespace Sys2Proof.Machine

-- The drip's count

/-- A 48-bit count steps by 1 and holds at its end (R64). -/
theorem DripBlock.next_count (d : DripBlock) : d.next.count = if d.count = 0xFFFFFFFFFFFF#48 then d.count else d.count + 1 := rfl

/-- A 16-bit count steps by 1 and holds at its end (R88). -/
theorem satInc_word16 (x : BitVec 16) : satInc x = if x = 0xFFFF#16 then x else x + 1 := rfl

@[simp] theorem State.transferWork_count (s : State) : s.transferWork.drip.count = s.drip.next.count := congrArg Prod.fst s.transferWork_clock
@[simp] theorem State.transferWork_phase (s : State) : s.transferWork.drip.phase = 0 := congrArg Prod.snd s.transferWork_clock

-- The transfer

@[simp] theorem State.transferWork_crossing (s : State) : s.transferWork.crossing = none := rfl

theorem State.commitPhase_crossing {s : State} (h : s.crossing = none) : s.commitPhase.crossing = none := by
  simp [State.commitPhase, State.closeRecords, State.lifeAdd, h]

@[simp] theorem State.makeVisible_drip (s t : State) : (s.makeVisible t).drip = t.drip := rfl
@[simp] theorem State.makeVisible_crossing (s t : State) : (s.makeVisible t).crossing = t.crossing := rfl

/-- With no capture made, a transfer makes visible everything that it leaves (R25, R63). -/
theorem State.makeVisible_seen {s : State} (h : s.crossing = none) (t : State) : (s.makeVisible t).seen = (s.makeVisible t).toBlocks := by
  simp [State.makeVisible, h]

/-- A System reset holds the device as it says. -/
theorem State.afterReset_hold (s : State) (cold cause hold) : (s.afterReset cold cause hold).power.hold = hold := by cases cold <;> rfl

/-- A System reset records its cause. -/
theorem State.afterReset_cause (s : State) (cold cause hold) : (s.afterReset cold cause hold).lantern.cause = cause := by cases cold <;> rfl

/-- A transfer ends with what it makes visible, or with the software reset that one of its writes asked for (R730). -/
theorem State.transfer_cases (s : State) :
    s.transfer = s.makeVisible s.transferWork ∨ (s.transfer.power.hold = .crystal ∧ s.transfer.lantern.cause = .software) := by
  simp only [State.transfer]
  split
  · exact .inr ⟨State.afterReset_hold .., State.afterReset_cause ..⟩
  · exact .inl rfl

-- The commands

theorem exec_dripEdge {s : State} (running : s.drip.running = true) (unheld : s.power.hold = .none) : exec .dripEdge s = .next s.commitPhase.transfer := by
  show execDripEdge s = _
  simp [execDripEdge, whenDo, running, unheld]

/-- DRIP_EDGE opens the next drip, unless its transfer ends with a software reset. -/
theorem exec_dripEdge_completes {s : State} (running : s.drip.running = true) (unheld : s.power.hold = .none) :
    s.completes .dripEdge fun t =>
      (t.drip.count = s.drip.next.count ∧ t.drip.phase = 0 ∧ t.crossing = none ∧ (s.crossing = none → t.seen = t.toBlocks)) ∨
      (t.power.hold = .crystal ∧ t.lantern.cause = .software) := by
  refine ⟨_, exec_dripEdge running unheld, ?_⟩
  obtain visible | reset := s.commitPhase.transfer_cases
  · rw [visible]
    refine .inl ⟨?_, by simp, by simp, fun h => State.makeVisible_seen (State.commitPhase_crossing h) _⟩
    simp [DripBlock.next_count]
  · exact .inr reset

/-- SLICE_DEADLINE while the sequencer runs, at cycle 7,600. -/
theorem exec_sliceDeadline {s : State} (running : s.drip.running = true) (unheld : s.power.hold = .none) (reload : s.link.reloadEdge = none)
    (finished : Bool) : exec (.sliceDeadline finished) s = .next
      (if finished then (s.atPhase 7600).sliceArm
      else { s.atPhase 7600 with drip.seqOvrCount := satInc s.drip.seqOvrCount }.setLeaf .linkSeqOverrun) := by
  show execSliceDeadline finished s = _
  simp [execSliceDeadline, whenDo, State.dripRuns, State.atPhase, running, unheld, reload]

/-- A slice that has not finished counts an overrun and sets its leaf, and nothing of the link controller changes (R87, R88). -/
theorem exec_sliceDeadline_overrun {s : State} (running : s.drip.running = true) (unheld : s.power.hold = .none) (reload : s.link.reloadEdge = none) :
    s.completes (.sliceDeadline false) fun t =>
      t.link = s.link ∧ t.drip.count = s.drip.count ∧ t.drip.phase = max s.drip.phase 7600 ∧ t.drip.seqOvrCount = satInc s.drip.seqOvrCount ∧
        (t.cause.leaf[1]).getLsbD 6 = true ∧ t.core = s.core ∧ t.mem = s.mem :=
  ⟨_, exec_sliceDeadline running unheld reload false, rfl, rfl, rfl, rfl,
    State.setLeaf_leaf_getLsbD _ (l := .linkSeqOverrun) (by decide), rfl, rfl⟩

theorem exec_lfcalRunEnd {s : State} (running : s.drip.running = true) (unheld : s.power.hold = .none) (c : Word) :
    exec (.lfcalRunEnd c) s = .next { s with drip.lfcal := c, drip.keptC := c, drip.calValid := true } := by
  show execLfcalRunEnd c s = _
  simp [execLfcalRunEnd, whenDo, State.dripRuns, running, unheld]

/-- Settles O36: the frame of the transfer gives the next count and phase 0, and the deadline and the calibration run are single updates. -/
theorem dripEdgeOpensTheNextDrip : Obligations.DripEdgeOpensTheNextDrip := by
  unfold Obligations.DripEdgeOpensTheNextDrip
  intro s running unheld
  simp only [← DripBlock.next_count, ← satInc_word16]
  exact ⟨exec_dripEdge_completes running unheld, exec_sliceDeadline_overrun running unheld, fun reload => exec_sliceDeadline running unheld reload true,
    exec_lfcalRunEnd running unheld⟩

end Sys2Proof.Machine
end

section
/-!
PROOFS. The resume tick of a wake from SLEEP or DEEP (R73, R74, R95, R139): the drip restarts from the captured cycles, and what follows the restart
leaves the drip and the supply alone.
-/
namespace Sys2Proof.Machine

@[simp] theorem State.clearLost_power (s : State) : s.clearLost.power = s.power := rfl

@[simp] theorem State.resumeL_power (s : State) : s.resumeL.power = s.power := by
  unfold State.resumeL
  split <;> rfl

@[simp] theorem State.setGpio_power (s : State) (g : GpioBlock) : (s.setGpio g).power = s.power := State.setLeafIf_power ..

/-- The drip after a resume tick is the stopped one, restarted. -/
theorem State.resumeTick_drip (s : State) (e n : Nat) : (s.resumeTick e n).drip = s.drip.restart e n := by
  simp only [State.resumeTick]
  split <;> simp

/-- After a resume tick the device runs on its crystal and PLL, and the core's clock waits for its edge (R139). -/
theorem State.resumeTick_power (s : State) (e n : Nat) :
    (s.resumeTick e n).power = { s.power with
      mode := .run, xoOk := true, pllLock := true, wake := if (s.drip.restart e n).phase ≤ 7360 then .resumed else .resumedLate } := by
  simp only [State.resumeTick]
  split <;> simp <;> rfl

/-- RESUME_TICK in SLEEP or DEEP with the captured count restarts the device. -/
theorem exec_resumeTick {s : State} {e : Fin 8978} (stopped : s.power.mode = .sleep ∨ s.power.mode = .deep) (unheld : s.power.hold = .none)
    (starts : s.power.wake = .starting ∨ s.power.wake = .restarted) (short : e.val ≤ 977)
    (captured : s.drip.stopCycles = none ∨ s.drip.stopCycles = some e.val) (n : Nat) : exec (.resumeTick e n) s = .next (s.resumeTick e n) := by
  have agrees : s.drip.agrees e = true := by simpa [DripBlock.agrees] using captured
  have dozes : s.dozing = true := by simpa [State.dozing] using stopped
  show execResumeTick e n s = _
  simp [execResumeTick, agrees, dozes, unheld, starts, short]

theorem DripBlock.restart_count_toNat (d : DripBlock) (e n : Nat) :
    (d.restart e n).count.toNat = min (d.stopEdge.toNat + (e + n * d.keptC.toNat / 4096) / 8000) (2 ^ 48 - 1) := by
  simp only [DripBlock.restart, BitVec.toNat_ofNat]
  exact Nat.mod_eq_of_lt (by omega)

theorem DripBlock.restart_lastSleep_toNat (d : DripBlock) (e n : Nat) : (d.restart e n).lastSleep.toNat = min n 0xFFFFFFFF := by
  simp only [DripBlock.restart, BitVec.toNat_ofNat]
  exact Nat.mod_eq_of_lt (by omega)

/-- Settles O37: the resume tick is the restart of the drip block, with the supply and the wake of the mode RUN beside it. -/
theorem stoppedDripResumesFromTheTicks : Obligations.StoppedDripResumesFromTheTicks := by
  unfold Obligations.StoppedDripResumesFromTheTicks
  intro s e n stopped unheld starts short captured
  refine ⟨_, exec_resumeTick stopped unheld starts short captured n, ?_⟩
  dsimp only
  rw [State.resumeTick_drip, State.resumeTick_power]
  exact ⟨DripBlock.restart_count_toNat .., rfl, rfl, rfl, rfl, DripBlock.restart_lastSleep_toNat .., rfl, rfl, rfl, rfl⟩

end Sys2Proof.Machine
end

section
/-!
PROOFS. System resets (R12, R102, R140, R142, R148, R610, R658, R729): what a reset leaves, whatever its cause, and the events that reset the device.
-/
namespace Sys2Proof.Machine

/-- A byte whose address passes the filter reads as before. -/
theorem memGet_filter_of_true {p : Nat → Bool} {a : Nat} (h : p a = true) (m : List Host.Cell) : memGet (m.filter fun c => p c.1) a = memGet m a := by
  induction m with
  | nil => rfl
  | cons c m ih =>
    obtain ⟨k, v⟩ := c
    by_cases hk : k = a
    · simp [memGet, hk, h]
    · by_cases hp : p k = true <;> simp [memGet, hk, hp, ih]

/-- A byte whose address the filter drops reads as one that nothing has written. -/
theorem memGet_filter_of_false {p : Nat → Bool} {a : Nat} (h : p a = false) (m : List Host.Cell) :
    memGet (m.filter fun c => p c.1) a = memDefault a := by
  induction m with
  | nil => rfl
  | cons c m ih =>
    obtain ⟨k, v⟩ := c
    by_cases hk : k = a
    · simpa [hk, h] using ih
    · by_cases hp : p k = true <;> simp [memGet, hk, hp, ih]

/-- `t` is `s` after a reset with this cause and this hold: the core, link controller and radio at their reset values, RAM and gallery cleared,
storage and the waiting commands kept (R12, R610, R658). -/
def State.ResetTo (s : State) (cause : ResetCause) (hold : ResetHold) (t : State) : Prop :=
  t.lantern.cause = cause ∧ t.power.hold = hold ∧ t.power.mode = .run ∧ t.core = State.reset.core ∧ t.link = State.reset.link ∧
    t.radio = State.reset.radio ∧ t.pending = s.pending ∧ (∀ a, isStorage a = true → memGet t.mem a = memGet s.mem a) ∧
    ∀ a, isStorage a = false → memGet t.mem a = memDefault a

theorem State.cutFlash_of_idle {s : State} (h : s.flash.run = none) : s.cutFlash = s := by simp [State.cutFlash, h]

theorem State.afterReset_mode (s : State) (cold cause hold) : (s.afterReset cold cause hold).power.mode = .run := by cases cold <;> rfl

/-- A System reset that cuts no flash operation. -/
theorem State.afterReset_resetTo {s : State} (idle : s.flash.run = none) (cold : Bool) (cause : ResetCause) (hold : ResetHold) :
    s.ResetTo cause hold (s.afterReset cold cause hold) := by
  have mem : (s.afterReset cold cause hold).mem = s.mem.filter fun c => isStorage c.1 :=
    congrArg (fun t : State => t.mem.filter fun (c : Host.Cell) => isStorage c.1) (State.cutFlash_of_idle idle)
  refine ⟨State.afterReset_cause .., State.afterReset_hold .., State.afterReset_mode .., rfl, rfl, rfl,
    congrArg (·.pending) (State.cutFlash_of_idle idle), fun a ha => ?_, fun a ha => ?_⟩
  · rw [mem, memGet_filter_of_true ha]
  · rw [mem, memGet_filter_of_false ha]

-- The events

theorem exec_brownoutReset {s : State} (h : s.power.hold ≠ .brownout) : exec .brownoutReset s = .next (s.afterReset true .brownout .brownout) := by
  show execBrownoutReset s = _
  simp [execBrownoutReset, whenDo, h]

/-- NRESET falls outside a reset that holds the device already (R148). -/
theorem exec_pinReset {s : State} {n : Nat} (long : 5 ≤ n) (supplied : s.power.hold ≠ .brownout) (high : s.power.hold ≠ .pin) :
    exec (.pinReset n) s = .next ({ s with power.nresetLow := true }.afterReset false .pin .pin) := by
  show execPinReset n s = _
  simp [execPinReset, State.nresetFalls, long, supplied, high]
  omega

theorem exec_clockReset {s : State} (h : s.power.wake = .restarted) : exec .clockReset s = .next (s.afterReset false .clock .crystal) := by
  show execClockReset s = _
  simp [execClockReset, whenDo, h]

/-- A wake from HIBERNATE is a reset, in which the crystal goes on starting (R142, R581). -/
theorem exec_hibernateWake {s : State} (mode : s.power.mode = .hibernate) (unheld : s.power.hold = .none) (wake : s.power.wake = .starting) :
    exec .hibernateWake s = .next { s.afterReset false .hibernate .crystal with
      power.wake := s.power.wake, periph.gpio.edge := s.periph.gpio.edgeOnWake, key.wakeResumes := s.periph.gpio.edgeOnWake != 0 } := by
  show execHibernateWake s = _
  simp [execHibernateWake, whenDo, mode, unheld, wake]

/-- Settles O39: each event is a reset of its cause and hold (`State.afterReset_resetTo`). -/
theorem resetsClearTheDevice : Obligations.ResetsClearTheDevice := by
  unfold Obligations.ResetsClearTheDevice
  intro s idle
  have resets (cold : Bool) (cause : ResetCause) (hold : ResetHold) := State.afterReset_resetTo idle cold cause hold
  refine ⟨fun h => ⟨_, exec_brownoutReset h, resets ..⟩, ⟨_, rfl, resets ..⟩,
    fun n long supplied high => ⟨_, exec_pinReset long supplied high, ?_⟩, fun h => ⟨_, exec_clockReset h, resets ..⟩,
    fun mode unheld wake => ⟨_, exec_hibernateWake mode unheld wake, resets false .hibernate .crystal⟩, rfl⟩
  exact State.afterReset_resetTo (s := { s with power.nresetLow := true }) idle ..

end Sys2Proof.Machine
end

section
/-!
PROOFS. Wakes (R92, R122, R133, R134, R137, R139, R580, R581): the wake tick and the events that start it, the detector of a wake pin, and the ends
of DOZE and LISTEN.
-/
namespace Sys2Proof.Machine

-- Wake sources

/-- An enabled source in a stopped mode awaits the wake tick (R133). -/
theorem State.noteWake_of_stopped {s : State} (stopped : s.stoppedMode = true) (idle : s.power.wake = .none) {src : BitVec 7}
    (enabled : src &&& s.power.wakeEn.setWidth 7 = src) (nonzero : src ≠ 0#7) :
    s.noteWake src = { s with power.wakeActive := s.power.wakeActive ||| src } := by
  simp [State.noteWake, enabled, nonzero, idle, stopped]

/-- One bit is a part of a word that has it set. -/
theorem twoPow_and_eq_self {w : Nat} {x : BitVec w} {i : Nat} (h : x.getLsbD i = true) : BitVec.twoPow w i &&& x = BitVec.twoPow w i := by
  ext j
  simp only [BitVec.getElem_and, BitVec.getElem_twoPow]
  by_cases hj : i = j
  · subst hj
    simpa using (BitVec.getLsbD_eq_getElem _).symm.trans h
  · simp [Ne.symm hj]

theorem State.csnFalls_of_stopped {s : State} (stopped : s.stoppedMode = true) (idle : s.power.wake = .none) (mode : s.power.mode ≠ .hibernate)
    (enabled : s.power.wakeEn.getLsbD 4 = true) : s.csnFalls = { s with power.wakeActive := s.power.wakeActive ||| 0x10 } := by
  have part : (0x10#7) &&& s.power.wakeEn.setWidth 7 = 0x10#7 := twoPow_and_eq_self (i := 4) (by simpa using enabled)
  simp [State.csnFalls, State.noteWakeIf, mode, State.noteWake_of_stopped stopped idle part (by decide)]

-- The wake tick

@[simp] theorem State.resumeL_core (s : State) : s.resumeL.core = s.core := by
  unfold State.resumeL
  split <;> rfl

@[simp] theorem State.wakeTick_core (s : State) (src : BitVec 7) : (s.wakeTick src).core = s.core := by
  simp only [State.wakeTick]
  split <;> simp

/-- A wake tick records the sources it is given and starts the crystal (R134). -/
theorem State.wakeTick_power (s : State) (src : BitVec 7) :
    (s.wakeTick src).power = { s.power with wakeSrc := s.power.wakeSrc ||| src, wakeActive := 0, wake := .starting } := by
  simp only [State.wakeTick]
  split <;> simp

/-- `t` is `s` at the wake tick of the sources `src`. -/
def State.Woken (s : State) (src : BitVec 7) (t : State) : Prop :=
  t.power.wakeSrc = s.power.wakeSrc ||| src ∧ t.power.wake = .starting ∧ t.power.wakeActive = 0 ∧ t.core = s.core ∧ t.mem = s.mem

theorem State.wakeTick_woken (s : State) (src : BitVec 7) : s.Woken src (s.wakeTick src) := by
  refine ⟨?_, ?_, ?_, s.wakeTick_core src, s.wakeTick_mem src⟩ <;> rw [State.wakeTick_power]

theorem exec_wakeTick {s : State} (stopped : s.stoppedMode = true) (unheld : s.power.hold = .none) (idle : s.power.wake = .none)
    (active : s.power.wakeActive ≠ 0#7) : exec (.wakeTick false) s = .next (s.wakeTick s.power.wakeActive) := by
  show execWakeTick false s = _
  simp [execWakeTick, whenDo, State.sleeps, stopped, unheld, idle, active]

theorem exec_wakeTick_csn {s : State} (stopped : s.stoppedMode = true) (unheld : s.power.hold = .none) (idle : s.power.wake = .none)
    (mode : s.power.mode ≠ .hibernate) (enabled : s.power.wakeEn.getLsbD 4 = true) :
    exec (.wakeTick true) s =
      .next ({ s with power.wakeActive := s.power.wakeActive ||| 0x10 }.wakeTick (s.power.wakeActive ||| 0x10)) := by
  show execWakeTick true s = _
  simp [execWakeTick, whenDo, State.sleeps, stopped, unheld, idle, State.csnFalls_of_stopped stopped idle mode enabled]

/-- The latency of the wake from a stopped mode, in LCLK cycles (R92). -/
theorem State.modeLatency_of_stopped {s : State} (stopped : s.stoppedMode = true) :
    s.modeLatency = if s.power.mode = .sleep then 17600 else if s.power.mode = .deep then 22400 else 38400 := by
  unfold State.stoppedMode at stopped
  unfold State.modeLatency
  cases hm : s.power.mode with
  | sleep | deep | hibernate => rfl
  | run | listen | service | sump => simp [hm] at stopped

/-- The armed wake starts at the tick that the captured cycles and the calibration predict (R91, R92). -/
theorem exec_scheduledWake {s : State} {e : Fin 978} {d : BitVec 48} (stopped : s.stoppedMode = true) (unheld : s.power.hold = .none)
    (idle : s.power.wake = .none) (armed : s.lantern.wake = some d) (captured : s.drip.stopCycles = none ∨ s.drip.stopCycles = some e.val) :
    exec (.scheduledWake e (s.drip.gridTick e d.toNat s.modeLatency)) s =
      .next ({ s with drip.stopCycles := some e.val }.wakeTick (s.power.wakeActive ||| 0x40)) := by
  have agrees : s.drip.agrees e = true := by simpa [DripBlock.agrees] using captured
  show execScheduledWake e _ s = _
  simp [execScheduledWake, armed, stopped, unheld, agrees, idle]

-- A wake pin

theorem putBit_getLsbD_same (w : Word) (i : Fin 20) (b : Bool) : (putBit w i b).getLsbD i = b := by
  have := i.isLt
  cases b <;> simp [putBit]
  omega

theorem State.wakeEn_of_wakeArmed {s : State} {pin : Fin 20} {level : Bool} (h : s.wakeArmed pin level = true) :
    s.power.wakeEn.getLsbD 0 = true := by
  unfold State.wakeArmed at h
  exact (Bool.and_eq_true_iff.mp h).1

/-- The detector of a wake pin latches and the GPIO source becomes active (R580, R581). -/
theorem State.latchPin_of_stopped {s : State} (stopped : s.stoppedMode = true) (idle : s.power.wake = .none)
    (enabled : s.power.wakeEn.getLsbD 0 = true) (pin : Fin 20) :
    s.latchPin pin = { s with
      periph.gpio.latched := putBit s.periph.gpio.latched pin true, power.wakeActive := s.power.wakeActive ||| 1 } := by
  have part : (1#7) &&& s.power.wakeEn.setWidth 7 = 1#7 := twoPow_and_eq_self (i := 0) (by simpa using enabled)
  let latched : State := { s with periph.gpio.latched := putBit s.periph.gpio.latched pin true }
  calc s.latchPin pin = latched.noteWake 1#7 := by simp [State.latchPin, idle, latched]
    _ = { latched with power.wakeActive := s.power.wakeActive ||| 1 } :=
      State.noteWake_of_stopped (s := latched) stopped idle part (by decide)

theorem exec_gpioWake_armed {s : State} (stopped : s.stoppedMode = true) (unheld : s.power.hold = .none) (idle : s.power.wake = .none)
    {pin : Fin 20} {level : Bool} (change : s.periph.gpio.level.getLsbD pin ≠ level) (armed : s.wakeArmed pin level = true) :
    exec (.gpioWake pin level) s = .next { s with
      periph.gpio.latched := putBit s.periph.gpio.latched pin true, periph.gpio.level := putBit s.periph.gpio.level pin level
      power.wakeActive := s.power.wakeActive ||| 1 } := by
  show execGpioWake pin level s = _
  simp [execGpioWake, whenDo, stopped, unheld, change, armed, State.latchPin_of_stopped stopped idle (State.wakeEn_of_wakeArmed armed)]

theorem exec_gpioWake_other {s : State} (stopped : s.stoppedMode = true) (unheld : s.power.hold = .none) {pin : Fin 20} {level : Bool}
    (other : s.periph.gpio.level.getLsbD pin = level ∨ s.wakeArmed pin level = false) :
    exec (.gpioWake pin level) s = .next { s with periph.gpio.level := putBit s.periph.gpio.level pin level } := by
  have unlatched : ¬ (s.periph.gpio.level.getLsbD pin ≠ level ∧ s.wakeArmed pin level = true) := by
    rintro ⟨change, armed⟩
    obtain same | unarmed := other
    · exact change same
    · simp [unarmed] at armed
  show execGpioWake pin level s = _
  simp [execGpioWake, whenDo, stopped, unheld, unlatched]

-- DOZE and LISTEN

theorem exec_dozeWake {s : State} (unheld : s.power.hold = .none) (doze : s.core.doze = true) (ends : s.dozeEnds = true)
    (idle : s.power.wake = .none) (mode : s.power.mode = .run ∨ s.power.mode = .service) : exec .dozeWake s = .next s.leaveDoze := by
  show execDozeWake s = _
  obtain mode | mode := mode <;> simp [execDozeWake, whenDo, unheld, doze, ends, idle, mode]

theorem exec_listenWake {s : State} (unheld : s.power.hold = .none) (mode : s.power.mode = .listen)
    (due : s.power.wakeActive.getLsbD 0 = true ∨ ∃ p, p < 4 ∧ s.cause.levelRequested (p + 1) = true) :
    exec .listenWake s = .next { s with power.mode := .run, power.pllLock := true, power.wakeActive := 0 }.leaveDoze := by
  have due : (((List.range 4).any fun i => s.cause.levelRequested (i + 1)) || s.power.wakeActive.getLsbD 0) = true := by
    rw [Bool.or_eq_true, List.any_eq_true, or_comm]
    simpa only [List.mem_range] using due
  show execListenWake s = _
  simp only [execListenWake, whenDo, mode, unheld, due]
  rfl

-- The statement's parts

/-- The wakes of a stopped mode, and the pins that start them. -/
theorem State.stopped_wakes {s : State} (unheld : s.power.hold = .none) (stopped : s.stoppedMode = true) (idle : s.power.wake = .none) :
    (s.power.wakeActive ≠ 0 → s.completes (.wakeTick false) (s.Woken s.power.wakeActive)) ∧
    (s.power.mode ≠ .hibernate → s.power.wakeEn.getLsbD 4 = true → s.completes (.wakeTick true) (s.Woken (s.power.wakeActive ||| 0x10))) ∧
    (∀ (e : Fin 978) (d : BitVec 48), s.lantern.wake = some d → (s.drip.stopCycles = none ∨ s.drip.stopCycles = some e.val) →
      s.completes (.scheduledWake e (s.drip.gridTick e d.toNat s.modeLatency)) (s.Woken (s.power.wakeActive ||| 0x40))) ∧
    (∀ (pin : Fin 20) (level : Bool), s.periph.gpio.level.getLsbD pin ≠ level → s.wakeArmed pin level = true →
      s.completes (.gpioWake pin level) fun t =>
        t.periph.gpio.latched.getLsbD pin = true ∧ t.periph.gpio.level.getLsbD pin = level ∧ t.power.wakeActive = s.power.wakeActive ||| 1 ∧
          t.core = s.core) :=
  ⟨fun active => ⟨_, exec_wakeTick stopped unheld idle active, State.wakeTick_woken ..⟩,
    fun mode enabled => ⟨_, exec_wakeTick_csn stopped unheld idle mode enabled, State.wakeTick_woken ..⟩,
    fun _ _ armed captured => ⟨_, exec_scheduledWake stopped unheld idle armed captured, State.wakeTick_woken ..⟩,
    fun _ _ change armed => ⟨_, exec_gpioWake_armed stopped unheld idle change armed, putBit_getLsbD_same .., putBit_getLsbD_same .., rfl, rfl⟩⟩

/-- Settles O41: the events of a stopped mode end in a wake tick or latch a pin, and DOZE and LISTEN end as `State.leaveDoze` says. -/
theorem wakesLatchTheirSources : Obligations.WakesLatchTheirSources := by
  unfold Obligations.WakesLatchTheirSources
  intro s unheld
  refine ⟨fun stopped idle => ?_, fun doze ends idle mode => ⟨_, exec_dozeWake unheld doze ends idle mode, rfl, rfl, rfl, rfl, rfl, rfl, rfl⟩,
    fun mode due => ⟨_, exec_listenWake unheld mode due, rfl, rfl, rfl, rfl, rfl⟩⟩
  obtain ⟨tick, csn, scheduled, latched⟩ := State.stopped_wakes unheld stopped idle
  rw [State.modeLatency_of_stopped stopped] at scheduled
  exact ⟨tick, csn, scheduled, latched, fun pin level => exec_gpioWake_other stopped unheld⟩

end Sys2Proof.Machine
end

section
/-!
PROOFS. What Flowstone work leaves alone (R671 to R698): every write of a record, with the reclaims, erases and repairs that it brings, changes
storage and its marks, Lantern's own block and leaves outside group POWER, and nothing else of the device. A `simp` lemma per operation, in the order
of the definitions.
-/
namespace Sys2Proof.Machine

/-- The state without what Flowstone work may change: memory and its integrity marks, Lantern's block but for its count of supply warnings, the
cause tree but for the leaves of group POWER, the group buffer, and the count of free values. -/
def State.besideStore (s : State) : State :=
  { s with
    mem := []
    integ := {}
    lantern := { warnings := s.lantern.warnings }
    cause := { leaf := (Vector.replicate 15 0#32).set 9 s.cause.leaf[9] }
    core.groupBuf := []
    free := 0 }

@[simp] theorem State.ite_besideStore {c : Prop} [Decidable c] (s t : State) :
    (if c then s else t).besideStore = if c then s.besideStore else t.besideStore := apply_ite State.besideStore _ _ _

theorem foldl_besideStore {α : Type} {f : State → α → State} (hf : ∀ s a, (f s a).besideStore = s.besideStore) (l : List α) (s : State) :
    (l.foldl f s).besideStore = s.besideStore :=
  foldl_keeps State.besideStore hf l s

section Frame
variable (s : State)

theorem State.setLeaf_besideStore {l : Leaf} (h : l.place.1 ≠ 9) : (s.setLeaf l).besideStore = s.besideStore := by
  have kept : (s.setLeaf l).cause.leaf[9] = s.cause.leaf[9] := by
    have : l.place.1.val ≠ 9 := fun e => h (Fin.ext e)
    simp [State.setLeaf, CauseBlock.set, CauseBlock.markLate, this]
  simp only [State.besideStore, kept]
  rfl

theorem State.setLeafIf_besideStore (b : Bool) {l : Leaf} (h : l.place.1 ≠ 9) : (s.setLeafIf b l).besideStore = s.besideStore := by
  cases b with
  | false => rfl
  | true => exact s.setLeaf_besideStore h

-- Flowstone

@[simp] theorem State.draw_besideStore (n) : (s.draw n).2.besideStore = s.besideStore := rfl
@[simp] theorem State.setFlow_besideStore (f) : (s.setFlow f).besideStore = s.besideStore := rfl

@[simp] theorem State.drawBytes_besideStore (n) : (s.drawBytes n).2.besideStore = s.besideStore := by
  induction n generalizing s with
  | zero => rfl
  | succ n ih => simp [State.drawBytes, ih]

@[simp] theorem State.programGroup_besideStore (sec g bs) : (s.programGroup sec g bs).2.besideStore = s.besideStore := by
  simp only [State.programGroup]
  split
  · have drawn := State.drawBytes_besideStore (s.dropGroups (fsAddr sec g) (fsAddr sec g + 8)) 8
    generalize State.drawBytes _ 8 = x at drawn ⊢
    exact drawn
  · split <;> rfl

@[simp] theorem State.programGroups_besideStore (sec g gs) : (s.programGroups sec g gs).2.besideStore = s.besideStore := by
  induction gs generalizing s g with
  | nil => rfl
  | cons bs gs ih =>
    simp only [State.programGroups]
    split <;> simp [ih]

@[simp] theorem State.eraseFs_besideStore (sec) : (s.eraseFs sec).2.besideStore = s.besideStore := by
  have filled (s : State) (m) : ({ s with mem := m } : State).besideStore = s.besideStore := rfl
  simp only [State.eraseFs]
  split
  · exact (filled ..).trans ((State.drawBytes_besideStore _ 512).trans rfl)
  · rfl

@[simp] theorem State.setRing_besideStore (r) : (s.setRing r).besideStore = s.besideStore := rfl

@[simp] theorem State.writeSlot_besideStore (s8 sec slot key len seq data) :
    (s.writeSlot s8 sec slot key len seq data).2.besideStore = s.besideStore := by
  simp only [State.writeSlot]
  split <;> simp

@[simp] theorem State.ringReadOnly_besideStore (r) : (s.ringReadOnly r).besideStore = s.besideStore := by
  unfold State.ringReadOnly
  split
  · rfl
  · exact State.setLeaf_besideStore _ (by decide)

@[simp] theorem State.retire_besideStore (r sec) : (s.retire r sec).besideStore = s.besideStore := by
  simp [State.retire, State.setLeaf_besideStore _ (l := .nvstoreSectorRetired) (by decide)]

@[simp] theorem State.renew_besideStore (ring sec) : (s.renew ring sec).2.besideStore = s.besideStore := by
  simp only [State.renew]
  split <;> simp

@[simp] theorem State.retireFree_besideStore (sec) : (s.retireFree sec).besideStore = s.besideStore := State.setLeaf_besideStore _ (by decide)
@[simp] theorem State.recycle_besideStore (r sec) : (s.recycle r sec).besideStore = s.besideStore := by simp [State.recycle]

@[simp] theorem State.appendHead_besideStore (id key len seq data) : (s.appendHead id key len seq data).2.besideStore = s.besideStore := by
  unfold State.appendHead
  grind [State.writeSlot_besideStore, State.setFlow_besideStore]

@[simp] theorem State.copyRecord_besideStore (id x n) : (s.copyRecord id x n).2.besideStore = s.besideStore := by
  induction n generalizing s with
  | zero => rfl
  | succ n ih =>
    unfold State.copyRecord
    grind [State.appendHead_besideStore]

@[simp] theorem State.moveRecords_besideStore (id xs) : (s.moveRecords id xs).2.besideStore = s.besideStore := by
  induction xs generalizing s with
  | nil => rfl
  | cons x xs ih =>
    unfold State.moveRecords
    grind [State.copyRecord_besideStore]

@[simp] theorem State.reclaimSector_besideStore (id sec) : (s.reclaimSector id sec).2.besideStore = s.besideStore := by
  unfold State.reclaimSector
  grind [State.moveRecords_besideStore, State.recycle_besideStore]

@[simp] theorem State.openHead_besideStore (r sec epoch) : (s.openHead r sec epoch).besideStore = s.besideStore := by simp [State.openHead]

@[simp] theorem State.makeRoom_besideStore (id n) : (s.makeRoom id n).2.besideStore = s.besideStore := by
  induction n generalizing s with
  | zero => rfl
  | succ n ih =>
    unfold State.makeRoom
    grind [State.openHead_besideStore, State.reclaimSector_besideStore, State.recycle_besideStore]

@[simp] theorem State.writeCopy_besideStore (id key len seq data n) : (s.writeCopy id key len seq data n).2.besideStore = s.besideStore := by
  induction n generalizing s seq with
  | zero => rfl
  | succ n ih =>
    unfold State.writeCopy
    grind [State.makeRoom_besideStore, State.appendHead_besideStore]

@[simp] theorem State.roomInAll_besideStore (cs) : (s.roomInAll cs).2.besideStore = s.besideStore := by
  induction cs generalizing s with
  | nil => rfl
  | cons c cs ih =>
    simp only [State.roomInAll]
    split <;> simp [ih]

@[simp] theorem State.writeAll_besideStore (key len seq data cs) : (s.writeAll key len seq data cs).2.besideStore = s.besideStore := by
  induction cs generalizing s seq with
  | nil => rfl
  | cons c cs ih =>
    unfold State.writeAll
    grind [State.writeCopy_besideStore]

@[simp] theorem State.writeNext_besideStore (r copies key len data) : (s.writeNext r copies key len data).2.besideStore = s.besideStore := by
  simp only [State.writeNext]
  split <;> simp

@[simp] theorem State.saveMap_besideStore (old) : (s.saveMap old).besideStore = s.besideStore := by
  unfold State.saveMap
  grind [State.writeNext_besideStore]

@[simp] theorem State.compact_besideStore (r) : (s.compact r).besideStore = s.besideStore := by
  unfold State.compact
  refine (foldl_besideStore (fun s x => s.writeNext_besideStore ..) ..).trans (foldl_besideStore (fun s c => ?_) ..)
  grind [State.makeRoom_besideStore, State.openHead_besideStore]

@[simp] theorem State.beforeWrite_besideStore (r) : (s.beforeWrite r).besideStore = s.besideStore := by
  unfold State.beforeWrite
  split
  · rfl
  split
  · exact foldl_besideStore State.ringReadOnly_besideStore ..
  · exact s.compact_besideStore r

@[simp] theorem State.resolveKey_besideStore (r key) : (s.resolveKey r key).besideStore = s.besideStore := by
  have leaf (s : State) : (s.setLeaf .nvstoreDiverge).besideStore = s.besideStore := s.setLeaf_besideStore (by decide)
  unfold State.resolveKey
  grind [State.writeNext_besideStore, State.setFlow_besideStore]

@[simp] theorem State.commitRecord_besideStore (id key len data) : (s.commitRecord id key len data).2.besideStore = s.besideStore := by
  unfold State.commitRecord
  grind [State.beforeWrite_besideStore, State.writeNext_besideStore, State.resolveKey_besideStore, State.saveMap_besideStore]

@[simp] theorem State.store_besideStore (id key len data) : (s.store id key len data).2.2.besideStore = s.besideStore := by
  unfold State.store
  grind [State.commitRecord_besideStore]

@[simp] theorem State.toPool_besideStore (sec) : (s.toPool sec).besideStore = s.besideStore := by simp [State.toPool]

-- Records of the integrity block, of Lantern and of boot

@[simp] theorem State.setRepair_besideStore (b r) : (s.setRepair b r).besideStore = s.besideStore := rfl

@[simp] theorem State.saveRepair_besideStore (b) : (s.saveRepair b).besideStore = s.besideStore := by
  simp only [State.saveRepair]
  split <;> simp

@[simp] theorem State.lifeSave_besideStore : s.lifeSave.2.besideStore = s.besideStore := by simp [State.lifeSave]
@[simp] theorem State.calCheckpoint_besideStore : s.calCheckpoint.besideStore = s.besideStore := by simp [State.calCheckpoint]

@[simp] theorem State.releaseRings_besideStore : s.releaseRings.besideStore = s.besideStore := by
  unfold State.releaseRings
  split
  · rfl
  · exact foldl_besideStore State.toPool_besideStore ..

@[simp] theorem State.saveRecord_besideStore (r) : (s.saveRecord r).2.besideStore = s.besideStore := by simp [State.saveRecord]

@[simp] theorem State.putKey_besideStore (acc : Bool × State) (key data) : (State.putKey acc key data).2.besideStore = acc.2.besideStore := by
  simp [State.putKey]

@[simp] theorem State.clearSaved_besideStore (acc : Bool × State) : (State.clearSaved acc).2.besideStore = acc.2.besideStore := by
  simp [State.clearSaved]

@[simp] theorem State.confirm_besideStore : s.confirm.besideStore = s.besideStore := by
  have saved := s.saveRecord_besideStore s.bootRecord.settled
  simp only [State.confirm]
  split
  · rfl
  split
  · rfl
  generalize s.saveRecord s.bootRecord.settled = x at saved ⊢
  split
  · rw [State.setLeaf_besideStore _ (by decide), saved]
  · rw [State.releaseRings_besideStore, State.ite_besideStore, State.clearSaved_besideStore]
    exact (ite_self _).trans saved

end Frame

end Sys2Proof.Machine
end

section
/-!
PROOFS. Supply and clock events (R99, R104, R105, R108, R115, R140): each sets its status and its leaf. A warning and its release also commit records,
which leave the supply, the core's registers and the link controller alone (`State.besideStore`).
-/
namespace Sys2Proof.Machine

-- Fields that Flowstone work leaves alone

section
variable {s t : State} (h : t.besideStore = s.besideStore)
include h

theorem State.power_of_besideStore : t.power = s.power := (congrArg (fun u : State => u.power) h :)
theorem State.link_of_besideStore : t.link = s.link := (congrArg (fun u : State => u.link) h :)
theorem State.g_of_besideStore : t.core.g = s.core.g := (congrArg (fun u : State => u.core.g) h :)
theorem State.pc_of_besideStore : t.core.pc = s.core.pc := (congrArg (fun u : State => u.core.pc) h :)
theorem State.warnings_of_besideStore : t.lantern.warnings = s.lantern.warnings := (congrArg (fun u : State => u.lantern.warnings) h :)

theorem State.powerLeaves_of_besideStore : t.cause.leaf[9] = s.cause.leaf[9] := by
  simpa [State.besideStore] using congrArg (fun u : State => u.cause.leaf[9]) h

end

-- The supply warning

/-- A warning as it comes, before the checkpoints that a free slot allows (R105). -/
def State.noteWarning (s : State) : State :=
  ({ s with power.bodWarn := true, lantern.warnings := s.lantern.warnings + 1 }.setLeaf .powerBodWarn).pulse 31

theorem State.warn_besideStore (s : State) : s.warn.besideStore = s.noteWarning.besideStore := by
  simp [State.warn, State.noteWarning]

/-- `t` has the warning that `s` had not. -/
def State.Warned (s t : State) : Prop :=
  t.power.bodWarn = true ∧ (t.cause.leaf[9]).getLsbD 0 = true ∧ s.lantern.warnings + 1 ≤ t.lantern.warnings ∧ t.core.g = s.core.g ∧
    t.core.pc = s.core.pc

theorem State.noteWarning_warned (s : State) : s.Warned s.noteWarning := by
  have leaf := State.setLeaf_leaf_getLsbD { s with power.bodWarn := true, lantern.warnings := s.lantern.warnings + 1 } (l := .powerBodWarn)
    (by decide)
  simp only [State.Warned, State.noteWarning, State.pulse_power, State.pulse_cause, State.pulse_lantern, State.pulse_core]
  exact ⟨rfl, leaf, Nat.le_refl _, rfl, rfl⟩

/-- What a warning commits leaves its status, its leaf and its count (R105, R731, R732). -/
theorem State.warn_warned (s : State) : s.Warned s.warn := by
  have beside := s.warn_besideStore
  unfold State.Warned
  rw [State.power_of_besideStore beside, State.powerLeaves_of_besideStore beside, State.warnings_of_besideStore beside,
    State.g_of_besideStore beside, State.pc_of_besideStore beside]
  exact s.noteWarning_warned

theorem State.unwarn_besideStore (s : State) : s.unwarn.besideStore = { s with power.bodWarn := false }.besideStore := by
  have repaired (s : State) : ((List.finRange 4).foldl (fun s (b : Fin 4) => if (s.integ.repair[b]).waiting then s.saveRepair b else s) s).besideStore
      = s.besideStore := foldl_besideStore (fun s b => by simp) ..
  have unasked (s : State) : ({ s with lantern.confirmWaits := false } : State).besideStore = s.besideStore := rfl
  have saved (s : State) : ({ s with lantern.lifeDue := false } : State).besideStore = s.besideStore := rfl
  simp only [State.unwarn, State.ite_besideStore, State.confirm_besideStore, unasked, saved, State.lifeSave_besideStore, ite_self, repaired]

/-- `t` is `s` released from its warning. -/
def State.Released (s t : State) : Prop := t.power.bodWarn = false ∧ t.core.g = s.core.g ∧ t.core.pc = s.core.pc ∧ t.link = s.link

/-- What waited for the end of the warning, and is committed at it, leaves the core's registers and the link controller (R105, R618, R728, R756). -/
theorem State.unwarn_released (s : State) : s.Released s.unwarn := by
  have beside := s.unwarn_besideStore
  unfold State.Released
  rw [State.power_of_besideStore beside, State.g_of_besideStore beside, State.pc_of_besideStore beside, State.link_of_besideStore beside]
  exact ⟨rfl, rfl, rfl, rfl⟩

-- The events

/-- The comparator's events outside the stopped modes (R99, R104, R105). -/
theorem exec_comparator {s : State} (unheld : s.power.hold = .none) (awake : s.stoppedMode = false) :
    (s.power.bodWarn = false → exec .earlyWarning s = .next s.warn) ∧ (s.power.bodWarn = true → exec .warningRelease s = .next s.unwarn) ∧
    (s.power.cfg.getLsbD 0 = true → exec .bypassEntry s = .next { s with power.bypass := true }) ∧
    exec .bypassExit s = .next { s with power.bypass := false } := by
  have runs : s.comparatorRuns = true := by simp [State.comparatorRuns, unheld, awake]
  refine ⟨fun h => ?_, fun h => ?_, fun h => ?_, ?_⟩
  · show execEarlyWarning s = _
    simp [execEarlyWarning, whenDo, runs, h]
  · show execWarningRelease s = _
    simp [execWarningRelease, whenDo, runs, h]
  · show execBypassEntry s = _
    simp only [execBypassEntry, whenDo, runs, h, Bool.and_self, if_true]
  · show execBypassExit s = _
    simp only [execBypassExit, whenDo, runs, if_true]

/-- BOD_SAMPLE in SLEEP and DEEP follows the comparator's output (R104, R107). -/
theorem exec_bodSample {s : State} (unheld : s.power.hold = .none) (mode : s.power.mode = .sleep ∨ s.power.mode = .deep) :
    (s.power.bodWarn = false → exec (.bodSample true) s = .next s.warn) ∧
    (s.power.bodWarn = true → exec (.bodSample false) s = .next s.unwarn) := by
  have dozes : s.dozing = true := by simpa [State.dozing] using mode
  refine ⟨fun h => ?_, fun h => ?_⟩
  · show execBodSample true s = _
    simp [execBodSample, whenDo, dozes, unheld, h]
  · show execBodSample false s = _
    simp [execBodSample, whenDo, dozes, unheld, h]

theorem exec_lfxoFail {s : State} (selected : s.power.lfSrcRc = false) (used : s.power.lfActiveRc = false ∨ s.power.lfFailed = false) :
    exec .lfxoFail s =
      .next ({ s with power.lfActiveRc := true, power.lfXoRun := false, power.lfFailed := true }.setLeaf .powerLfxoFail) := by
  have used : (!s.power.lfActiveRc || !s.power.lfFailed) = true := by simpa using used
  show execLfxoFail s = _
  simp only [execLfxoFail, whenDo, selected, used, Bool.not_false, Bool.and_self, if_true]

theorem exec_xoRestart {s : State} (h : s.power.wake = .starting) : exec .xoRestart s = .next { s with power.wake := .restarted } := by
  show execXoRestart s = _
  simp only [execXoRestart, whenDo, h, beq_self_eq_true, if_true]

/-- Settles O38: a warning sets its status before it commits anything (`State.warn_warned`, `State.unwarn_released`), and the other events are single
updates. -/
theorem supplyEventsSetTheirStatus : Obligations.SupplyEventsSetTheirStatus := by
  unfold Obligations.SupplyEventsSetTheirStatus
  intro s unheld
  refine ⟨fun awake => ?_, fun mode => ?_, fun selected used => ⟨_, exec_lfxoFail selected used, rfl, rfl, rfl, ?_, rfl, rfl⟩, exec_xoRestart, rfl⟩
  · obtain ⟨warning, release, bypass⟩ := exec_comparator unheld awake
    exact ⟨fun h => ⟨_, warning h, s.warn_warned⟩, fun h => ⟨_, release h, s.unwarn_released⟩, bypass⟩
  · obtain ⟨warning, release⟩ := exec_bodSample unheld mode
    exact ⟨fun h => ⟨_, warning h, s.warn_warned⟩, fun h => ⟨_, release h, s.unwarn_released⟩⟩
  · exact State.setLeaf_leaf_getLsbD _ (l := .powerLfxoFail) (by decide)

end Sys2Proof.Machine
end

section
/-!
PROOFS. Boot's work in Flowstone and in Lantern's block (R622, R671 to R698, R728, R795): the scan of the rings, the ring plan, the records that boot
writes and the loads that it queues change no more than `State.besideStore` leaves out.
-/
namespace Sys2Proof.Machine

section Frame
variable (s : State)

-- Rings and records

@[simp] theorem State.noteFailed_besideStore (r sec) : (s.noteFailed r sec).besideStore = s.besideStore := by
  refine foldl_besideStore (fun s x => ?_) ..
  have leaf (s : State) : (s.setLeaf .nvstoreUncorr).besideStore = s.besideStore := s.setLeaf_besideStore (by decide)
  dsimp only
  split
  · simp [whenDo, leaf]
  · rfl

@[simp] theorem State.resolvePair_besideStore (r) : (s.resolvePair r).besideStore = s.besideStore :=
  foldl_besideStore (fun s k => s.resolveKey_besideStore r k) ..

@[simp] theorem State.formatSector_besideStore (counts id sec) : (s.formatSector counts id sec).besideStore = s.besideStore := by
  have leaf (s : State) : (s.setLeaf .nvstoreSectorRetired).besideStore = s.besideStore := s.setLeaf_besideStore (by decide)
  unfold State.formatSector
  grind [State.eraseFs_besideStore, State.setFlow_besideStore, State.programGroup_besideStore]

@[simp] theorem State.openFirst_besideStore (id) : (s.openFirst id).besideStore = s.besideStore := by
  unfold State.openFirst
  split
  · split <;> simp
  · rfl

@[simp] theorem State.formatAll_besideStore : s.formatAll.besideStore = s.besideStore := by
  have formatted (counts id) (secs : List Nat) (s : State) : (secs.foldl (fun s x => s.formatSector counts id x) s).besideStore = s.besideStore :=
    foldl_besideStore (fun s x => s.formatSector_besideStore counts id x) ..
  unfold State.formatAll
  extract_lets assign
  split
  rw [State.saveMap_besideStore, State.setFlow_besideStore, foldl_besideStore fun s r => s.openFirst_besideStore _, formatted,
    foldl_besideStore fun s r => formatted .., State.setFlow_besideStore]

@[simp] theorem State.bootScan_besideStore : s.bootScan.besideStore = s.besideStore := by
  have noted (rs : List Ring) (s : State) :
      (rs.foldl (fun s r => r.sectors.foldl (fun s sec => s.noteFailed r sec) s) s).besideStore = s.besideStore :=
    foldl_besideStore (fun s r => foldl_besideStore (fun s sec => s.noteFailed_besideStore r sec) _ s) ..
  unfold State.bootScan
  extract_lets users heads s0 gone live orphans gathered rings s1 torn s2 s3
  split
  · exact s.formatAll_besideStore
  · rw [State.setLeafIf_besideStore _ _ (by decide), noted, State.setFlow_besideStore, State.setFlow_besideStore]

@[simp] theorem State.applyRepair_besideStore : s.applyRepair.besideStore = s.besideStore :=
  foldl_besideStore (fun s b => by dsimp only; split <;> rfl) ..

@[simp] theorem State.resolveAll_besideStore : s.resolveAll.besideStore = s.besideStore :=
  foldl_besideStore (fun s r => s.resolvePair_besideStore r) ..

@[simp] theorem State.assignSector_besideStore (id) : (s.assignSector id).besideStore = s.besideStore := by
  unfold State.assignSector
  grind [State.retireFree_besideStore, State.setFlow_besideStore, State.renew_besideStore]

@[simp] theorem State.formatRing_besideStore (e) : (s.formatRing e).besideStore = s.besideStore :=
  (State.openFirst_besideStore ..).trans (foldl_besideStore (fun s _ => s.assignSector_besideStore _) ..)

@[simp] theorem State.applyPlan_besideStore (b) : (s.applyPlan b).besideStore = s.besideStore := by
  unfold State.applyPlan
  extract_lets _ hide why es old s1
  have hidden : hide.besideStore = s.besideStore := State.setFlow_besideStore ..
  split
  · rwa [State.setFlow_besideStore]
  split
  · rwa [State.setLeaf_besideStore _ (by decide), State.setFlow_besideStore]
  · rwa [State.setFlow_besideStore, State.saveMap_besideStore, foldl_besideStore fun s e => s.formatRing_besideStore e]

@[simp] theorem State.bootSave_besideStore (r) : (s.bootSave r).2.besideStore = s.besideStore := by
  unfold State.bootSave
  split <;> simp

@[simp] theorem State.copyKeys_besideStore (acc : Bool × State) (src dst) : (State.copyKeys acc src dst).2.besideStore = acc.2.besideStore := by
  simp [State.copyKeys]

@[simp] theorem State.writeDefaults_besideStore (acc : Bool × State) (a) : (State.writeDefaults acc a).2.besideStore = acc.2.besideStore := by
  simp [State.writeDefaults]

@[simp] theorem State.saveSettings_besideStore (acc : Bool × State) (a trial) :
    (State.saveSettings acc a trial).2.besideStore = acc.2.besideStore := by
  unfold State.saveSettings
  split
  · rfl
  · split <;> simp

-- Lantern's part of boot

@[simp] theorem State.saveBootLife_besideStore : s.saveBootLife.besideStore = s.besideStore := by
  unfold State.saveBootLife
  split
  · rfl
  · simp

@[simp] theorem State.bootMono_besideStore : s.bootMono.besideStore = s.besideStore := by
  refine foldl_besideStore (fun s i => ?_) ..
  dsimp only
  split
  · rfl
  · exact s.store_besideStore ..

@[simp] theorem State.bootSlot_besideStore (n) : (s.bootSlot n).besideStore = s.besideStore := by
  unfold State.bootSlot
  split
  split
  · rfl
  · next e _ =>
    dsimp only
    split
    · rfl
    · have stored := s.store_besideStore 2 n 8 (monoRecord (nextLease (s.leaseBase n).1) e.toNat)
      generalize s.store 2 n 8 _ = x at stored ⊢
      split <;> exact stored

@[simp] theorem State.bootLoads_besideStore : s.bootLoads.besideStore = s.besideStore := by
  have slots := foldl_besideStore State.bootSlot_besideStore (List.finRange 8) s.bootMono
  rw [State.bootMono_besideStore] at slots
  simp only [State.bootLoads]
  generalize (List.finRange 8).foldl State.bootSlot s.bootMono = x at slots ⊢
  exact slots

end Frame
end Sys2Proof.Machine
end

section
/-!
PROOFS. The end of a reset (R102, R148, R736, R738, R763): a supply or pin reset is released, and boot leaves a device that runs a pair, or is in
SUMP. Of boot's steps only `State.enterSump` changes the status that its first step sets; a `simp` lemma per step says so, in the order of the
definitions. Values that hold addresses or large numbers are named before `rfl`, since the kernel would compute with them.
-/
namespace Sys2Proof.Machine

/-- What boot decides of the supply and of SUMP. -/
structure BootStatus where
  hold : ResetHold
  xoOk : Bool
  pllLock : Bool
  mode : Mode
  sump : Bool

def State.bootStatus (s : State) : BootStatus := ⟨s.power.hold, s.power.xoOk, s.power.pllLock, s.power.mode, s.boot.sump⟩

/-- The same device in SUMP. -/
def BootStatus.inSump (b : BootStatus) : BootStatus := { b with mode := .sump, sump := true }

theorem State.bootStatus_of_besideStore {s t : State} (h : t.besideStore = s.besideStore) : t.bootStatus = s.bootStatus :=
  (congrArg State.bootStatus h :)

theorem State.fields_of_bootStatus {t : State} {b : BootStatus} (h : t.bootStatus = b) :
    t.power.hold = b.hold ∧ t.power.xoOk = b.xoOk ∧ t.power.pllLock = b.pllLock ∧ t.power.mode = b.mode ∧ t.boot.sump = b.sump := by
  subst h
  exact ⟨rfl, rfl, rfl, rfl, rfl⟩

@[simp] theorem State.ite_bootStatus {c : Prop} [Decidable c] (s t : State) :
    (if c then s else t).bootStatus = if c then s.bootStatus else t.bootStatus := apply_ite State.bootStatus _ _ _

theorem foldl_bootStatus {α : Type} {f : State → α → State} (hf : ∀ s a, (f s a).bootStatus = s.bootStatus) (l : List α) (s : State) :
    (l.foldl f s).bootStatus = s.bootStatus :=
  foldl_keeps State.bootStatus hf l s

section Frame
variable (s : State)

@[simp] theorem State.setLeaf_bootStatus (l) : (s.setLeaf l).bootStatus = s.bootStatus := rfl
@[simp] theorem State.setLeafIf_bootStatus (b l) : (s.setLeafIf b l).bootStatus = s.bootStatus := by cases b <;> rfl

-- Lanes

@[simp] theorem State.setOwners_bootStatus (ns o) : (s.setOwners ns o).bootStatus = s.bootStatus :=
  foldl_bootStatus (f := fun s n => s.setOwner n o) (fun _ _ => rfl) ..

@[simp] theorem State.setLane_bootStatus (l x) : (s.setLane l x).bootStatus = s.bootStatus := by cases l <;> rfl

@[simp] theorem State.finishWith_bootStatus (n r moveLines) : (s.finishWith n r moveLines).bootStatus = s.bootStatus := by
  simp only [State.finishWith]
  cases (s.job n).host with
  | false => rfl
  | true =>
    cases moveLines with
    | false => rfl
    | true =>
      have owned := State.setOwners_bootStatus { s with link.windows := s.link.windows.filter fun w => w.slot != n } (s.job n).lines .free
      generalize State.setOwners _ _ _ = x at owned ⊢
      exact owned

@[simp] theorem State.dropFrame_bootStatus (l) : (s.dropFrame l).bootStatus = s.bootStatus := by
  unfold State.dropFrame
  split <;> simp

@[simp] theorem State.endAtFrame_bootStatus (l) : (s.endAtFrame l).bootStatus = s.bootStatus := by
  simp only [State.endAtFrame]
  split <;> simp

@[simp] theorem State.letGo_bootStatus (l) : (s.letGo l).bootStatus = s.bootStatus := by simp [State.letGo]
@[simp] theorem State.laneOff_bootStatus (l) : (s.laneOff l).bootStatus = s.bootStatus := by simp [State.laneOff]

@[simp] theorem State.tuneLane_bootStatus (restart l) : (s.tuneLane restart l).bootStatus = s.bootStatus := by
  unfold State.tuneLane
  grind [State.setLane_bootStatus, State.letGo_bootStatus, State.laneOff_bootStatus]

@[simp] theorem State.refreshSynth_bootStatus : s.refreshSynth.bootStatus = s.bootStatus := rfl

@[simp] theorem State.applyLanes_bootStatus (back) : (s.applyLanes back).bootStatus = s.bootStatus := by
  have stale (s : State) (b) : ({ s with radio.loStale := b } : State).bootStatus = s.bootStatus := rfl
  have placed (s : State) (lo rx b) : ({ s with radio.lo := lo, radio.loRx := rx, radio.loStale := b } : State).bootStatus = s.bootStatus := rfl
  have stopped (s : State) (l) : (if s.laneHolds l then s else s.laneOff l).bootStatus = s.bootStatus := by simp
  unfold State.applyLanes
  split
  · extract_lets move holds off
    split
    · exact (State.refreshSynth_bootStatus _).trans ((stale _ _).trans ((stopped _ .b).trans (stopped s .a)))
    · exact (State.refreshSynth_bootStatus _).trans ((placed _ _ _ _).trans ((State.tuneLane_bootStatus ..).trans (s.tuneLane_bootStatus ..)))
  · rfl

-- Images

@[simp] theorem State.reportCorr_bootStatus (a) : (s.reportCorr a).bootStatus = s.bootStatus := rfl
@[simp] theorem State.reportRange_bootStatus (a n) : (s.reportRange a n).bootStatus = s.bootStatus := foldl_bootStatus State.reportCorr_bootStatus ..

@[simp] theorem State.validate_bootStatus : s.validate.bootStatus = s.bootStatus := by
  have recorded (s : State) (v w g) :
      ({ s with boot.verdict := v, boot.version := w, boot.ifgen := g } : State).bootStatus = s.bootStatus := rfl
  refine (State.setLeafIf_bootStatus ..).trans (foldl_bootStatus (fun s n => (recorded ..).trans ?_) ..)
  rw [State.ite_bootStatus, State.reportRange_bootStatus, ite_self]

@[simp] theorem State.loadFails_bootStatus (i v) : (s.loadFails i v).bootStatus = s.bootStatus := rfl
@[simp] theorem State.loadUcode_bootStatus (l) : (s.loadUcode l).bootStatus = s.bootStatus := rfl

@[simp] theorem State.loadCx_bootStatus (a) : (s.loadCx a).bootStatus = s.bootStatus := by
  have loaded (s : State) (x) : ({ s with core.cx := x } : State).bootStatus = s.bootStatus := rfl
  simp only [State.loadCx]
  split
  · exact loaded s _
  split
  · exact (State.setLeaf_bootStatus ..).trans (loaded s _)
  · exact (State.setLeafIf_bootStatus ..).trans ((loaded _ _).trans (loaded s _))

@[simp] theorem State.startCore_bootStatus (a l hitless) : (s.startCore a l hitless).bootStatus = s.bootStatus := by
  unfold State.startCore
  extract_lets _ c
  clear_value c
  rfl

@[simp] theorem State.setDataArea_bootStatus (a) : (s.setDataArea a).bootStatus = s.bootStatus := by
  have placed (x y) : ({ s with flash.areaFirst := x, flash.areaCount := y } : State).bootStatus = s.bootStatus := rfl
  unfold State.setDataArea
  split <;> exact placed ..

@[simp] theorem State.applyRoutes_bootStatus (t) : (s.applyRoutes t).bootStatus = s.bootStatus := by
  unfold State.applyRoutes
  split
  · rfl
  · dsimp only
    split <;> rfl

@[simp] theorem State.setTrial_bootStatus (on) : (s.setTrial on).bootStatus = s.bootStatus := rfl
@[simp] theorem State.bootSave_bootStatus (r) : (s.bootSave r).2.bootStatus = s.bootStatus := State.bootStatus_of_besideStore (s.bootSave_besideStore r)

@[simp] theorem State.recordPair_bootStatus (r changed a l) : (s.recordPair r changed a l).2.bootStatus = s.bootStatus := by
  simp only [State.recordPair]
  split
  · split <;> simp
  · simp

@[simp] theorem State.applyKey0_bootStatus (b) : (s.applyKey0 b).bootStatus = s.bootStatus := rfl

@[simp] theorem State.bootSettings_bootStatus (r c trial) : (s.bootSettings r c trial).bootStatus = s.bootStatus := by
  have status {a : Bool × State} {t : State} (h : a.2.besideStore = t.besideStore) : a.2.bootStatus = t.bootStatus :=
    State.bootStatus_of_besideStore h
  unfold State.bootSettings
  grind [State.clearSaved_besideStore, State.copyKeys_besideStore, State.saveSettings_besideStore, State.writeDefaults_besideStore,
    State.setLeafIf_bootStatus, State.applyKey0_bootStatus]

@[simp] theorem State.applyPlan_bootStatus (b) : (s.applyPlan b).bootStatus = s.bootStatus :=
  State.bootStatus_of_besideStore (s.applyPlan_besideStore b)

@[simp] theorem State.setUpPair_bootStatus (r changed k a l) : (s.setUpPair r changed k a l).bootStatus = s.bootStatus := by
  have chosen (s : State) (k a l) : ({ s with boot := s.boot.choosePair k a l } : State).bootStatus = s.bootStatus := rfl
  have clocked (s : State) (f) : ({ s with power.cclkFreq := f } : State).bootStatus = s.bootStatus := rfl
  simp only [State.setUpPair, State.loadUcode_bootStatus, State.loadCx_bootStatus, State.applyRoutes_bootStatus, State.applyPlan_bootStatus, clocked,
    State.setDataArea_bootStatus, State.bootSettings_bootStatus, State.recordPair_bootStatus, State.setLeafIf_bootStatus, chosen]

-- SUMP

@[simp] theorem State.recoveryRadio_bootStatus : s.recoveryRadio.bootStatus = s.bootStatus := State.applyLanes_bootStatus ..

/-- Entry to SUMP (R762, R763). -/
@[simp] theorem State.enterSump_bootStatus (why) : (s.enterSump why).bootStatus = s.bootStatus.inSump := by
  simp only [State.enterSump, State.recoveryRadio_bootStatus, State.applyPlan_bootStatus]
  rfl

@[simp] theorem State.noPair_bootStatus (r changed) : (s.noPair r changed).bootStatus = s.bootStatus.inSump := by
  unfold State.noPair
  split <;> simp

/-- Boot so far has kept the status, or has entered SUMP. -/
def State.BootsTo (s t : State) : Prop := t.bootStatus = s.bootStatus ∨ t.bootStatus = s.bootStatus.inSump

theorem State.BootsTo.of_eq {s s1 t : State} (h : s1.BootsTo t) (same : s1.bootStatus = s.bootStatus) : s.BootsTo t := by
  unfold State.BootsTo at h ⊢
  rwa [same] at h

/-- Pairing starts a pair, or none can run (R747, R748). -/
theorem State.pairUp_bootsTo (r changed n) : s.BootsTo (s.pairUp r changed n) := by
  induction n generalizing s changed with
  | zero => exact .inr (s.noPair_bootStatus ..)
  | succ n ih =>
    unfold State.pairUp
    split
    · exact .inr (s.noPair_bootStatus ..)
    split
    · exact (ih ..).of_eq (s.loadFails_bootStatus ..)
    split
    · exact (ih ..).of_eq (s.loadFails_bootStatus ..)
    dsimp only
    split
    · exact (ih ..).of_eq ((State.loadFails_bootStatus ..).trans (s.setUpPair_bootStatus ..))
    · exact .inl ((State.startCore_bootStatus ..).trans (s.setUpPair_bootStatus ..))

theorem State.bootImages_bootsTo : s.BootsTo s.bootImages := by
  refine State.BootsTo.of_eq (s1 := s.validate) ?_ s.validate_bootStatus
  simp only [State.bootImages]
  generalize s.validate = v
  split
  · exact .inr (State.enterSump_bootStatus ..)
  split
  · exact .inr (State.enterSump_bootStatus ..)
  · refine (State.pairUp_bootsTo ..).of_eq ?_
    split <;> rfl

-- The sequence

@[simp] theorem State.restoreLife_bootStatus : s.restoreLife.bootStatus = s.bootStatus := by
  unfold State.restoreLife
  extract_lets k0 k1
  generalize (Vector.ofFn _ : Vector Nat 19) = l
  clear_value k0 k1
  rfl

@[simp] theorem State.lifeAdd_bootStatus (i n) : (s.lifeAdd i n).bootStatus = s.bootStatus := rfl

@[simp] theorem State.bootLife_bootStatus (cold ticks) : (s.bootLife cold ticks).bootStatus = s.bootStatus := by
  have noted (s : State) (h) : ({ s with lantern.bodHist := h } : State).bootStatus = s.bootStatus := rfl
  have restored (b : Bool) : (if b then s.restoreLife else s).bootStatus = s.bootStatus := by simp
  unfold State.bootLife
  extract_lets c s1 s2
  have counted : s2.bootStatus = s.bootStatus := by
    unfold s2
    split <;> exact restored _
  split
  · exact (State.setLeaf_bootStatus ..).trans ((noted s2 _).trans counted)
  · exact counted

@[simp] theorem State.coldTime_bootStatus : s.coldTime.bootStatus = s.bootStatus := by
  have timed (a c) : ({ s with
      lantern.calendar := a, lantern.stale := true, drip.count := c, drip.phase := 0, drip.gap := true, drip.running := true } : State).bootStatus
      = s.bootStatus := rfl
  unfold State.coldTime
  split
  · exact timed ..
  · exact timed ..

@[simp] theorem State.markDead_bootStatus : s.markDead.bootStatus = s.bootStatus := rfl
@[simp] theorem State.loadDripHi_bootStatus : s.loadDripHi.bootStatus = s.bootStatus := rfl

@[simp] theorem State.publish_bootStatus : s.publish.bootStatus = s.bootStatus := by
  have shown (c b x) : ({ s with cause := c, seen := b, crossing := x } : State).bootStatus = s.bootStatus := rfl
  unfold State.publish
  exact shown ..

@[simp] theorem State.bootLoads_bootStatus : s.bootLoads.bootStatus = s.bootStatus := State.bootStatus_of_besideStore s.bootLoads_besideStore
@[simp] theorem State.saveBootLife_bootStatus : s.saveBootLife.bootStatus = s.bootStatus :=
  State.bootStatus_of_besideStore s.saveBootLife_besideStore

/-- The transfers that pass while boot runs make what it did visible (R738). -/
theorem State.publish_seen : s.publish.seen = s.publish.toBlocks := rfl

/-- The device out of reset, with its crystal and PLL. -/
def BootStatus.released (b : BootStatus) : BootStatus := { b with hold := .none, xoOk := true, pllLock := true }

/-- Boot releases the device, and leaves it in SUMP or where it was (R736, R763). -/
theorem State.boot6_bootStatus (ticks) :
    (s.boot6 ticks).bootStatus = s.bootStatus.released ∨ (s.boot6 ticks).bootStatus = s.bootStatus.released.inSump := by
  let s1 : State := { s with power.hold := .none, power.xoOk := true, power.pllLock := true }
  have scanned : s1.bootScan.applyRepair.resolveAll.bootStatus = s.bootStatus.released := by
    have start : s1.bootStatus = s.bootStatus.released := rfl
    rw [← start]
    exact State.bootStatus_of_besideStore (by simp)
  have loaded (b : Bool) (s : State) : (if b then s.coldTime else s).loadDripHi.bootLoads.bootStatus = s.bootStatus := by simp
  simp only [State.boot6, State.publish_bootStatus, State.saveBootLife_bootStatus]
  rw [← scanned]
  refine (State.bootImages_bootsTo _).of_eq ?_
  rw [loaded, State.bootLife_bootStatus, State.markDead_bootStatus]

/-- What boot did is visible to every plane (R738). -/
theorem State.boot6_seen (ticks) : (s.boot6 ticks).seen = (s.boot6 ticks).toBlocks := by
  unfold State.boot6
  exact State.publish_seen _

end Frame

-- The events

theorem exec_brownoutRelease {s : State} (held : s.power.hold = .brownout) :
    exec .brownoutRelease s = .next (if s.power.nresetLow then { s with power.hold := .pin } else s.boot6 0) := by
  show execBrownoutRelease s = _
  simp only [execBrownoutRelease, whenDo, held, beq_self_eq_true, if_true]

theorem exec_nresetRelease {s : State} (held : s.power.hold = .pin) :
    exec .nresetRelease s = .next { s with power.hold := .crystal, power.nresetLow := false } := by
  show execNresetRelease s = _
  simp only [execNresetRelease, held, beq_self_eq_true, if_true]

/-- The state from which the resume tick after a reset boots (R73, R95). -/
def State.atResume (s : State) (e ticks : Nat) : State :=
  { s with drip := if s.coldBoot then s.drip else s.drip.restart e ticks, power.wake := .none }

/-- RESUME_TICK after a reset, with the count captured at the stop, boots the device. -/
theorem exec_resumeTick_boots {s : State} {e : Fin 8978} (held : s.power.hold = .crystal)
    (captured : s.drip.stopCycles = none ∨ s.drip.stopCycles = some e.val) (short : s.drip.stopRan = true ∨ e.val ≤ 977) (n : Nat) :
    exec (.resumeTick e n) s = .next ((s.atResume e n).boot6 n) := by
  have agrees : s.drip.agrees e = true := by simpa [DripBlock.agrees] using captured
  have boots : (s.drip.stopRan || decide (e.val ≤ 977)) = true := by simpa using short
  show execResumeTick e n s = _
  simp [execResumeTick, agrees, held, boots, State.atResume]

/-- A device that leaves boot is in SUMP exactly when LT_BOOT.SUMP reads 1, when it was not in SUMP before. -/
theorem State.boot6_sump {s : State} (mode : s.power.mode = .run) (sump : s.boot.sump = false) (ticks : Nat) :
    (s.boot6 ticks).power.mode = .sump ↔ (s.boot6 ticks).boot.sump = true := by
  obtain h | h := s.boot6_bootStatus ticks
  · obtain ⟨-, -, -, hm, hs⟩ := State.fields_of_bootStatus h
    simp [hm, hs, BootStatus.released, State.bootStatus, mode, sump]
  · obtain ⟨-, -, -, hm, hs⟩ := State.fields_of_bootStatus h
    simp [hm, hs, BootStatus.inSump]

/-- Boot leaves nothing that holds the device, and its crystal and PLL run. -/
theorem State.boot6_released (s : State) (ticks : Nat) :
    (s.boot6 ticks).power.hold = .none ∧ (s.boot6 ticks).power.xoOk = true ∧ (s.boot6 ticks).power.pllLock = true := by
  obtain h | h := s.boot6_bootStatus ticks
  · obtain ⟨hold, crystal, pll, -⟩ := State.fields_of_bootStatus h
    exact ⟨hold, crystal, pll⟩
  · obtain ⟨hold, crystal, pll, -⟩ := State.fields_of_bootStatus h
    exact ⟨hold, crystal, pll⟩

/-- Settles O40: the end of a brownout and the resume tick after another reset are boot (`State.boot6_released`, `State.boot6_sump`). -/
theorem releasesLeadToBoot : Obligations.ReleasesLeadToBoot := by
  unfold Obligations.ReleasesLeadToBoot
  refine ⟨fun s held low => ?_, fun s held high => ?_, fun s held => exec_nresetRelease held, fun s e n held captured short => ?_⟩
  · rw [exec_brownoutRelease held, if_pos low]
  · obtain ⟨hold, crystal, pll⟩ := s.boot6_released 0
    refine ⟨s.boot6 0, ?_, hold, crystal, pll, s.boot6_seen 0, fun mode sump => State.boot6_sump mode sump 0⟩
    rw [exec_brownoutRelease held, if_neg (by simp [high])]
  · obtain ⟨hold, crystal, -⟩ := (s.atResume e n).boot6_released n
    exact ⟨_, exec_resumeTick_boots held captured short n, hold, crystal, State.boot6_seen ..⟩

end Sys2Proof.Machine
end

section
/-!
PROOFS. Upkeep of the radio: what a lane that loses its frame, a job that ends with it, a window that closes and the new placement of the lanes can
do to the device, said once for all of them (`State.Upkeep`). Frames and lines only become free, leaves are only set, and what the link controller
hands over only grows.
-/
namespace Sys2Proof.Machine

-- Lanes

@[simp] theorem State.lane_setLane_same (s : State) (l : Lane) (x : LaneBlock) : (s.setLane l x).lane l = x := by cases l <;> rfl

@[simp] theorem State.lane_setLane_other (s : State) (l : Lane) (x : LaneBlock) : (s.setLane l x).lane (otherLane l) = s.lane (otherLane l) := by
  cases l <;> rfl

theorem State.lane_setLane_of_ne {k l : Lane} (h : k ≠ l) (s : State) (x : LaneBlock) : (s.setLane l x).lane k = s.lane k := by
  cases l with
  | a => cases k with
    | a => exact absurd rfl h
    | b => rfl
  | b => cases k with
    | a => rfl
    | b => exact absurd rfl h

@[simp] theorem State.setLane_core (s : State) (l : Lane) (x : LaneBlock) : (s.setLane l x).core = s.core := rfl
@[simp] theorem State.setLane_cause (s : State) (l : Lane) (x : LaneBlock) : (s.setLane l x).cause = s.cause := rfl
@[simp] theorem State.setLane_link (s : State) (l : Lane) (x : LaneBlock) : (s.setLane l x).link = s.link := rfl
@[simp] theorem State.setLane_use (s : State) (l : Lane) (x : LaneBlock) : (s.setLane l x).radio.use = s.radio.use := by cases l <;> rfl

/-- A lane is a part of the radio block. -/
theorem State.lane_of_radio {s t : State} (h : t.radio = s.radio) (l : Lane) : t.lane l = s.lane l := congrArg (RadioBlock.lane · l) h

-- Leaves

/-- Setting a leaf clears none. -/
theorem State.setLeaf_keeps_leaf (s : State) (l : Leaf) {g k : Nat} (hg : g < 15) (h : (s.cause.leaf[g]).getLsbD k = true) :
    ((s.setLeaf l).cause.leaf[g]).getLsbD k = true := by
  have set : ((s.setLeaf l).cause.leaf) = s.cause.leaf.set l.place.1 (s.cause.leaf[l.place.1] ||| l.mask) := rfl
  simp only [set, Vector.getElem_set]
  split
  · next e => subst e; simp_all
  · exact h

-- Owners

theorem State.ownerOf_setOwner_same {n : Nat} (h : n < 128) (s : State) (o : Owner) : (s.setOwner n o).link.ownerOf n = o := by
  simp [State.setOwner, LinkBlock.ownerOf, Vector.getD, h]

theorem State.ownerOf_setOwner_of_ne {n k : Nat} (h : k ≠ n) (s : State) (o : Owner) : (s.setOwner n o).link.ownerOf k = s.link.ownerOf k := by
  simp [State.setOwner, LinkBlock.ownerOf, Vector.getD, h.symm]

/-- A line beyond the gallery counts as FREE. -/
theorem LinkBlock.ownerOf_of_le {n : Nat} (h : 128 ≤ n) (k : LinkBlock) : k.ownerOf n = .free := by
  simp [LinkBlock.ownerOf, Vector.getD, Nat.not_lt.mpr h]

theorem State.ownerOf_setOwner_free (s : State) (n : Nat) : (s.setOwner n .free).link.ownerOf n = .free := by
  by_cases h : n < 128
  · exact State.ownerOf_setOwner_same h s .free
  · exact LinkBlock.ownerOf_of_le (Nat.not_lt.mp h) _

-- Upkeep

/-- `t` is `s` after upkeep of the radio: no new frame, no line taken, no leaf cleared, nothing counted, and what passes to the core only grows. -/
structure State.Upkeep (s t : State) : Prop where
  core : t.core = s.core
  use : t.radio.use = s.radio.use
  frame : ∀ l, (t.lane l).frame = none ∨ (t.lane l).frame = (s.lane l).frame
  hdrBad : ∀ l, (t.lane l).cntHdrBad = (s.lane l).cntHdrBad
  leaf : ∀ {g k : Nat} (hg : g < 15), (s.cause.leaf[g]).getLsbD k = true → (t.cause.leaf[g]).getLsbD k = true
  owner : ∀ {n}, s.link.ownerOf n = .free → t.link.ownerOf n = .free
  toCore : s.link.toCore.Sublist t.link.toCore
  rxqNext : t.link.rxqNext = s.link.rxqNext
  evGood : t.link.evGood = s.link.evGood
  dropGallery : t.link.dropGallery = s.link.dropGallery

/-- Upkeep after upkeep is upkeep; the later one stands first, as in the functions that do both. -/
theorem State.Upkeep.after {s t u : State} (g : t.Upkeep u) (h : s.Upkeep t) : s.Upkeep u where
  core := g.core.trans h.core
  use := g.use.trans h.use
  frame l := (g.frame l).elim .inl fun e => e ▸ h.frame l
  hdrBad l := (g.hdrBad l).trans (h.hdrBad l)
  leaf hg hl := g.leaf hg (h.leaf hg hl)
  owner hn := g.owner (h.owner hn)
  toCore := h.toCore.trans g.toCore
  rxqNext := g.rxqNext.trans h.rxqNext
  evGood := g.evGood.trans h.evGood
  dropGallery := g.dropGallery.trans h.dropGallery

/-- A state that agrees with `s` in what upkeep speaks of; most often because the update is of other fields. -/
theorem State.Upkeep.of_eq {s t : State} (core : t.core = s.core := by rfl) (use : t.radio.use = s.radio.use := by rfl)
    (lane : ∀ l, t.lane l = s.lane l := by intro l; cases l <;> rfl) (cause : t.cause = s.cause := by rfl)
    (owner : t.link.owner = s.link.owner := by rfl) (toCore : t.link.toCore = s.link.toCore := by rfl)
    (rxqNext : t.link.rxqNext = s.link.rxqNext := by rfl) (evGood : t.link.evGood = s.link.evGood := by rfl)
    (dropGallery : t.link.dropGallery = s.link.dropGallery := by rfl) : s.Upkeep t where
  core := core
  use := use
  frame l := .inr (by rw [lane])
  hdrBad l := by rw [lane]
  leaf hg h := by rw [cause]; exact h
  owner h := by rw [LinkBlock.ownerOf, owner]; exact h
  toCore := toCore ▸ List.Sublist.refl _
  rxqNext := rxqNext
  evGood := evGood
  dropGallery := dropGallery

/-- A fold whose every step is upkeep is upkeep. -/
theorem foldl_upkeep {α : Type} {f : State → α → State} (hf : ∀ (s : State) a, s.Upkeep (f s a)) (l : List α) (s : State) :
    s.Upkeep (l.foldl f s) :=
  List.foldlRecOn (motive := fun t : State => s.Upkeep t) l f .of_eq fun t h a _ => (hf t a).after h

section
variable (s : State)

theorem State.upkeep_refl : s.Upkeep s := .of_eq

theorem State.pulse_upkeep (p : Nat) : s.Upkeep (s.pulse p) :=
  .of_eq (by simp) (by simp) (fun l => State.lane_of_radio (by simp) l) (by simp) (by simp) (by simp) (by simp) (by simp) (by simp)

theorem State.setJob_upkeep (n : Fin 16) (j : Job) : s.Upkeep (s.setJob n j) := .of_eq

theorem State.refreshSynth_upkeep : s.Upkeep s.refreshSynth := .of_eq

theorem State.setLeaf_upkeep (l : Leaf) : s.Upkeep (s.setLeaf l) :=
  { s.upkeep_refl with leaf := s.setLeaf_keeps_leaf l }

/-- A lane keeps its frame or loses it, and counts no bad header. -/
theorem State.setLane_upkeep {s : State} {l : Lane} {x : LaneBlock} (frame : x.frame = none ∨ x.frame = (s.lane l).frame)
    (hdrBad : x.cntHdrBad = (s.lane l).cntHdrBad) : s.Upkeep (s.setLane l x) where
  core := rfl
  use := by simp
  frame k := by
    by_cases h : k = l
    · subst h; simpa using frame
    · exact .inr (by rw [State.lane_setLane_of_ne h])
  hdrBad k := by
    by_cases h : k = l
    · subst h; simpa using hdrBad
    · rw [State.lane_setLane_of_ne h]
  leaf _ h := h
  owner h := h
  toCore := List.Sublist.refl _
  rxqNext := rfl
  evGood := rfl
  dropGallery := rfl

theorem State.setOwner_free_upkeep (n : Nat) : s.Upkeep (s.setOwner n .free) :=
  { s.upkeep_refl with
    owner := fun {k} hk => by
      by_cases h : k = n
      · subst h; exact s.ownerOf_setOwner_free k
      · rw [State.ownerOf_setOwner_of_ne h]; exact hk }

theorem State.setOwners_free_upkeep (ns : List Nat) : s.Upkeep (s.setOwners ns .free) := foldl_upkeep (fun s n => s.setOwner_free_upkeep n) ns s

/-- The lines given back are FREE. -/
theorem State.ownerOf_setOwners_free {ns : List Nat} {n : Nat} (h : n ∈ ns) : (s.setOwners ns .free).link.ownerOf n = .free := by
  induction ns generalizing s with
  | nil => cases h
  | cons m ms ih =>
    obtain rfl | h := List.mem_cons.mp h
    · exact (State.setOwners_free_upkeep _ ms).owner (s.ownerOf_setOwner_free n)
    · exact ih (s.setOwner m .free) h

/-- Closing windows is upkeep. -/
theorem State.setWindows_upkeep (ws : List AckWindow) : s.Upkeep { s with link.windows := ws } := .of_eq

theorem State.finishWith_upkeep (n : Fin 16) (r : BitVec 4) (moveLines : Bool) : s.Upkeep (s.finishWith n r moveLines) := by
  have freed (s : State) (ns : List Nat) : s.Upkeep (if moveLines then s.setOwners ns .free else s) := by
    split
    · exact s.setOwners_free_upkeep ns
    · exact s.upkeep_refl
  have handed (s : State) (ns : List Nat) : s.Upkeep { s with link.toCore := if moveLines then s.link.toCore ++ ns else s.link.toCore } :=
    { s.upkeep_refl with toCore := by cases moveLines <;> simp }
  have reported (s : State) (ds : List HostDone) : s.Upkeep { s with chain.hostDone := ds } := .of_eq
  unfold State.finishWith
  extract_lets j link s0 s1 d s2
  have closed : s.Upkeep s0 := s.setWindows_upkeep _
  split
  · exact (reported _ _).after ((State.setJob_upkeep _ n _).after ((freed s0 _).after closed))
  · exact (State.setLeaf_upkeep _ _).after ((handed _ _).after ((State.setJob_upkeep _ n _).after closed))

theorem State.dropFrame_upkeep (l : Lane) : s.Upkeep (s.dropFrame l) := by
  unfold State.dropFrame
  split
  · exact s.upkeep_refl
  · next f _ =>
    have freed := s.setOwners_free_upkeep f.lines
    exact State.Upkeep.after (State.setLane_upkeep (.inl rfl) (freed.hdrBad l).symm) freed

theorem State.endAtFrame_upkeep (l : Lane) : s.Upkeep (s.endAtFrame l) := by
  have apart : s.Upkeep (s.setLane l { s.lane l with job := none, ending := none }) := State.setLane_upkeep (.inr rfl) rfl
  unfold State.endAtFrame
  extract_lets x
  split
  · exact (State.finishWith_upkeep ..).after apart
  · exact s.upkeep_refl

theorem State.letGo_upkeep (l : Lane) : s.Upkeep (s.letGo l) := by
  unfold State.letGo
  split
  · exact (State.endAtFrame_upkeep _ l).after (s.dropFrame_upkeep l)
  · exact s.upkeep_refl

theorem State.laneOff_upkeep (l : Lane) : s.Upkeep (s.laneOff l) :=
  State.Upkeep.after (State.setLane_upkeep (.inr rfl) rfl) (s.letGo_upkeep l)

theorem State.tuneLane_upkeep (restart : Bool) (l : Lane) : s.Upkeep (s.tuneLane restart l) := by
  unfold State.tuneLane
  extract_lets s1
  have apart : s.Upkeep s1 := s.letGo_upkeep l
  split
  · exact s.upkeep_refl
  · split
    · exact (State.laneOff_upkeep _ l).after apart
    · exact State.Upkeep.after (State.setLane_upkeep (.inr rfl) rfl) apart

/-- Only the LO and what depends on it change. -/
theorem State.setLo_upkeep (lo loRx : Nat) (stale : Bool) : s.Upkeep { s with radio.lo := lo, radio.loRx := loRx, radio.loStale := stale } :=
  .of_eq

theorem State.applyLanes_upkeep (back : Bool) : s.Upkeep (s.applyLanes back) := by
  have off (s : State) (l : Lane) : s.Upkeep (if s.laneHolds l then s else s.laneOff l) := by
    split
    · exact s.upkeep_refl
    · exact s.laneOff_upkeep l
  have placed (s : State) (lo : Nat) (loRx : Nat) (stale : Bool) :
      s.Upkeep { s with radio.lo := lo, radio.loRx := loRx, radio.loStale := stale }.refreshSynth :=
    (State.refreshSynth_upkeep _).after (s.setLo_upkeep lo loRx stale)
  unfold State.applyLanes
  extract_lets move holds off'
  split
  · split
    · exact (placed _ _ _ true).after ((off _ .b).after (off s .a))
    · exact (placed _ _ _ false).after ((State.tuneLane_upkeep _ _ .b).after (s.tuneLane_upkeep _ .a))
  · exact s.refreshSynth_upkeep

theorem State.finishJob_upkeep (n : Fin 16) (r : BitVec 4) : s.Upkeep (s.finishJob n r) :=
  (State.applyLanes_upkeep _ false).after (s.finishWith_upkeep n r true)

theorem State.closeWindow_upkeep (n : Fin 16) (matched : Bool) : s.Upkeep (s.closeWindow n matched) := by
  have drawn (s : State) (bound : Nat) : s.Upkeep (s.draw bound).2 := .of_eq
  unfold State.closeWindow
  extract_lets radio link s0 j k
  have closed : s.Upkeep s0 := .of_eq
  split
  · exact (State.finishJob_upkeep ..).after closed
  · split
    · exact (State.finishJob_upkeep ..).after closed
    · split
      · exact (State.applyLanes_upkeep _ false).after ((State.setJob_upkeep _ n _).after ((drawn s0 (2 ^ min k 6)).after closed))
      · exact (State.finishJob_upkeep ..).after closed

theorem State.failSyncedWindows_upkeep (l : Lane) : s.Upkeep (s.failSyncedWindows l) := foldl_upkeep (fun s n => s.closeWindow_upkeep n false) ..

theorem State.releaseLane_upkeep (l : Lane) : s.Upkeep (s.releaseLane l) :=
  (State.applyLanes_upkeep _ false).after ((State.endAtFrame_upkeep _ l).after (State.setLane_upkeep (.inl rfl) rfl))

theorem State.abandonFrame_upkeep (l : Lane) : s.Upkeep (s.abandonFrame l) := by
  unfold State.abandonFrame
  extract_lets held s1
  have released : s.Upkeep s1 := (State.releaseLane_upkeep _ l).after (s.dropFrame_upkeep l)
  split
  · exact (State.failSyncedWindows_upkeep _ l).after released
  · exact released

/-- A released lane holds no frame. -/
theorem State.releaseLane_frame (l : Lane) : ((s.releaseLane l).lane l).frame = none := by
  have later (x : LaneBlock) (h : x.frame = none) : ((((s.setLane l x).endAtFrame l).applyLanes false).lane l).frame = none := by
    have := ((State.applyLanes_upkeep _ false).after (State.endAtFrame_upkeep (s.setLane l x) l)).frame l
    simpa [h] using this
  exact later _ rfl

/-- A lane that abandons its frame holds none. -/
theorem State.abandonFrame_frame (l : Lane) : ((s.abandonFrame l).lane l).frame = none := by
  have released := State.releaseLane_frame (s.dropFrame l) l
  unfold State.abandonFrame
  dsimp only
  split
  · have := (State.failSyncedWindows_upkeep ((s.dropFrame l).releaseLane l) l).frame l
    simpa [released] using this
  · exact released

theorem State.endTx_core : s.endTx.core = s.core := by
  unfold State.endTx
  split
  · exact (State.applyLanes_upkeep _ true).core
  · rfl

/-- Reaching an instant of the radio leaves the core alone. -/
@[simp] theorem State.reach_core (p : Nat) : (s.reach p).core = s.core := by
  unfold State.reach State.settleTx
  split
  · split
    · rfl
    · split
      · simp [State.endTx_core]
      · simp [State.endTx_core]
      · rfl
  · rfl

end

end Sys2Proof.Machine
end

section
/-!
PROOFS. Lane acquisition (R202 to R210), the lines of a frame (R256, R257, R624), the header check (R192), clipping (R210) and loss of lock (R228).
-/
namespace Sys2Proof.Machine

-- What a lane measures

theorem freqSum_eq_sum (f : List Int) : freqSum f = f.sum := List.sum_eq_foldl.symm

theorem meanOf_eq (f : List Int) : meanOf f = f.sum / f.length := by rw [meanOf, freqSum_eq_sum]

theorem sum_map_neg (g : Nat → Int) (ks : List Nat) : (ks.map fun k => -g k).sum = -(ks.map g).sum := by
  induction ks with
  | nil => rfl
  | cons k ks ih => rw [List.map_cons, List.sum_cons, ih, List.map_cons, List.sum_cons, Int.neg_add]

/-- The sum with alternating signs, written out over the positions of the window. -/
theorem sum_range_eq_alternatingSum (f : List Int) :
    ((List.range f.length).map fun k => if k % 2 = 0 then f.getD k 0 else -f.getD k 0).sum = alternatingSum f := by
  induction f with
  | nil => rfl
  | cons x xs ih =>
    have flipped (k : Nat) : (if (k + 1) % 2 = 0 then xs.getD k 0 else -xs.getD k 0) = -(if k % 2 = 0 then xs.getD k 0 else -xs.getD k 0) := by
      by_cases h : k % 2 = 0
      · rw [if_neg (by omega), if_pos h]
      · rw [if_pos (by omega), if_neg h, Int.neg_neg]
    rw [alternatingSum, ← ih, List.length_cons, List.range_succ_eq_map, List.map_cons, List.sum_cons, List.map_map, Int.sub_eq_add_neg,
      ← sum_map_neg]
    congr 3
    funext k
    exact flipped k

/-- Detection, spelled out (R202, R203). -/
theorem State.detects_iff (s : State) (m : PhyMode) (f : List Int) (rssi : BitVec 8) : s.detects m f rssi = true ↔
    m.preambleDeviation s.radio.s3Wide * 65536 * f.length ≤ 2 * (alternatingSum f).natAbs * 4000000 ∧
      s.radio.detRssi.toInt ≤ rssi.toInt ∧ f.sum.natAbs * 4000000 ≤ m.capture * 65536 * f.length := by
  simp [State.detects, atLeastHz, withinHz, freqSum_eq_sum, Int.natAbs_mul, and_assoc]

/-- The offset of an estimate in its ranges, spelled out (R205, R212). -/
theorem LaneBlock.pulledIn_iff (x : LaneBlock) : x.pulledIn = true ↔
    x.offset.toInt.natAbs * 4000000 ≤ x.mode.ksym * 250 * 65536 ∧
      (x.coarse + x.offset.toInt).natAbs * 4000000 ≤ x.mode.capture * 65536 := by
  simp [LaneBlock.pulledIn, withinHz, PhyMode.pullIn]

theorem bitsWrong_eq_countP (a b : Word) : bitsWrong a b = (List.range 32).countP fun i => (a ^^^ b).getLsbD i :=
  List.countP_eq_length_filter.symm

-- Detection and estimate

theorem exec_laneDetection {s : State} {l : Lane} {phase : Fin 8000} (searching : ((s.reach phase).lane l).stage = .searching) (f : Vector Int 8)
    (rssi : BitVec 8) : exec (.laneDetection l f rssi phase) s = .next ((s.reach phase).detect l f.toList rssi) := by
  show execLaneDetection l f rssi phase s = _
  simp [execLaneDetection, whenDo, searching]

theorem exec_fineEstimate {s : State} {l : Lane} (detected : (s.lane l).stage = .detected) (f : Vector Int 16) (rssi : BitVec 8) :
    exec (.fineEstimate l f rssi) s = .next (s.estimate l f.toList rssi) := by
  show execFineEstimate l f rssi s = _
  simp [execFineEstimate, whenDo, detected]

/-- The symbol phase is settled where the half-rate component has a sign; else it is drawn (R204). -/
theorem State.estimate_eq (s : State) (l : Lane) (f : List Int) (rssi : BitVec 8) :
    ∃ (tau : Int) (n : Nat), (0 < alternatingSum f → tau = 0) ∧ (alternatingSum f < 0 → tau = 65536) ∧
      s.estimate l f rssi = { s with free := n }.setLane l
        { s.lane l with
          stage := .estimated, offset := BitVec.ofInt 16 (meanOf f), nco := (s.lane l).coarse + (BitVec.ofInt 16 (meanOf f)).toInt, tau := tau
          rssi := rssi, frameRssi := rssi } := by
  obtain pos | zero | neg := Int.lt_trichotomy 0 (alternatingSum f)
  · refine ⟨0, s.free, fun _ => rfl, fun h => absurd h (by omega), ?_⟩
    simp [State.estimate, symbolPhase, pos]
  · refine ⟨(s.draw 131072).1 - 65535, s.free + 1, fun h => absurd h (by omega), fun h => absurd h (by omega), ?_⟩
    simp [State.estimate, symbolPhase, ← zero]
    rfl
  · refine ⟨65536, s.free, fun h => absurd h (by omega), fun _ => rfl, ?_⟩
    simp [State.estimate, symbolPhase, neg, Int.not_lt.mpr (Int.le_of_lt neg)]

-- Lines of a frame

@[simp] theorem State.pulse_storedCheck (s : State) (p n : Nat) : (s.pulse p).storedCheck n = s.storedCheck n := by simp [State.storedCheck]

@[simp] theorem State.pulse_lane (s : State) (p : Nat) (l : Lane) : (s.pulse p).lane l = s.lane l := State.lane_of_radio (by simp) l

@[simp] theorem LinkBlock.markWindow_owner (k : LinkBlock) (l : Lane) : (k.markWindow l).owner = k.owner := by
  unfold LinkBlock.markWindow
  split <;> rfl

@[simp] theorem LinkBlock.markWindow_dropGallery (k : LinkBlock) (l : Lane) : (k.markWindow l).dropGallery = k.dropGallery := by
  unfold LinkBlock.markWindow
  split <;> rfl

theorem LinkBlock.lowestFree_of_owner {k m : LinkBlock} (h : m.owner = k.owner) : m.lowestFree = k.lowestFree := by
  simp only [LinkBlock.lowestFree, LinkBlock.ownerOf, h]

theorem LinkBlock.lowestFree_lt {k : LinkBlock} {n : Nat} (h : k.lowestFree = some n) : n < 128 :=
  List.mem_range.mp (List.mem_of_find?_eq_some h)

/-- A byte of a gallery line that nothing lists reads 0 (R610). -/
theorem memDefault_line {n k : Nat} (hn : n < 128) (hk : k < 128) : memDefault (lineBase n + k) = 0 := by
  unfold memDefault lineBase
  repeat rw [if_neg (by omega)]
  rfl

theorem memGet_memClear_inside {m : List Host.Cell} {lo hi a : Nat} (h : lo ≤ a ∧ a < hi) : memGet (memClear m lo hi) a = memDefault a :=
  memGet_filter_of_false (p := fun k => decide (k < lo) || decide (hi ≤ k)) (by simp [h]) m

theorem memGet_memClear_outside {m : List Host.Cell} {lo hi a : Nat} (h : a < lo ∨ hi ≤ a) : memGet (memClear m lo hi) a = memGet m a :=
  memGet_filter_of_true (p := fun k => decide (k < lo) || decide (hi ≤ k)) (by simpa using h) m

section
variable (s : State) (n : Nat) (o : Owner)

@[simp] theorem State.takeLine_lane (l : Lane) : (s.takeLine n o).lane l = s.lane l := rfl
@[simp] theorem State.takeLine_link : (s.takeLine n o).link = (s.setOwner n o).link := rfl

@[simp] theorem State.takeLine_storedCheck : (s.takeLine n o).storedCheck n = 0 := by
  simp [State.takeLine, State.clearLine, State.setCheck, State.storedCheck, Vector.getD, Array.getElem?_setIfInBounds]
  split <;> rfl

/-- A line taken is cleared (R624). -/
theorem State.takeLine_inside {n k : Nat} (hn : n < 128) (hk : k < 128) : memGet (s.takeLine n o).mem (lineBase n + k) = 0 :=
  (memGet_memClear_inside (by omega)).trans (memDefault_line hn hk)

theorem State.takeLine_outside {b : Nat} (h : b < lineBase n ∨ lineBase n + 128 ≤ b) : memGet (s.takeLine n o).mem b = memGet s.mem b :=
  memGet_memClear_outside h

end

/-- A frame that finds no FREE line is dropped, counted and reported (R257). -/
theorem State.galleryFull_drops (s : State) (l : Lane) : ((s.galleryFull l).lane l).frame = none ∧
    (s.galleryFull l).link.dropGallery = satInc s.link.dropGallery ∧ (((s.galleryFull l).cause.leaf[1]).getLsbD 2 = true) := by
  have upkeep := State.abandonFrame_upkeep ({ s with link.dropGallery := satInc s.link.dropGallery }.setLeaf .linkGalleryFull) l
  exact ⟨State.abandonFrame_frame _ l, upkeep.dropGallery, upkeep.leaf _ (State.setLeaf_leaf_getLsbD _ (l := .linkGalleryFull) (by decide))⟩

-- Sync

/-- What a sync leaves: the refined lane in its frame, and the producer's pulse (R206, R209, R555). -/
def State.synced (s : State) (l : Lane) (offsets phases : List Int) : State :=
  ((s.setLane l ((s.lane l).refine offsets phases)).sync l).pulse (if l == .a then 9 else 10)

/-- The lane's sync word is found by a lane whose estimate is within its ranges (R205, R207, R212). -/
theorem exec_syncFound {s : State} {l : Lane} {decisions : Word} {phase : Fin 8000} (estimated : ((s.reach phase).lane l).stage = .estimated)
    (pulled : ((s.reach phase).lane l).pulledIn = true)
    (found : bitsWrong decisions ((s.reach phase).lane l).sync ≤ ((s.reach phase).lane l).syncTol) (offsets phases : Vector Int 16) :
    exec (.syncFound l decisions offsets phases phase) s = .next ((s.reach phase).synced l offsets.toList phases.toList) := by
  show execSyncFound l decisions offsets phases phase s = _
  simp [execSyncFound, whenDo, estimated, pulled, found, State.synced]

/-- The frame that a lane holds from a sync now, in these lines (R209, R222). -/
def State.newFrame (s : State) (lines : List Nat) : RxFrame := { lines := lines, syncDrip := s.drip.count, syncPhase := s.drip.phase }

/-- The state with a lane in a frame, before its first line is taken. -/
def State.inFrame (s : State) (l : Lane) (lines : List Nat) : State :=
  { s with link := s.link.markWindow l }.setLane l
    { s.lane l with stage := .frame, cntSync := satInc (s.lane l).cntSync, frame := some (s.newFrame lines) }

theorem State.sync_of_line {s : State} {n : Nat} (h : s.link.lowestFree = some n) (l : Lane) :
    s.sync l = (s.inFrame l [n]).takeLine n .link := by
  simp only [State.sync, LinkBlock.lowestFree_of_owner (LinkBlock.markWindow_owner ..), h]
  rfl

theorem State.sync_of_full {s : State} (h : s.link.lowestFree = none) (l : Lane) : s.sync l = (s.inFrame l []).galleryFull l := by
  simp only [State.sync, LinkBlock.lowestFree_of_owner (LinkBlock.markWindow_owner ..), h]
  rfl

theorem exec_noSync {s : State} {l : Lane} (estimated : (s.lane l).stage = .estimated) :
    exec (.noSync l) s = .next (s.setLane l { s.lane l with stage := .searching, cntNoSync := satInc (s.lane l).cntNoSync }) := by
  show execNoSync l s = _
  simp [execNoSync, whenDo, estimated]

-- The frame

theorem exec_lineExtend {s : State} {l : Lane} {f : RxFrame} {n : Nat} (frame : (s.lane l).frame = some f) (short : f.lines.length < 3)
    (free : s.link.lowestFree = some n) : exec (.lineExtend l) s =
      .next ((s.setLane l { s.lane l with frame := some { f with lines := f.lines ++ [n] } }).takeLine n .link) := by
  show execLineExtend l s = _
  simp [execLineExtend, whenDo, State.extend, frame, short, free]

theorem exec_phyHeaderCheck {s : State} {l : Lane} {f : RxFrame} (frame : (s.lane l).frame = some f) (fresh : f.header = none)
    (soft : List Soft) : exec (.phyHeaderCheck l soft) s = .next (s.headerCheck l f soft) := by
  show execPhyHeaderCheck l soft s = _
  simp [execPhyHeaderCheck, frame, fresh]

/-- The PHY header that the coded bits so far give (R188, R200). -/
def headerSoFar (m : PhyMode) (soft : List Soft) : BitVec 16 := headerOfBits (receivedSoFar m soft)

/-- The MIC length flag behind it, of a secured frame (R190). -/
def mic8SoFar (m : PhyMode) (soft : List Soft) : Bool :=
  phySecure (headerSoFar m soft) && ctrlMic8 ((bytesOfBits 11 (receivedSoFar m soft)).getD 10 0)

/-- A rejected header counts, and its frame is abandoned (R192). -/
theorem State.headerCheck_of_bad {s : State} {l : Lane} {soft : List Soft} (received : headerBits (s.lane l).mode ≤ soft.length)
    (bad : phyHeaderOk (headerSoFar (s.lane l).mode soft) = false) (f : RxFrame) :
    s.headerCheck l f soft = (s.setLane l { s.lane l with cntHdrBad := satInc (s.lane l).cntHdrBad }).abandonFrame l := by
  rw [headerSoFar] at bad
  simp [State.headerCheck, Nat.not_lt.mpr received, bad]

/-- A good header stays with the frame, with the MIC length once CTRL has come in a secured frame (R190, R192). -/
theorem State.headerCheck_of_good {s : State} {l : Lane} {soft : List Soft} (received : headerBits (s.lane l).mode ≤ soft.length)
    (good : phyHeaderOk (headerSoFar (s.lane l).mode soft) = true)
    (mac : phySecure (headerSoFar (s.lane l).mode soft) = true → macBits (s.lane l).mode ≤ soft.length)
    (within : soft.length ≤ paddedBits (s.lane l).mode (bodyLength (headerSoFar (s.lane l).mode soft) (mic8SoFar (s.lane l).mode soft)))
    (f : RxFrame) : s.headerCheck l f soft = s.setLane l { s.lane l with
      frame := some { f with header := some (headerSoFar (s.lane l).mode soft), mic8 := mic8SoFar (s.lane l).mode soft, soft := soft } } := by
  have accepted : ¬(!phyHeaderOk (headerSoFar (s.lane l).mode soft)) = true := by simp [good]
  have complete : ¬(phySecure (headerSoFar (s.lane l).mode soft) && decide (soft.length < macBits (s.lane l).mode)) = true := by simpa using mac
  exact (if_neg (Nat.not_lt.mpr received)).trans ((if_neg accepted).trans ((if_neg complete).trans (if_neg (Nat.not_lt.mpr within))))

theorem exec_adcClip {s : State} {l : Lane} (frame : (s.lane l).stage = .frame) :
    exec .adcClip s = .next ({ s with radio.clip := true, radio.clipFresh := true }.setLeaf .radioClip) := by
  have held : ((s.lane .a).stage == .frame || (s.lane .b).stage == .frame) = true := by cases l <;> simp [frame]
  show execAdcClip s = _
  simp only [execAdcClip, whenDo, held, if_true]

-- Loss of lock

theorem exec_synthUnlock {s : State} (on : s.radio.synthOn = true) : exec .synthUnlock s = .next s.synthUnlock := by
  show execSynthUnlock s = _
  simp only [execSynthUnlock, whenDo, on, if_true]

theorem exec_synthRelock {s : State} (lost : s.radio.use = .relocking) :
    exec .synthRelock s = .next ({ s with radio.use := .receive }.applyLanes true) := by
  show execSynthRelock s = _
  simp [execSynthRelock, whenDo, lost]

/-- A lane stops, and restarts after the relock if it was receiving (R218, R228). -/
def State.stopUntilRelock (s : State) (l : Lane) : State :=
  s.setLane l { s.lane l with stage := .off, rssi := 0x80, resume := (s.lane l).stage != .off }

theorem State.stopUntilRelock_upkeep (s : State) (l : Lane) : s.Upkeep (s.stopUntilRelock l) := State.setLane_upkeep (.inr rfl) rfl

/-- The radio has lost its lock, no lane holds a frame any more, and neither has stopped yet. -/
def State.lockLost (s : State) : State :=
  { ((s.setLeaf .radioSynthUnlock).abandonFrame .a).abandonFrame .b with radio.use := .relocking }

theorem State.synthUnlock_of_receive {s : State} (receives : s.radio.use = .receive) :
    s.synthUnlock = (s.lockLost.stopUntilRelock .a).stopUntilRelock .b := by
  simp only [State.synthUnlock, receives]
  rfl

theorem State.lockLost_spec (s : State) : s.lockLost.core = s.core ∧ (∀ l, (s.lockLost.lane l).frame = none) ∧
    (s.lockLost.cause.leaf[0]).getLsbD 2 = true := by
  have second := ((s.setLeaf .radioSynthUnlock).abandonFrame .a).abandonFrame_upkeep .b
  have both := second.after ((s.setLeaf .radioSynthUnlock).abandonFrame_upkeep .a)
  refine ⟨both.core.trans (by simp), fun l => ?_, both.leaf _ (State.setLeaf_leaf_getLsbD _ (l := .radioSynthUnlock) (by decide))⟩
  show ((((s.setLeaf .radioSynthUnlock).abandonFrame .a).abandonFrame .b).lane l).frame = none
  cases l with
  | a => simpa [State.abandonFrame_frame] using second.frame .a
  | b => exact State.abandonFrame_frame _ .b

/-- A loss of lock while receiving: the radio relocks, no lane holds a frame, and the leaf stands (R228). -/
theorem State.synthUnlock_spec {s : State} (receives : s.radio.use = .receive) : s.synthUnlock.radio.use = .relocking ∧
    (∀ l, (s.synthUnlock.lane l).frame = none) ∧ (s.synthUnlock.cause.leaf[0]).getLsbD 2 = true ∧ s.synthUnlock.core = s.core := by
  have stopped := (State.stopUntilRelock_upkeep _ .b).after (s.lockLost.stopUntilRelock_upkeep .a)
  obtain ⟨core, frame, leaf⟩ := s.lockLost_spec
  rw [State.synthUnlock_of_receive receives]
  exact ⟨stopped.use, fun l => by simpa [frame] using stopped.frame l, stopped.leaf _ leaf, stopped.core.trans core⟩

-- The statement's parts

theorem detection_decides {s : State} {l : Lane} {phase : Fin 8000} (searching : ((s.reach phase).lane l).stage = .searching) (f : Vector Int 8)
    (rssi : BitVec 8) :
    let u := s.reach phase
    let x := u.lane l
    let heard := x.mode.preambleDeviation u.radio.s3Wide * 65536 * 8 ≤ 2 * (alternatingSum f.toList).natAbs * 4000000 ∧
      u.radio.detRssi.toInt ≤ rssi.toInt ∧ f.toList.sum.natAbs * 4000000 ≤ x.mode.capture * 65536 * 8
    (heard → exec (.laneDetection l f rssi phase) s = .next (u.setLane l { x with
      rssi := rssi, stage := .detected, coarse := f.toList.sum / 8, nco := f.toList.sum / 8, wide := u.radio.s3Wide
      sync := u.radio.syncWord l, syncTol := u.radio.syncTol.toNat })) ∧
    (¬heard → exec (.laneDetection l f rssi phase) s = .next (u.setLane l { x with rssi := rssi })) := by
  intro u x heard
  have detects := u.detects_iff x.mode f.toList rssi
  have mean := meanOf_eq f.toList
  rw [Vector.length_toList] at detects mean
  rw [exec_laneDetection searching]
  refine ⟨fun h => ?_, fun h => ?_⟩
  · rw [State.detect, if_pos (detects.mpr h), mean]
    rfl
  · rw [State.detect, if_neg (mt detects.mp h)]

theorem fineEstimate_estimates {s : State} {l : Lane} (detected : (s.lane l).stage = .detected) (f : Vector Int 16) (rssi : BitVec 8) :
    let d := BitVec.ofInt 16 (f.toList.sum / 16)
    ∃ tau : Int, (0 < alternatingSum f.toList → tau = 0) ∧ (alternatingSum f.toList < 0 → tau = 65536) ∧
      s.completes (.fineEstimate l f rssi) fun t =>
        t.lane l = { s.lane l with
          stage := .estimated, offset := d, nco := (s.lane l).coarse + d.toInt, tau := tau, rssi := rssi, frameRssi := rssi } ∧
        t.lane (otherLane l) = s.lane (otherLane l) ∧ t.link = s.link ∧ t.core = s.core ∧ t.mem = s.mem := by
  intro d
  have mean := meanOf_eq f.toList
  rw [Vector.length_toList] at mean
  obtain ⟨tau, n, pos, neg, estimate⟩ := s.estimate_eq l f.toList rssi
  refine ⟨tau, pos, neg, _, exec_fineEstimate detected f rssi, ?_⟩
  rw [estimate, mean]
  exact ⟨State.lane_setLane_same .., State.lane_setLane_other .., rfl, rfl, rfl⟩

/-- A sync with a FREE line: the lane freezes in its frame, and the line is the link controller's, cleared (R209, R256, R624). -/
theorem State.synced_takes_line {s : State} {n : Nat} (free : s.link.lowestFree = some n) (l : Lane) (offsets phases : List Int) :
    let t := s.synced l offsets phases
    t.lane l = { (s.lane l).refine offsets phases with
      stage := .frame, cntSync := satInc (s.lane l).cntSync, frame := some (s.newFrame [n]) } ∧
    t.link.ownerOf n = .link ∧ (∀ k, k ≠ n → t.link.ownerOf k = s.link.ownerOf k) ∧
    (∀ k, k < 128 → memGet t.mem (lineBase n + k) = 0) ∧ t.storedCheck n = 0 ∧
    (∀ b, b < lineBase n ∨ lineBase n + 128 ≤ b → memGet t.mem b = memGet s.mem b) ∧ t.core = s.core := by
  have gallery := LinkBlock.lowestFree_lt free
  have line : (s.setLane l ((s.lane l).refine offsets phases)).link.lowestFree = some n := free
  simp only [State.synced, State.sync_of_line line, State.pulse_lane, State.pulse_link, State.pulse_mem, State.pulse_core, State.pulse_storedCheck]
  refine ⟨?_, State.ownerOf_setOwner_same gallery _ _, fun k hk => ?_, fun k hk => State.takeLine_inside _ _ gallery hk,
    State.takeLine_storedCheck .., fun b hb => State.takeLine_outside _ _ _ hb, rfl⟩
  · simp only [State.takeLine_lane, State.inFrame, State.lane_setLane_same]
    rfl
  · rw [State.takeLine_link, State.ownerOf_setOwner_of_ne hk]
    simp [State.inFrame, LinkBlock.ownerOf]

/-- A sync without a FREE line (R257). -/
theorem State.synced_drops {s : State} (full : s.link.lowestFree = none) (l : Lane) (offsets phases : List Int) :
    let t := s.synced l offsets phases
    (t.lane l).frame = none ∧ t.link.dropGallery = satInc s.link.dropGallery ∧ (t.cause.leaf[1]).getLsbD 2 = true ∧ t.mem = s.mem := by
  have none : (s.setLane l ((s.lane l).refine offsets phases)).link.lowestFree = none := full
  obtain ⟨frame, drop, leaf⟩ := ((s.setLane l ((s.lane l).refine offsets phases)).inFrame l []).galleryFull_drops l
  simp only [State.synced, State.sync_of_full none, State.pulse_lane, State.pulse_link, State.pulse_mem, State.pulse_cause]
  exact ⟨frame, drop.trans (by simp [State.inFrame]), leaf, by simp [State.inFrame]⟩

/-- Settles O43, clause by clause. What the lane measures is compared as the rules say (`State.detects_iff`, `LaneBlock.pulledIn_iff`); a sync
takes a line (`State.synced_takes_line`) or drops its frame (`State.synced_drops`); and a frame given up for a bad header, or for the lock, is gone
after all upkeep (`State.abandonFrame_frame`, `State.Upkeep`). -/
theorem lanesAcquireFrames : Obligations.LanesAcquireFrames := by
  unfold Obligations.LanesAcquireFrames
  intro s l phase x s1 x1 half
  have alternates : half = alternatingSum := funext sum_range_eq_alternatingSum
  clear_value half
  subst alternates
  refine ⟨fun f rssi searching => detection_decides searching f rssi, fun f rssi detected => fineEstimate_estimates detected f rssi, ?_,
    exec_noSync, ?_, ?_, ?_, ?_, ?_⟩
  · intro decisions offsets phases estimated pullIn capture agrees
    have synced := exec_syncFound (decisions := decisions) estimated (x1.pulledIn_iff.mpr ⟨pullIn, capture⟩)
      (by rwa [bitsWrong_eq_countP]) offsets phases
    refine ⟨fun n free => ⟨_, synced, ?_⟩, fun full => ⟨_, synced, ?_⟩⟩
    · have nco := meanOf_eq offsets.toList
      have tau := meanOf_eq phases.toList
      rw [Vector.length_toList] at nco tau
      obtain ⟨lane, taken, others, cleared, check, outside, core⟩ :=
        State.synced_takes_line (s := s.reach phase) free l offsets.toList phases.toList
      exact ⟨congrArg LaneBlock.stage lane, congrArg LaneBlock.cntSync lane, (congrArg LaneBlock.offset lane).trans rfl,
        (congrArg LaneBlock.nco lane).trans (congrArg (x1.coarse + ·) nco), (congrArg LaneBlock.tau lane).trans tau,
        congrArg (fun y => y.frame.map (·.lines)) lane, taken, others, cleared, check, fun b hb => (outside b hb).trans (by simp), core.trans (by simp)⟩
    · obtain ⟨frame, drop, leaf, mem⟩ := State.synced_drops full l offsets.toList phases.toList
      exact ⟨frame, drop, leaf, mem.trans (s.reach_mem _)⟩
  · intro f n frame short free
    exact ⟨_, exec_lineExtend frame short free, by simp, State.ownerOf_setOwner_same (LinkBlock.lowestFree_lt free) _ _,
      fun b hb => State.takeLine_outside _ _ _ hb⟩
  · intro f soft frame fresh received got h mic8
    refine ⟨fun good mac within => ?_, fun bad => ⟨_, exec_phyHeaderCheck frame fresh soft, ?_⟩⟩
    · rw [exec_phyHeaderCheck frame fresh, State.headerCheck_of_good received good mac within]
      rfl
    · rw [State.headerCheck_of_bad received bad]
      have upkeep := State.abandonFrame_upkeep (s.setLane l { x with cntHdrBad := satInc x.cntHdrBad }) l
      exact ⟨State.abandonFrame_frame _ l, (upkeep.hdrBad l).trans (by simp), by simp, upkeep.core⟩
  · exact fun frame => ⟨_, exec_adcClip frame, rfl, State.setLeaf_leaf_getLsbD _ (l := .radioClip) (by decide), rfl, rfl⟩
  · intro on receives
    obtain ⟨use, frame, leaf, core⟩ := State.synthUnlock_spec receives
    exact ⟨_, exec_synthUnlock on, use, frame l, leaf, core, by simp⟩
  · intro lost
    have upkeep := State.applyLanes_upkeep { s with radio.use := .receive } true
    exact ⟨_, exec_synthRelock lost, upkeep.use, upkeep.core, by simp⟩

end Sys2Proof.Machine
end

section
/-!
PROOFS. The end of a received frame (R190, R201, R219, R256 to R261) and the security checks of a delivered one (R301 to R303).
-/
namespace Sys2Proof.Machine

-- Lines and delivery

@[simp] theorem State.setOwners_radio (s : State) (ns : List Nat) (o : Owner) : (s.setOwners ns o).radio = s.radio :=
  List.foldlRecOn (motive := fun t : State => t.radio = s.radio) ns _ rfl fun t h n _ => (t.setOwner_radio n o).trans h

@[simp] theorem State.writeLine_link (s : State) (n off : Nat) (bs : List Byte) : (s.writeLine n off bs).link = s.link := rfl
@[simp] theorem State.writeLine_radio (s : State) (n off : Nat) (bs : List Byte) : (s.writeLine n off bs).radio = s.radio := rfl

@[simp] theorem State.writeLines_link (s : State) (ns : List Nat) (off : Nat) (bs : List Byte) : (s.writeLines ns off bs).link = s.link := by
  induction ns generalizing s off bs with
  | nil => rfl
  | cons n ns ih => unfold State.writeLines; split <;> simp [ih]

@[simp] theorem State.writeLines_radio (s : State) (ns : List Nat) (off : Nat) (bs : List Byte) : (s.writeLines ns off bs).radio = s.radio := by
  induction ns generalizing s off bs with
  | nil => rfl
  | cons n ns ih => unfold State.writeLines; split <;> simp [ih]

/-- Writing a frame's lines changes no byte outside them. -/
theorem State.writeLines_outside {s : State} {ns : List Nat} {off b : Nat} {bs : List Byte}
    (h : ∀ n ∈ ns, b < lineBase n ∨ lineBase n + 128 ≤ b) : memGet (s.writeLines ns off bs).mem b = memGet s.mem b := by
  induction ns generalizing s off bs with
  | nil => rfl
  | cons n ns ih =>
    have rest := fun m hm => h m (List.mem_cons_of_mem n hm)
    unfold State.writeLines
    split
    · exact ih rest
    · exact (ih rest).trans (writeLine_outside (h n List.mem_cons_self))

/-- With RX_AUTO 0 a frame is handed to the core (R261). -/
theorem State.deliver_to_core {s : State} (manual : s.link.rxAuto = false) (lines : List Nat) : s.deliver lines =
    { s with link.toCore := s.link.toCore ++ lines, link.rxqNext := s.link.rxqNext ++ lines.take 1 }.setLeaf .linkRxFrame := by
  simp [State.deliver, manual]

/-- The job that counts a frame changes nothing else of the link controller. -/
theorem State.countFrame_link (s : State) (n : Option (Fin 16)) : ∃ jobs, s.countFrame n = { s with link.jobs := jobs } := by
  cases n with
  | none => exact ⟨s.link.jobs, rfl⟩
  | some n => exact ⟨_, rfl⟩

/-- What the hand-over to the core leaves: its lines on their way, its first line in the queue, LINK.RX_FRAME set (R261). -/
theorem State.handOver_spec {s : State} (manual : s.link.rxAuto = false) (lines : List Nat) (job : Option (Fin 16)) :
    let t := (s.deliver lines).countFrame job
    t.mem = s.mem ∧ t.radio = s.radio ∧ t.link.checking = s.link.checking ∧ t.link.evGood = s.link.evGood ∧
      t.link.toCore = s.link.toCore ++ lines ∧ t.link.rxqNext = s.link.rxqNext ++ lines.take 1 ∧ (t.cause.leaf[1]).getLsbD 0 = true ∧
      ∀ {g k : Nat} (hg : g < 15), (s.cause.leaf[g]).getLsbD k = true → (t.cause.leaf[g]).getLsbD k = true := by
  obtain ⟨jobs, counted⟩ := (s.deliver lines).countFrame_link job
  rw [counted, State.deliver_to_core manual]
  exact ⟨rfl, rfl, rfl, rfl, rfl, rfl, State.setLeaf_leaf_getLsbD _ (l := .linkRxFrame) (by decide),
    fun hg h => State.setLeaf_keeps_leaf _ _ hg h⟩

-- The verdict

/-- After its verdict a lane holds no frame and goes on (R209, R242). -/
def State.endVerdict (s : State) (l : Lane) : State := (s.setLane l { s.lane l with frame := none }).releaseLane l

theorem State.endVerdict_upkeep (s : State) (l : Lane) : s.Upkeep (s.endVerdict l) :=
  (State.releaseLane_upkeep _ l).after (State.setLane_upkeep (.inl rfl) rfl)

theorem LinkBlock.windowOn_of_none {k : LinkBlock} (closed : k.windows = []) (l : Lane) : k.windowOn l = none := by
  simp [LinkBlock.windowOn, closed]

theorem State.verdict_of_bad {s : State} {hdr : BitVec 16} {body : List Byte} {crc : Word} (closed : s.link.windows = [])
    (bad : frameCrc hdr body ≠ crc) (l : Lane) (f : RxFrame) (corrected frameEnd : Nat) :
    s.verdict l f hdr body crc corrected frameEnd = (s.setOwners f.lines .free).endVerdict l := by
  simp [State.verdict, LinkBlock.windowOn_of_none closed, bad, State.endVerdict]

theorem State.verdict_of_good {s : State} {hdr : BitVec 16} {body : List Byte} {crc : Word} (closed : s.link.windows = [])
    (good : frameCrc hdr body = crc) (data : phyAckFrame hdr = false) (l : Lane) (f : RxFrame) (corrected frameEnd : Nat) :
    s.verdict l f hdr body crc corrected frameEnd =
      ({ s with link.evGood := s.link.evGood + 1 }.goodData l f hdr body crc corrected frameEnd).endVerdict l := by
  simp [State.verdict, LinkBlock.windowOn_of_none closed, good, data, State.endVerdict]

/-- The radio's bookkeeping of a good frame's key: duplicate cache and candidates (R278, R279). -/
def State.noteKey (s : State) (key : BitVec 16 × Byte) : State := { s with link := s.link.dupInsert key }.suppress key

theorem LinkBlock.dupInsert_eq (k : LinkBlock) (key : BitVec 16 × Byte) : ∃ keys, k.dupInsert key = { k with dupCache := keys } := by
  unfold LinkBlock.dupInsert
  split
  · exact ⟨k.dupCache, rfl⟩
  · exact ⟨_, rfl⟩

/-- A good broadcast frame that asks for nothing is written to its lines and handed over (R260, R261, R264, R289). -/
theorem State.goodData_of_broadcast {s : State} {l : Lane} {hdr : BitVec 16} {body : List Byte} (plain : phyAckReq hdr = false)
    (unsecured : phySecure hdr = false) (noPolicy : (s.lane l).policy = none) (net : s.mesh.netMatches body = true) (all : macDest body = 0xFFFF)
    (fresh : s.link.dupCache.contains (macSrc body, macSeq body) = false) (f : RxFrame) (crc : Word) (corrected frameEnd : Nat) :
    s.goodData l f hdr body crc corrected frameEnd =
      (((s.noteKey (macSrc body, macSeq body)).writeLines f.lines 0
        (rxRecord (s.lane l).mode l false false false false (s.lane l) (lqi (s.lane l).mode body.length corrected) hdr (stampOf frameEnd)
          (timestamp f.syncDrip f.syncPhase) f.lines body.length crc ++ body)).deliver f.lines).countFrame (s.countingJob l) := by
  have new : (macSrc body, macSeq body) ∉ s.link.dupCache := by simpa using fresh
  simp [State.goodData, plain, unsecured, noPolicy, net, all, new, State.noteKey, State.setLeafIf]

/-- Noting a key changes the duplicate cache and the candidates alone. -/
theorem State.noteKey_keeps (s : State) (key : BitVec 16 × Byte) :
    let t := s.noteKey key
    t.mem = s.mem ∧ t.radio = s.radio ∧ t.link.rxAuto = s.link.rxAuto ∧ t.link.evGood = s.link.evGood ∧ t.link.toCore = s.link.toCore ∧
      t.link.rxqNext = s.link.rxqNext := by
  obtain ⟨keys, inserted⟩ := s.link.dupInsert_eq key
  rw [State.noteKey, inserted]
  exact ⟨rfl, rfl, rfl, rfl, rfl, rfl⟩

/-- A good frame handed over to the core, with its lines written and nothing else of the gallery. -/
theorem State.goodData_hands_over {s : State} {l : Lane} {hdr : BitVec 16} {body : List Byte} (plain : phyAckReq hdr = false)
    (unsecured : phySecure hdr = false) (noPolicy : (s.lane l).policy = none) (net : s.mesh.netMatches body = true) (all : macDest body = 0xFFFF)
    (fresh : s.link.dupCache.contains (macSrc body, macSeq body) = false) (manual : s.link.rxAuto = false) (f : RxFrame) (crc : Word)
    (corrected frameEnd : Nat) :
    let t := s.goodData l f hdr body crc corrected frameEnd
    t.radio = s.radio ∧ t.link.evGood = s.link.evGood ∧ t.link.toCore = s.link.toCore ++ f.lines ∧
      t.link.rxqNext = s.link.rxqNext ++ f.lines.take 1 ∧ (t.cause.leaf[1]).getLsbD 0 = true ∧
      ∀ b, (∀ n ∈ f.lines, b < lineBase n ∨ lineBase n + 128 ≤ b) → memGet t.mem b = memGet s.mem b := by
  rw [State.goodData_of_broadcast plain unsecured noPolicy net all fresh]
  obtain ⟨mem', radio', rxAuto', evGood', toCore', rxqNext'⟩ := s.noteKey_keeps (macSrc body, macSeq body)
  have handed (bs : List Byte) := State.handOver_spec (s := (s.noteKey (macSrc body, macSeq body)).writeLines f.lines 0 bs)
    (by rw [State.writeLines_link, rxAuto', manual]) f.lines (s.countingJob l)
  obtain ⟨mem, radio, -, evGood, toCore, rxqNext, leaf, -⟩ := handed _
  refine ⟨radio.trans ((State.writeLines_radio ..).trans radio'), ?_, ?_, ?_, leaf, fun b hb => ?_⟩
  · rw [evGood, State.writeLines_link, evGood']
  · rw [toCore, State.writeLines_link, toCore']
  · rw [rxqNext, State.writeLines_link, rxqNext']
  · rw [mem, State.writeLines_outside hb, mem']

-- The frame end

/-- The frame of a lane with its last coded bits (R190, R200). -/
def RxFrame.complete (f : RxFrame) (soft : List Soft) : RxFrame := { f with soft := f.soft ++ soft, ended := true }

/-- A lane with the frame that it holds at its verdict. -/
def State.holding (s : State) (l : Lane) (f : RxFrame) : State := s.setLane l { s.lane l with frame := some f }

@[simp] theorem State.holding_frame (s : State) (l : Lane) (f : RxFrame) : ((s.holding l f).lane l).frame = some f :=
  congrArg LaneBlock.frame (State.lane_setLane_same ..)

@[simp] theorem State.holding_mode (s : State) (l : Lane) (f : RxFrame) : ((s.holding l f).lane l).mode = (s.lane l).mode := by
  rw [State.holding, State.lane_setLane_same]

@[simp] theorem State.holding_policy (s : State) (l : Lane) (f : RxFrame) : ((s.holding l f).lane l).policy = (s.lane l).policy := by
  rw [State.holding, State.lane_setLane_same]

theorem State.extendTo_of_enough {s : State} {l : Lane} {f : RxFrame} {need : Nat} (frame : (s.lane l).frame = some f)
    (enough : need ≤ f.lines.length) (n : Nat) : s.extendTo l need n = s := by
  cases n with
  | zero => rfl
  | succ n => simp [State.extendTo, frame, Nat.not_lt.mpr enough]

/-- A frame with all its lines is judged by what the lane decodes (R190, R200, R201). -/
theorem State.judgeFrame_of_enough {s : State} {l : Lane} {f : RxFrame} {hdr : BitVec 16} {body : List Byte} {crc : Word} {corrected : Nat}
    (frame : (s.lane l).frame = some f) (enough : (32 + bodyLength hdr f.mic8 + 127) / 128 ≤ f.lines.length)
    (decoded : decodeFrame (s.lane l).mode (bodyLength hdr f.mic8) f.soft = (body, crc, corrected)) :
    s.judgeFrame l f hdr =
      (s.verdict l f hdr body crc corrected (linear f.syncDrip f.syncPhase + sectionCycles (s.lane l).mode (bodyLength hdr f.mic8))).pulse
        (if l == .a then 11 else 12) := by
  simp only [State.judgeFrame, State.extendTo_of_enough frame enough, frame, decoded]

theorem State.judgeWaiting_of_none {s : State} (none : ∀ g, (s.lane .b).frame = some g → g.ended = false) : s.judgeWaiting = s := by
  unfold State.judgeWaiting
  split
  · next g frame =>
    split
    · rw [none g frame]; rfl
    · rfl
  · rfl

theorem exec_crcVerdict {s u : State} {l : Lane} {f : RxFrame} {h : BitVec 16} {soft : List Soft} (frame : (s.lane l).frame = some f)
    (header : f.header = some h) (complete : f.soft.length + soft.length = paddedBits (s.lane l).mode (bodyLength h f.mic8))
    (reached : s.reachTime (linear f.syncDrip f.syncPhase + sectionCycles (s.lane l).mode (bodyLength h f.mic8)) = some u) :
    exec (.crcVerdict l soft) s =
      .next (u.endFrame l f h (linear f.syncDrip f.syncPhase + sectionCycles (s.lane l).mode (bodyLength h f.mic8)) soft) := by
  show execCrcVerdict l soft s = _
  simp [execCrcVerdict, frame, header, complete, reached]

/-- The verdict of a frame of lane `l` that ends at `e` is the only one to fall now: no ACK window is open, the frame has its lines, lane A's
verdict of the same cycle is not still to come, and lane B's does not wait for this one (R219, R269, R325). -/
structure State.JudgesOne (u : State) (l : Lane) (f : RxFrame) (h : BitVec 16) (e : Nat) : Prop where
  closed : u.link.windows = []
  enough : (32 + bodyLength h f.mic8 + 127) / 128 ≤ f.lines.length
  first : u.waitsForA l e = false
  alone : ∀ g, (u.lane .b).frame = some g → g.ended = false

/-- Linear time of the frame end as a lane computes it at its verdict (R179, R199). -/
def State.frameEnd (u : State) (l : Lane) (f : RxFrame) (h : BitVec 16) : Nat :=
  linear f.syncDrip f.syncPhase + sectionCycles (u.lane l).mode (bodyLength h f.mic8)

/-- The frame end of a frame that is judged alone leaves what its verdict leaves, and the producer's pulse. -/
theorem State.endFrame_of_verdict {u w : State} {l : Lane} {f : RxFrame} {h : BitVec 16} {e : Nat} {soft : List Soft} {body : List Byte}
    {crc : Word} {corrected : Nat} (one : u.JudgesOne l f h e)
    (decoded : decodeFrame (u.lane l).mode (bodyLength h f.mic8) (f.soft ++ soft) = (body, crc, corrected))
    (judged : (u.holding l (f.complete soft)).verdict l (f.complete soft) h body crc corrected (u.frameEnd l f h) = w.endVerdict l)
    (radio : w.radio = (u.holding l (f.complete soft)).radio) : ∃ p, u.endFrame l f h e soft = (w.endVerdict l).pulse p := by
  have decoded' : decodeFrame ((u.holding l (f.complete soft)).lane l).mode (bodyLength h (f.complete soft).mic8) (f.complete soft).soft =
      (body, crc, corrected) := by
    rw [State.holding_mode]
    exact decoded
  have verdict : (u.holding l (f.complete soft)).judgeFrame l (f.complete soft) h = (w.endVerdict l).pulse (if l == .a then 11 else 12) := by
    have judge := State.judgeFrame_of_enough (State.holding_frame u l (f.complete soft)) one.enough decoded'
    rw [State.holding_mode] at judge
    exact judge.trans (congrArg (State.pulse · _) judged)
  refine ⟨if l == .a then 11 else 12, ?_⟩
  show (if u.waitsForA l e then _ else if l == .a then ((u.holding l (f.complete soft)).judgeFrame l (f.complete soft) h).judgeWaiting
    else (u.holding l (f.complete soft)).judgeFrame l (f.complete soft) h) = _
  rw [one.first, verdict]
  cases l with
  | b => rfl
  | a =>
    refine State.judgeWaiting_of_none fun g frame => one.alone g ?_
    have other : (w.lane .b).frame = (u.lane .b).frame := congrArg LaneBlock.frame (State.lane_of_radio radio .b)
    rw [State.pulse_lane] at frame
    rw [← other]
    exact ((w.endVerdict_upkeep .a).frame .b).elim (fun none => by simp [none] at frame) fun same => same.symm.trans frame

/-- After the verdict the lane holds no frame, and the upkeep of the radio follows. -/
theorem State.endVerdict_pulse_spec (w : State) (l : Lane) (p : Nat) :
    w.Upkeep ((w.endVerdict l).pulse p) ∧ (((w.endVerdict l).pulse p).lane l).frame = none ∧ ((w.endVerdict l).pulse p).mem = w.mem :=
  ⟨(State.pulse_upkeep _ p).after (w.endVerdict_upkeep l), by rw [State.pulse_lane]; exact State.releaseLane_frame _ l,
    by simp [State.endVerdict]⟩

-- The security checks

/-- The oldest frame under check with NO_KEY in its record and its payload zeros (R303, R304). -/
def State.recordNoKey (s : State) (c : CheckFrame) (rest : List CheckFrame) : State :=
  ({ s with link.checking := rest }.writeLines c.lines 1 [0x04]).writeLines c.lines 46
    (List.replicate (c.body.length - 14 - micLen (ctrlMic8 (macCtrl c.body))) 0#8)

@[simp] theorem State.recordNoKey_link (s : State) (c : CheckFrame) (rest : List CheckFrame) :
    (s.recordNoKey c rest).link = { s.link with checking := rest } := by
  rw [State.recordNoKey, State.writeLines_link, State.writeLines_link]

/-- The result in the record stays when the payload behind it is written. -/
theorem State.recordNoKey_result {s : State} {c : CheckFrame} {n : Nat} (canonical : s.memOk) (line : c.lines = [n]) (rest : List CheckFrame) :
    memGet (s.recordNoKey c rest).mem (lineBase n + 1) = 0x04 := by
  have record : memGet (memPutBytes s.mem (lineBase n + 1) [0x04#8]) (lineBase n + 1 + 0) = 0x04#8 :=
    memGet_memPutBytes_inside canonical (by simp)
  rw [State.recordNoKey, line]
  refine Eq.trans (memGet_memPutBytes_outside (.inl ?_)) record
  omega

theorem State.recordNoKey_outside {s : State} {c : CheckFrame} {b : Nat} (h : ∀ n ∈ c.lines, b < lineBase n ∨ lineBase n + 128 ≤ b)
    (rest : List CheckFrame) : memGet (s.recordNoKey c rest).mem b = memGet s.mem b := by
  rw [State.recordNoKey, State.writeLines_outside h, State.writeLines_outside h]

/-- SECURITY_CHECK of a frame whose slot held no key (R301 to R304). -/
theorem State.securityCheck_of_no_key {s : State} {c : CheckFrame} {rest : List CheckFrame} (oldest : s.link.checking = c :: rest)
    (noKey : c.cur = none) : s.securityCheck = (((s.recordNoKey c rest).setLeaf .meshKeyMiss).deliver c.lines).countFrame c.job := by
  simp [State.securityCheck, oldest, State.securityResult, selectKey, noKey, SecStat.leaf, SecStat.code, State.recordNoKey]

theorem exec_securityCheck (s : State) : exec .securityCheck s = .next s.securityCheck := by
  show execSecurityCheck s = _
  rfl

/-- A frame whose slot held no key is handed over with NO_KEY in its record, and MESH.KEY_MISS is set (R301 to R304). -/
theorem State.securityCheck_hands_over {s : State} {c : CheckFrame} {rest : List CheckFrame} {n : Nat} (oldest : s.link.checking = c :: rest)
    (line : c.lines = [n]) (noKey : c.cur = none) (canonical : s.memOk) (manual : s.link.rxAuto = false) :
    let t := s.securityCheck
    t.link.checking = rest ∧ memGet t.mem (lineBase n + 1) = 0x04 ∧ (t.cause.leaf[2]).getLsbD 1 = true ∧
      t.link.toCore = s.link.toCore ++ [n] ∧ t.link.rxqNext = s.link.rxqNext ++ [n] ∧
      ∀ b, b < lineBase n ∨ lineBase n + 128 ≤ b → memGet t.mem b = memGet s.mem b := by
  rw [State.securityCheck_of_no_key oldest noKey]
  obtain ⟨mem, -, checking, -, toCore, rxqNext, -, leaf⟩ :=
    State.handOver_spec (s := (s.recordNoKey c rest).setLeaf .meshKeyMiss) (by simpa using manual) c.lines c.job
  rw [State.setLeaf_mem] at mem
  refine ⟨?_, ?_, leaf _ (State.setLeaf_leaf_getLsbD _ (l := .meshKeyMiss) (by decide)), ?_, ?_, fun b hb => ?_⟩
  · rw [checking, State.setLeaf_link, State.recordNoKey_link]
  · rw [mem, State.recordNoKey_result canonical line]
  · rw [toCore, State.setLeaf_link, State.recordNoKey_link, line]
  · rw [rxqNext, State.setLeaf_link, State.recordNoKey_link, line]
    rfl
  · rw [mem, State.recordNoKey_outside (by simpa [line] using hb)]

-- The statement's parts

section
variable {u : State} {l : Lane} {f : RxFrame} {h : BitVec 16} {e : Nat} {soft : List Soft} {body : List Byte} {crc : Word} {corrected : Nat}

/-- A frame with a bad CRC frees its lines, and nothing is counted (R201). -/
theorem State.endFrame_of_bad (one : u.JudgesOne l f h e)
    (decoded : decodeFrame (u.lane l).mode (bodyLength h f.mic8) (f.soft ++ soft) = (body, crc, corrected)) (bad : frameCrc h body ≠ crc) :
    let t := u.endFrame l f h e soft
    (t.lane l).frame = none ∧ (∀ n ∈ f.lines, t.link.ownerOf n = .free) ∧ t.link.evGood = u.link.evGood ∧
      t.link.rxqNext = u.link.rxqNext ∧ t.mem = u.mem := by
  let v := u.holding l (f.complete soft)
  have judged := State.verdict_of_bad (s := v) one.closed bad l (f.complete soft) corrected (u.frameEnd l f h)
  have freed : v.Upkeep (v.setOwners f.lines .free) := v.setOwners_free_upkeep f.lines
  obtain ⟨p, ended⟩ := State.endFrame_of_verdict one decoded judged (State.setOwners_radio ..)
  obtain ⟨upkeep, none, mem⟩ := State.endVerdict_pulse_spec (v.setOwners f.lines .free) l p
  rw [ended]
  exact ⟨none, fun n hn => upkeep.owner (v.ownerOf_setOwners_free hn), upkeep.evGood.trans freed.evGood,
    upkeep.rxqNext.trans freed.rxqNext, mem.trans (State.setOwners_mem ..)⟩

/-- A good plain broadcast frame is counted and handed over to the core (R260, R261, R901). -/
theorem State.endFrame_of_broadcast (one : u.JudgesOne l f h e)
    (decoded : decodeFrame (u.lane l).mode (bodyLength h f.mic8) (f.soft ++ soft) = (body, crc, corrected)) (good : frameCrc h body = crc)
    (data : phyAckFrame h = false) (plain : phyAckReq h = false) (unsecured : phySecure h = false) (noPolicy : (u.lane l).policy = none)
    (net : u.mesh.netMatches body = true) (all : macDest body = 0xFFFF)
    (fresh : u.link.dupCache.contains (macSrc body, macSeq body) = false) (manual : u.link.rxAuto = false) :
    let t := u.endFrame l f h e soft
    (t.lane l).frame = none ∧ t.link.evGood = u.link.evGood + 1 ∧ (u.link.toCore ++ f.lines).Sublist t.link.toCore ∧
      t.link.rxqNext = u.link.rxqNext ++ f.lines.take 1 ∧ (t.cause.leaf[1]).getLsbD 0 = true ∧
      ∀ b, (∀ n ∈ f.lines, b < lineBase n ∨ lineBase n + 128 ≤ b) → memGet t.mem b = memGet u.mem b := by
  let v := u.holding l (f.complete soft)
  let counted : State := { v with link.evGood := v.link.evGood + 1 }
  have judged := State.verdict_of_good (s := v) one.closed good data l (f.complete soft) corrected (u.frameEnd l f h)
  have handed := State.goodData_hands_over (s := counted) plain unsecured ((State.holding_policy ..).trans noPolicy) net all fresh manual
    (f.complete soft) crc corrected (u.frameEnd l f h)
  obtain ⟨radio, evGood, toCore, rxqNext, leaf, outside⟩ := handed
  obtain ⟨p, ended⟩ := State.endFrame_of_verdict one decoded judged radio
  obtain ⟨upkeep, none, mem⟩ := State.endVerdict_pulse_spec (counted.goodData l (f.complete soft) h body crc corrected (u.frameEnd l f h)) l p
  rw [ended]
  refine ⟨none, upkeep.evGood.trans evGood, ?_, upkeep.rxqNext.trans rxqNext, upkeep.leaf _ leaf, fun b hb => ?_⟩
  · have handedLines := upkeep.toCore
    rw [toCore] at handedLines
    exact handedLines
  · exact (congrArg (memGet · b) mem).trans (outside b hb)

end

/-- Settles O46: at its frame end the frame is judged by what the lane decodes (`State.endFrame_of_verdict`), which frees its lines
(`State.endFrame_of_bad`) or hands it over (`State.endFrame_of_broadcast`); a check without a key ends in the same hand-over
(`State.securityCheck_hands_over`). -/
theorem verdictsStoreOrFreeFrames : Obligations.VerdictsStoreOrFreeFrames := by
  unfold Obligations.VerdictsStoreOrFreeFrames
  intro s l f h soft B e
  constructor
  · intro frame header complete enough u reached closed first alone d body
    have mem : u.mem = s.mem := State.reachTime_mem reached
    have run := exec_crcVerdict frame header complete reached
    have one : u.JudgesOne l f h e := ⟨closed, enough, first, alone⟩
    have decoded : decodeFrame (u.lane l).mode (bodyLength h f.mic8) (f.soft ++ soft) = (body, d.2.1, d.2.2) := rfl
    constructor
    · intro bad
      obtain ⟨gone, freed, evGood, rxqNext, kept⟩ := State.endFrame_of_bad one decoded bad
      exact ⟨_, run, gone, freed, evGood, rxqNext, kept.trans mem⟩
    · intro good data plain unsecured noPolicy _ net all fresh manual
      obtain ⟨gone, evGood, toCore, rxqNext, leaf, outside⟩ :=
        State.endFrame_of_broadcast one decoded good data plain unsecured noPolicy net all fresh manual
      exact ⟨_, run, gone, evGood, toCore, rxqNext, leaf, fun b hb => (outside b hb).trans (by rw [mem])⟩
  · intro c rest n oldest line noKey canonical manual
    exact ⟨_, exec_securityCheck s, State.securityCheck_hands_over oldest line noKey canonical manual⟩

end Sys2Proof.Machine
end
